-- ==== Sys2Proof/Word.lean ====
section
/-! DEFINITION. The word types of the N1 model: bytes, the 32- and 64-bit words that the manual treats as bits, and
the binary32 pattern of its FP32 values. -/

namespace Sys2Proof

/-- One byte of a memory, a frame or a structure. -/
abbrev Byte := BitVec 8

/-- A 32-bit word, such as the word of a pennant mailbox (R395). -/
abbrev Word := BitVec 32

/-- The Halyard count, an unsigned 64-bit count of 1 ns ticks (R31). -/
abbrev Count := BitVec 64

/-- An IEEE 754-2019 binary32 pattern (R145, R544). -/
abbrev F32 := BitVec 32

/-- A string of bytes. -/
abbrev Bytes := List Byte

end Sys2Proof
end

