-- ==== Sys2Proof/Machine/Packets.lean ====
section
/-! DEFINITION. The contents of what reaches the device from outside and what it sends: dictionary requests, torus
packets and their payloads, Ethernet events, physical readings. Plain data; the fields carry the names that the manual
gives them. -/

namespace Sys2Proof.Machine
open Sys2Proof

/-- A request of the Dictionary Protocol (R364): its frame fields and the secured session it arrives in, if any. -/
structure DictReq where
  magic   : Nat
  version : Nat
  op      : Nat
  xid     : Nat
  session : Option Nat
  deriving DecidableEq, Repr, Inhabited

/-- One entry of a length table (R243). -/
structure LenEntry where
  req     : Nat
  kind    : Nat
  spec    : Nat
  count   : Nat
  tokbase : Nat
  start   : Nat
  context : Nat
  cls     : Nat
  deriving DecidableEq, Repr, Inhabited

/-- An admission record (R312). -/
structure AdmitRec where
  entry     : Nat
  ring      : Nat
  burgee    : Nat
  context   : Nat
  cls       : Nat
  spec      : Nat
  tag       : Nat
  maxNew    : Nat
  stop      : Nat
  promptLen : Nat
  deadline  : Nat
  deriving DecidableEq, Repr, Inhabited

/-- A candidate record of a BATCH (R312). -/
structure CandRec where
  entry  : Nat
  tokens : List Nat
  deriving DecidableEq, Repr, Inhabited

/-- The client content of a BATCH (R312). -/
structure BatchMsg where
  step   : Nat
  run    : Nat
  frame  : Nat
  len    : List LenEntry
  admits : List AdmitRec
  cands  : List CandRec
  deriving DecidableEq, Repr, Inhabited

/-- One record of a DECISION (R313). -/
structure DecRec where
  entry  : Nat
  accept : Nat
  mark   : Nat
  deriving DecidableEq, Repr, Inhabited

/-- The client content of a DECISION (R313). -/
structure DecMsg where
  step       : Nat
  run        : Nat
  outcome    : Nat
  commitBeat : Nat
  recs       : List DecRec
  deriving DecidableEq, Repr, Inhabited

/-- One routed token of an expert dispatch (R262): its number, the INT8 vector that feeds GATE and UP, and its experts
and FP32 weights in rank order. -/
structure Routed where
  token   : Nat
  x       : List Int
  experts : List Nat
  weights : List F32
  deriving DecidableEq, Repr, Inhabited

/-- The client content of an MCDATA multicast that dispatches experts (R262). -/
structure DispatchMsg where
  step  : Nat
  slot  : Nat
  home  : Nat
  items : List Routed
  deriving DecidableEq, Repr, Inhabited

/-- What a held multicast carries (R332). -/
inductive McBody where
  | batch    (b : BatchMsg)
  | decision (d : DecMsg)
  | mcdata   (d : DispatchMsg)
  deriving DecidableEq, Repr, Inhabited

/-- A copy of a held multicast: its target record (R308), the source, the link on which it came and its content. A copy
split in parts (R307) carries its content whole in part 0 and an empty content is not needed in the others. -/
structure McCopy where
  mcnum    : Nat
  src      : Nat
  mode     : Nat
  targets  : List Nat
  part     : Nat
  parts    : Nat
  deadline : Nat
  link     : Nat
  body     : McBody
  deriving DecidableEq, Repr, Inhabited

/-- The client content of a SCHED (R315), with the MCNUM of its target record, and the ring of the ingress entry that the
command came from, on which its completion is written. -/
structure SchedMsg where
  mcnum  : Nat
  ring   : Nat
  msgnum : Nat
  effect : Nat
  cmd    : Nat
  target : Nat
  tag    : Nat
  ttl    : Nat
  deriving DecidableEq, Repr, Inhabited

/-- The payload of a TIME flit (R309). -/
structure TimePayload where
  sendTick    : Nat
  sendPs      : Nat
  seq         : Nat
  echoSeq     : Nat
  echoTick    : Nat
  echoPs      : Nat
  sync        : Nat
  cand        : Nat
  prio        : Nat
  rootPrio    : Nat
  rootPos     : Nat
  regionBound : Nat
  rootBound   : Nat
  parentPos   : Nat
  deriving DecidableEq, Repr, Inhabited

/-- The payload of an INFO flit (R310), with the latencies of R302. -/
structure InfoPayload where
  pos    : Nat
  rings  : List Nat
  link   : Nat
  corner : List Nat
  extent : List Nat
  rate   : Nat
  sync   : Nat
  txLat  : Nat
  rxLat  : Nat
  deriving DecidableEq, Repr, Inhabited

/-- A flit as the receiver's PCS delivers it (R304): its header fields, its payload, how many codewords that ended with it were
corrected and uncorrectable, and whether its own codeword was correctable and its CRC holds (R300, R301). -/
structure Flit where
  ltype : Nat
  lseq  : Nat
  lack  : Nat
  lnack : Bool
  crpool : Nat
  crcnt : Nat
  vc    : Nat
  dl    : Nat
  ptype : Nat
  first : Bool
  last  : Bool
  mc    : Bool
  dst   : Nat
  src   : Nat
  tag   : Nat
  fseq  : Nat
  payload : Bytes
  corrected : Nat
  uncorrectable : Nat
  good  : Bool
  deriving DecidableEq, Repr, Inhabited

/-- What a REPORT on VC1 says (R361, R237, R269, R282, R456, R461). -/
inductive ReportMsg where
  /-- outcome of an ingress command decided on the head, for the tail to complete -/
  | outcome (ring op tag entry status reason beat : Nat) (adm : Option AdmitRec)
  /-- a command credit returned to the head -/
  | credit (ring : Nat)
  /-- the entry's completions wait for host-ring room (R282) -/
  | held (entry : Nat) (on : Bool)
  /-- the tail has written the entry's final completion (R269) -/
  | freed (entry : Nat)
  /-- a member now holds the pages of the named entries (R237) -/
  | backed (member : Nat) (entries : List Nat)
  /-- contexts of the errors a member detected in a run of a step (R456) -/
  | errors (member step run : Nat) (contexts : List Nat)
  /-- a cause of a context reset met on another member (R461) -/
  | resetCause (member context : Nat) (byFault : Bool)
  deriving DecidableEq, Repr, Inhabited

/-- A PTP event or general message as it reaches the port (R368). -/
inductive PtpMsg where
  /-- a Sync whose offset from the master, in ns, the delay mechanism has completed, and the PTP time in ns at the
  first tick of the present beat -/
  | sync (offset : Int) (now : Nat)
  /-- an Announce of the best master, with its clock identity -/
  | announce (identity : Bytes)
  deriving DecidableEq, Repr, Inhabited

/-- A packet or answer that reaches the device and is held for a step's work (R52, R137, R262, R263). -/
inductive ActMsg where
  /-- activations of one token that feed a layer slot, with the token's flag word (R281) -/
  | activation (step slot token flags : Nat) (x : List F32)
  /-- a 32-bit partial block of a pass computed elsewhere (R137) -/
  | part (step mat token block pass flags : Nat) (v : List Int)
  /-- an expert's return for a token (R263) -/
  | expert (step slot token expert : Nat) (y : List F32)
  deriving DecidableEq, Repr, Inhabited

/-- An answer to a remote write or a message (R221, R225). -/
structure AnswerMsg where
  engine : Nat
  seq    : Nat
  status : Nat
  bytes  : Nat
  deriving DecidableEq, Repr, Inhabited

/-- A remote write of R220 as it arrives: sender's region-relative index, window identifier, offset, issue beat, data,
and the sender's engine and descriptor sequence that the answer names. -/
structure RWrite where
  sender : Nat
  window : Nat
  offset : Nat
  issue  : Nat
  engine : Nat
  seq    : Nat
  data   : Bytes
  deriving DecidableEq, Repr, Inhabited

/-- A message of R225 as it arrives. -/
structure MsgIn where
  sender  : Nat
  context : Nat
  engine  : Nat
  seq     : Nat
  data    : Bytes
  deriving DecidableEq, Repr, Inhabited

/-- A detected error that a step, a transfer or the scrubber meets (R450): the detector of R472, the class and number of
the unit (R471), the address space and address, and the context it names. -/
structure ErrAt where
  detector  : Nat
  unitClass : Nat
  unit      : Nat
  space     : Nat
  address   : Nat
  context   : Nat
  entry     : Nat
  layer     : Nat
  deriving DecidableEq, Repr, Inhabited

/-- What the checkers of a piece of digital work find (R143, R147, R163, R264, R459): nothing; a residue mismatch in the
correction engine named; a number of corrected single-bit errors on its memory reads; an uncorrectable word at a device
address; or, in full redundancy mode, values of the first of two clusters that differ from those of its partner, `third` saying
which result a third run would find alone (R460): 0 the partner's, 1 the first cluster's, 2 all three differ. -/
inductive HwCheck where
  | clean
  | residue (engine : Nat)
  | corrected (words : Nat)
  | uncorrectable (address : Nat)
  | mismatch (cluster third : Nat)
  deriving DecidableEq, Repr, Inhabited

/-- An error on a DMA transfer (R206, R448, R454): the row in which it was found, its detector (1 scratchpad, 2 staging buffer,
3 internal bus; an uncorrectable word: 5 of a KV page in HBM4, 6 of other HBM4, 7 of LPDDR5X), the
device address, the unit of a bus (its number), and whether one further read of the row fails again. -/
structure ParityErr where
  row      : Nat
  detector : Nat
  address  : Nat
  bus      : Nat
  again    : Bool
  deriving DecidableEq, Repr, Inhabited

/-- What a read of the patrol scrubber finds (R178, R454). -/
inductive ScrubFound where
  | clean
  | corrected
  | uncorrectable
  deriving DecidableEq, Repr, Inhabited

/-- An Ethernet frame's header as the MAC sees it (R349), with the codewords that were corrected and uncorrectable up to it. -/
structure EthFrame where
  length : Nat
  vlan   : Option Nat
  dstOk  : Bool
  ipv6   : Bool
  ext    : Bool
  frag   : Bool
  proto  : Nat
  port   : Nat
  pause  : Bool
  corrected : Nat
  uncorrectable : Nat
  deriving DecidableEq, Repr, Inhabited

/-- Round results of the housekeeping converters (R409): the code of each entry 0 to 62, the two codes of entry 63, and
the LPDDR5X MR4 readings in 0.01 °C (R419); with the governor's own estimate of power over the round (R438), in W. -/
structure HkRound where
  codes : List Nat
  e63a  : Nat
  e63b  : Nat
  mr4   : List Int
  pest  : Nat
  deriving DecidableEq, Repr, Inhabited

/-- What the pattern traffic of an interface in loopback has met since the last boundary (R510 to R513): the index of its
loopback object, flits checked or frames sent, what of it was in error (bits for UCIe and the memories), and codewords
corrected and uncorrectable. -/
structure LoopCount where
  index   : Nat
  checked : Nat
  errors  : Nat
  corrected : Nat
  uncorrectable : Nat
  deriving DecidableEq, Repr, Inhabited

/-- What the device has measured over the frame just ended: the governor's estimates in W (R439) of rails 1 and 2, of the other
rails, and of the part of the latter that carries no step work; the beats in which the slew limit delayed work (R441); and
what its loopbacks have met. -/
structure PowerEst where
  pc : Nat
  pr : Nat
  pf : Nat
  slewed : Nat
  loops : List LoopCount
  deriving DecidableEq, Repr, Inhabited

/-- A run of whole granules that the step sequencers allot to a context (R202): context, device address, granules. -/
structure Allot where
  ctx   : Nat
  base  : Nat
  count : Nat
  deriving DecidableEq, Repr, Inhabited

/-- What the step sequencers and Masthead decide as a step starts (R202, R212): the runs of granules that they allot, and the
descriptors that they submit, each an engine and its 32 bytes. -/
structure SeqPlan where
  allots  : List Allot
  submits : List (Nat × List Byte)
  deriving DecidableEq, Repr, Inhabited

/-- What one pulse of program-and-verify finds at a cell pair (R195): the physical column, the row, and whether each
cell was measured in its window, above it, or below it. -/
inductive PulseResult where
  | verified
  | above
  | below
  | resetHigh
  deriving DecidableEq, Repr, Inhabited

end Sys2Proof.Machine
end

