-- ==== Sys2Proof/Syntax.lean ====
section
/-! DEFINITION. The commands of the block: one constructor for each row of the table of operations and events, with the
operands that come from outside with it (packet contents, the bytes of a dictionary write, physical readings). -/

namespace Sys2Proof
open Sys2Proof.Machine

/-- A command of the N1: an operation or event of the manual's table, whole and indivisible. -/
inductive Instr where
  /-- FRAME_BOUNDARY (R49): At the first tick of each frame boundary the device applies its rank 1 effects and then the other events of that beat in rank order. -/
  | frameBoundary (est : PowerEst)
  /-- FRAME_LENGTH_ARM (R33): A write of the effect beat to object 0x1201:07 arms the frame-length change, or is rejected. -/
  | frameLengthArm (r : DictReq) (data : Bytes)
  /-- FRAME_LENGTH_CHANGE (R33): At its effect beat an armed frame length takes effect. -/
  | frameLengthChange
  /-- STEP_START (R51): At F + slot a device starts its part of step n. -/
  | stepStart (plan : SeqPlan)
  /-- DRIVE_VECTOR_BROADCAST (R151): A correction engine forms a row block's drive vector, its reference products and A, and sends them to the Greund dies. -/
  | driveVectorBroadcast (mat rb token : Nat) (x : List Int) (hw : HwCheck)
  /-- ARRAY_READ (R73): An array reads a received drive vector in four slice phases of sub-phases and converts its columns. -/
  | arrayRead (rid : Nat) (hw : HwCheck)
  /-- CONFIDENCE_CHECK (R86): After its last conversion a read is checked against its reference products and passes, repeats or takes LOWCONF. -/
  | confidenceCheck (rid : Nat)
  /-- REPEAT_READ_MEAN (R89): When its repeat reads complete, the mean of the read group is formed and checked once. -/
  | repeatReadMean (rid : Nat) (hw : HwCheck)
  /-- READ_GROUP_IDLE_END (R98): An array's idle time after a read group ends, and it may start its next read. -/
  | readGroupIdleEnd (arr : Nat)
  /-- MONITOR_SAMPLE (R114): When the device read count reaches a multiple of the interval, the monitor queues a sample of that read's strip. -/
  | monitorSample (rid : Nat)
  /-- MONITOR_VERDICT (R116): The monitor recomputes a queued sample exactly, forms δ and records any exceedance as QMON. -/
  | monitorVerdict
  /-- STRIP_TREE (R130): Once every leaf of a strip is present, the fixed tree sums them and the result leaves the die. -/
  | stripTree (mat token cb strip die : Nat) (hw : HwCheck)
  /-- PARTIAL_MERGE (R137): An arrived pass is merged into its block's partial buffer strictly in pass order. -/
  | partialMerge (mat token block : Nat) (hw : HwCheck)
  /-- SECOND_PASS (R157): After all first passes of the layer, the second-pass rows are computed in the overflow reserve. -/
  | secondPass (slot planned : Nat) (hw : HwCheck)
  /-- BLOCK_MERGE (R160): Once a block's strip result and digital sums are present, the outputs are formed in FP32 in fixed order. -/
  | blockMerge (mat token block : Nat) (hw : HwCheck)
  /-- ROW_REDUCTION_RECORD (R142): Once a row's last block has entered in COLBLK order, its reduction record is written. -/
  | rowReductionRecord (mat token addr : Nat) (hw : HwCheck)
  /-- ATTENTION_SPAN (R248): An engine runs the two passes of one 2,048-position span of a query. -/
  | attentionSpan (slot token head span : Nat) (hw : HwCheck)
  /-- SPAN_MERGE (R249): The spans of a query head are merged in ascending order and quantised for the O matrix. -/
  | spanMerge (slot token head : Nat) (hw : HwCheck)
  /-- ACT_ARRIVAL (R52): Activations, partials or expert returns arrive from another device and are held until use. -/
  | actArrival (m : ActMsg)
  /-- STEP_WORK_DONE (R335): A member completes its step work and, once holding its children's acknowledgements, sends its STEP_ACK. -/
  | stepWorkDone
  /-- STEP_ACK (R335): A STEP_ACK is received and combined up the tail's region tree. -/
  | stepAck (step run count child : Nat)
  /-- STEP_DISCARD (R311): A STEP_DISCARD is forwarded toward the tail or acted on by it. -/
  | stepDiscard (step run reason : Nat) (entries : List Nat)
  /-- COMMIT_DEADLINE (R336): At C_n − CL without a decision, the tail sends DECISION(DISCARD) with c = C_n. -/
  | commitDeadline
  /-- COMMIT (R337): At beat c a member commits or discards step n as its released DECISION or the WITHDRAW dictates. -/
  | commit
  /-- STEP_LEASE_EXPIRY (R465): At the commit deadline the step's buffers and resources are released as a rank 3 lease expiry. -/
  | stepLeaseExpiry
  /-- IN_DOUBT (R338): A member without an outcome for step n at c, or at C_n, becomes in doubt. -/
  | inDoubt
  /-- QUERY_RETRY (R338): Every 16 beats a member in doubt sends a QUERY to the tail. -/
  | queryRetry
  /-- QUERY (R338): The tail answers a QUERY with the released DECISION or with discarded. -/
  | query (step run src : Nat)
  /-- QUERY_ANSWER (R338): A member in doubt applies the outcome it receives. -/
  | queryAnswer (step : Nat) (released : Option DecMsg)
  /-- IN_DOUBT_LEASE_EXPIRY (R339): The in-doubt lease expires without an answer and the member enters half-mast. -/
  | inDoubtLeaseExpiry
  /-- MULTICAST_COPY (R332): A held multicast copy arrives, is held as pending and is acknowledged with MACK. -/
  | multicastCopy (c : McCopy)
  /-- MACK (R332): A MACK is combined on the tree, and at the sender it leads to RELEASE. -/
  | mack (mcnum acked child : Nat)
  /-- RELEASE (R332): A RELEASE makes the pending copies visible and is forwarded down the tree. -/
  | release (mcnum src : Nat)
  /-- WITHDRAW (R332): A WITHDRAW discards the pending copy and every flit of that multicast. -/
  | withdraw (mcnum src : Nat)
  /-- MULTICAST_DEADLINE (R332): A missing MACK at the deadline makes the sender WITHDRAW and report MCAST_FAIL. -/
  | multicastDeadline (mcnum : Nat)
  /-- PENDING_COPY_TIMEOUT (R333): A pending BATCH or MCDATA copy with neither RELEASE nor WITHDRAW by deadline plus L1 is discarded. -/
  | pendingCopyTimeout (mcnum src : Nat)
  /-- SCHED_COPY (R334): A scheduled multicast copy arrives and is held for its effect beat. -/
  | schedCopy (m : SchedMsg)
  /-- ABORT_EFFECT (R286): At e an abort makes the entry DONE ABORTED, or is answered ABORT_LATE. -/
  | abortEffect (msgnum : Nat)
  /-- CANCEL_EFFECT (R287): At e a cancel ends the entry, defers to the step in flight, or is answered CANCEL_LATE. -/
  | cancelEffect (msgnum : Nat)
  /-- DIP_EFFECT (R289): At e, or at the resolution of the step in flight, the entry becomes DIPPED and its Reserve lease opens. -/
  | dipEffect (msgnum : Nat)
  /-- RESUME_EFFECT (R292): At e a DIPPED entry returns to DIPFROM with RESTORING set, or the resume is answered STATE. -/
  | resumeEffect (msgnum : Nat)
  /-- DISABLE_BURGEE (R288): At e every non-FREE entry of the burgee becomes DONE DISABLED. -/
  | disableBurgee (msgnum : Nat)
  /-- DISABLE_CONTEXT (R288): At e every non-FREE entry of the context becomes DONE DISABLED. -/
  | disableContext (msgnum : Nat)
  /-- CONTEXT_RESET (R462): At e the context's entries become FAULTED, and its windows, descriptors and buffers are released. -/
  | contextReset (msgnum : Nat)
  /-- LIMIT_END (R278): At e a stranded ENCODER entry becomes DONE ABORTED with flag LIMIT. -/
  | limitEnd (msgnum : Nat)
  /-- INGRESS_POLL (R358): In each beat the head takes up to 16 ingress entries round robin from the enabled rings. -/
  | ingressPoll
  /-- SEQ_MISMATCH_TIMEOUT (R358): An entry whose SEQ has mismatched for 64 beats is taken as MALFORMED. -/
  | seqMismatchTimeout (ring : Nat)
  /-- SUBMIT (R271): A SUBMIT is tested in order and admitted into the lowest free entry, or rejected. -/
  | submit
  /-- CANDIDATES (R279): A CANDIDATES command replaces the entry's candidate set on the head. -/
  | candidates
  /-- ABORT (R284): The head takes an ABORT and multicasts it with effect beat e = a + K. -/
  | abort
  /-- CANCEL (R284): The head takes a CANCEL and multicasts it with effect beat e = a + K. -/
  | cancel
  /-- DIP (R284): The head takes a DIP, resolves its TTL and multicasts it with effect beat e = a + K. -/
  | dip
  /-- RESUME (R284): The head takes a RESUME and multicasts it with effect beat e = a + K. -/
  | resume
  /-- COMPLETION_WRITE (R360): At a completion beat the tail writes the ready completions that fit, then PRODUCED. -/
  | completionWrite
  /-- REPORT (R361): A VC1 REPORT carrying an entry report, an admission record, a credit return or error contexts is received. -/
  | report (m : ReportMsg)
  /-- RESERVE_MOVE (R290): A dipped entry's page is moved to the Reserve tier and its record is rewritten. -/
  | reserveMove (entry lane chunk : Nat)
  /-- RESERVE_EXPIRY (R291): At TTL_END the Reserve pages are freed and the entry becomes DONE EXPIRED. -/
  | reserveExpiry (entry : Nat)
  /-- RESTORE_PAGE (R292): A member copies a Reserve page back into a pool page and checks its header. -/
  | restorePage (entry lane chunk : Nat)
  /-- RESTORE_REPORT (R292): A member's VC7 report that every page of the entry is restored reaches the head. -/
  | restoreReport (entry member : Nat)
  /-- PAGE_ZERO (R239): A released KV page is written with zero and returned to the pool. -/
  | pageZero (page : Nat)
  /-- GRANULE_ZERO (R202): A freed scratchpad granule is zeroed before it is allotted again. -/
  | granuleZero (granule : Nat)
  /-- PATROL_SCRUB (R178): The patrol scrubber reads and corrects words of the shadow, the outlier records and the KV pages. -/
  | patrolScrub (mat : Option Nat) (address : Nat) (found : ScrubFound)
  /-- STATUS_FRAME (R369): At its scheduled beat the device sends a status frame and advances SEQ. -/
  | statusFrame
  /-- LINK_TIME_EXCHANGE (R37): Every 16 beats each trained link direction sends a TIME flit. -/
  | linkTimeExchange (link sendPs : Nat)
  /-- TIME_FLIT (R38): A received TIME flit yields an offset, the candidacy data and the neighbour's bounds. -/
  | timeFlit (link : Nat) (p : TimePayload) (arrTick arrPs : Nat)
  /-- REPARENT (R44): Within 2 beats of losing its parent, a device chooses a new one under the loop guard. -/
  | reparent
  /-- LOOP_GUARD_LAPSE (R44): After 64 beats without a qualifying neighbour, any eligible neighbour is accepted as parent. -/
  | loopGuardLapse
  /-- ROOT_HOLDOVER_EXPIRY (R36): An acting root that has been without PTP lock for the holdover limit withdraws. -/
  | rootHoldoverExpiry
  /-- PTP_MESSAGE (R368): A PTP event or general message is timestamped and processed, gaining or losing lock. -/
  | ptpMessage (m : PtpMsg)
  /-- PTP_ANNOUNCE_TIMEOUT (R368): After 3 Announce intervals without Announce, PTP lock is lost. -/
  | ptpAnnounceTimeout
  /-- WATCHDOG_DEADLINE (R466): A missed watchdog deadline, a rank 4 event, restarts Masthead. -/
  | watchdogDeadline
  /-- MASTHEAD_RESTART_COMPLETE (R466): The Masthead restart completes and Masthead serves pennants again. -/
  | mastheadRestartComplete
  /-- WATCHDOG_RENEW (R393): Masthead writes a new watchdog deadline one period on. -/
  | watchdogRenew
  /-- HOUSEKEEPING_ROUND (R409): A housekeeping round begins, and HKA and HKB convert the sequence entries slot by slot. -/
  | housekeepingRound
  /-- HOUSEKEEPING_EVALUATION (R409): At the evaluation beat the result registers are written and the round is judged. -/
  | housekeepingEvaluation (h : HkRound)
  /-- COMPARATOR_TRIP (R417): An always-on diode reaches the trip temperature, and shutdown starts at the next tick. -/
  | comparatorTrip (diode : Nat)
  /-- SHUTDOWN_RELEASE (R416): Once the diodes are below release and 976,563 beats have passed, the device resets with cause 4. -/
  | shutdownRelease
  /-- SUPPLY_FAULT (R433): A rail outside its window for 256 ticks stops the device as on shutdown and enters S3. -/
  | supplyFault (rail : Nat)
  /-- SUPPLY_RELEASE (R433): Once every rail has been back in its window for 976,563 beats, the device resets with cause 0. -/
  | supplyRelease
  /-- PLL_LOCK_LOSS (R537): A PLL that has lost lock for 256 ticks takes down its links or port, or acts as a supply fault. -/
  | pllLockLoss (clock : Nat)
  /-- CALIBRATION_WINDOW_START (R420): A calibration window takes one die out of service as a rank 7 event. -/
  | calibrationWindowStart
  /-- ADC_TRIM (R426): At beat 16 of a FULL window the trim DAC injects charges and offset and gain are fitted per ADC. -/
  | adcTrim (arr adc range : Nat) (offset gain : Int)
  /-- COLUMN_OFFSET_MEASURE (R426): Zero-drive conversions measure each column offset. -/
  | columnOffsetMeasure (arr : Nat) (sums : List Int)
  /-- CALIBRATION_VECTOR_READS (R426): 64 PRBS calibration vectors are read, and exact products are computed for the column gains. -/
  | calibrationVectorReads (arr : Nat)
  /-- TRIM_DECISION (R428): The trims are set, or columns are marked failed, and the results are held pending. -/
  | trimDecision
  /-- PATTERN_READ_SET (R425): Sixteen reference-pattern reads per array feed the drift evidence. -/
  | patternReadSet
  /-- CALIBRATION_WINDOW_END (R420): The window ends as a rank 7 event, and waiting reads and windows proceed. -/
  | calibrationWindowEnd
  /-- LOAD_START (R185): A write of 1 to object 0x4000:10 starts a load in VERIFYING, or is rejected. -/
  | loadStart (r : DictReq) (data : Bytes)
  /-- LOAD_ABORT (R185): A write of 2 to object 0x4000:10 aborts the load in progress. -/
  | loadAbort (r : DictReq) (data : Bytes)
  /-- MANIFEST_VERIFY (R171): The security engine verifies the manifest signature and the image shape. -/
  | manifestVerify (manifest layerTable directory recipes : Bytes)
  /-- NVME_READ_COMPLETE (R179): An NVMe/TCP Read completes, or is retried after an error status. -/
  | nvmeReadComplete (ok : Bool) (bytes : Nat)
  /-- NVME_CONNECTION_LOSS (R180): A lost connection is re-established, or the load fails with FETCH. -/
  | nvmeConnectionLoss
  /-- KEEP_ALIVE (R179): The host sends Keep Alive within the 30 s timeout. -/
  | keepAlive
  /-- SECTION_FETCHED (R181): A whole section is digest-checked, decompressed and quantised, then written to the shadow or a tensor. -/
  | sectionFetched (sec : Nat) (stored : Bytes)
  /-- EXPERT_LIST (R261): A member's VC7 list of experts is received and added to the expert map. -/
  | expertList (member : Nat) (slots : List (Nat × List Nat))
  /-- PLACEMENT_PLAN (R190): The placement plan is formed, and the load enters LOADING or fails with NO_FIT. -/
  | placementPlan
  /-- PROGRAM_OPERATION_START (R194): The die's program-and-verify engine starts programming an array and counts a cycle. -/
  | programOperationStart (arr : Nat)
  /-- PROGRAM_PULSE (R195): A RESET, verify or SET step of a cell pair completes. -/
  | programPulse (arr row col : Nat) (found : PulseResult)
  /-- PROGRAM_OPERATION_END (R196): An array's pairs are all verified or failed, and spares and duplicates are assigned. -/
  | programOperationEnd (arr : Nat) (noise : List Nat)
  /-- PROGRAM_OPERATION_CAP (R196): At 5.2 s the program operation ends and the open pairs count as failed. -/
  | programOperationCap (arr : Nat)
  /-- IMAGE_REPORT (R509): A member's VC7 report of the image digest in service reaches the head. -/
  | imageReport (member : Nat) (digest : Bytes)
  /-- REPLACE_SLOT (R191): A write to object 0x4004:0A requests re-placement of every strip of a slot. -/
  | replaceSlot (r : DictReq) (data : Bytes)
  /-- SECTION_REFETCH (R458): A section holding a permanently failed unit is fetched again, checked and rewritten. -/
  | sectionRefetch (sec : Nat) (stored : Option Bytes)
  /-- DESCRIPTOR_SUBMIT (R212): A descriptor written to object 0x3210:01 enters the named engine's queue, or is refused when it is full. -/
  | descriptorSubmit (r : DictReq) (data : Bytes)
  /-- DESCRIPTOR_START (R214): An engine starts a queued descriptor after its fence and checks it whole. -/
  | descriptorStart (engine : Nat)
  /-- COPY (R213): A COPY descriptor moves rows from source to destination. -/
  | copy (engine seq : Nat) (parity : Option ParityErr)
  /-- TRANSPOSE_COPY (R215): A COPY with TRANSPOSE transposes 32 × 32-byte blocks. -/
  | transposeCopy (engine seq : Nat) (parity : Option ParityErr)
  /-- FILL (R213): A FILL descriptor writes the fill byte to the destination rows. -/
  | fill (engine seq : Nat) (parity : Option ParityErr)
  /-- REMOTE_WRITE (R220): A REMOTE_WRITE descriptor sends its rows as VC5 writes into a window. -/
  | remoteWrite (engine seq : Nat) (parity : Option ParityErr)
  /-- MESSAGE (R225): A MESSAGE descriptor sends one row to a context on another device. -/
  | message (engine seq : Nat) (parity : Option ParityErr)
  /-- DESCRIPTOR_COMPLETE (R216): A descriptor completes and writes its completion record. -/
  | descriptorComplete (engine seq : Nat)
  /-- REMOTE_WRITE_ARRIVAL (R221): A remote write is judged by the window tests, then accepted or refused and answered. -/
  | remoteWriteArrival (w : RWrite)
  /-- MESSAGE_ARRIVAL (R226): A message is appended to the context's ring, or refused with FULL. -/
  | messageArrival (m : MsgIn)
  /-- ANSWER (R222): A sender receives the answer to a remote write or message. -/
  | answer (a : AnswerMsg)
  /-- REMOTE_WRITE_TIMEOUT (R222): A descriptor still missing an answer 64 beats after its last write completes with TIMEOUT. -/
  | remoteWriteTimeout (engine seq : Nat)
  /-- WINDOW_OPEN (R218): A window request written to object 0x3203:01 opens a slot, or is rejected with a reason. -/
  | windowOpen (r : DictReq) (data : Bytes)
  /-- WINDOW_CLOSE (R223): A write of a window identifier to object 0x3203:02 puts the slot in CLOSING. -/
  | windowClose (r : DictReq) (data : Bytes)
  /-- WINDOW_LEASE_EXPIRY (R465): A window's lease expires at EXPIRY and the window closes. -/
  | windowLeaseExpiry (slot : Nat)
  /-- WINDOW_FREE (R223): At b + D + 1 a CLOSING slot becomes FREE and its generation increments. -/
  | windowFree (slot : Nat)
  /-- WINDOW_EXPIRY_WRITE (R228): A write to object 0x3280 + w:06 extends an OPEN window's lease. -/
  | windowExpiryWrite (r : DictReq) (slot : Nat) (data : Bytes)
  /-- MESSAGE_RING_WRITE (R226): A write of the ring base or length sets, moves or clears the message ring and zeroes its header. -/
  | messageRingWrite (r : DictReq) (sub : Nat) (data : Bytes)
  /-- BUFFER_LEASE_EXPIRY (R465): A context buffer not renewed for 16 boundaries is freed and zeroed. -/
  | bufferLeaseExpiry (ctx base : Nat)
  /-- CREDIT_LEASE_EXPIRY (R465): A credit not returned within 65,536 beats puts the link DOWN and resets its pools. -/
  | creditLeaseExpiry (link : Nat)
  /-- LINK_TRAINING (R302): A link starts the PMD control function at full rate. -/
  | linkTraining (link : Nat)
  /-- TRAINING_CONVERGED (R302): Training converges and the sides exchange INFO flits. -/
  | trainingConverged (link : Nat)
  /-- TRAINING_TIMEOUT (R302): Training has not converged within 100 ms, so it falls back, or the link stays DOWN. -/
  | trainingTimeout (link : Nat)
  /-- TRAINING_RETRY (R302): A link that failed both rates restarts training 1 s later. -/
  | trainingRetry (link : Nat)
  /-- INFO_FLIT (R303): A received INFO flit makes the link UP or CABLING and sets its asymmetry and bypass count. -/
  | infoFlit (link : Nat) (p : InfoPayload)
  /-- FLIT_RECEIVE (R300): A flit is checked, its credits returned, and it is consumed, forwarded or dropped with LNACK. -/
  | flitReceive (link : Nat) (f : Flit)
  /-- REPLAY (R300): An LNACK makes the sender replay its DATA flits, and 16 replays of one flit put the link DOWN. -/
  | replay (link lack : Nat)
  /-- LOSS_OF_SIGNAL (R300): Loss of signal on a lane puts the link DOWN. -/
  | lossOfSignal (link lane : Nat)
  /-- CODEWORD_LOCK_LOSS (R300): Codeword lock lost for 1 µs puts the link DOWN. -/
  | codewordLockLoss (link : Nat)
  /-- LINK_STATE_REPORT (R343): A MGMT link-state packet tells members which positions are bypassed. -/
  | linkStateReport (member : Nat) (bypassed : List Nat)
  /-- REFUSE7 (R346): A VC7 packet was refused for a full management queue. -/
  | refuse7 (id : Nat)
  /-- VC7_RESEND (R346): The refused VC7 packet is resent 64 beats after the REFUSE7. -/
  | vc7Resend (id : Nat)
  /-- REGION_CHANGE_ARM (R324): A write to object 0x3101:07 arms a region change, or is rejected. -/
  | regionChangeArm (r : DictReq) (data : Bytes)
  /-- REGION_CHANGE (R324): At its effect beat the new region takes effect and the windows close. -/
  | regionChange
  /-- LINK_ENABLE (R345): A write to object 0x3000:02 holds links DOWN, or enables them and ends their loopbacks. -/
  | linkEnable (r : DictReq) (data : Bytes)
  /-- BYPASS_RELEASE (R340): A write of 1 to object 0x3000:04 releases BYP_HOLD at the next boundary and stops computation. -/
  | bypassRelease (r : DictReq) (data : Bytes)
  /-- BYPASS_DRIVE (R340): A write of 2 to object 0x3000:04 drives BYP_HOLD high at the next boundary. -/
  | bypassDrive (r : DictReq) (data : Bytes)
  /-- ETH_PORT_TRAINING (R348): The Ethernet port runs auto-negotiation and link training and comes up. -/
  | ethPortTraining (converged : Bool)
  /-- ETH_FRAME_RECEIVE (R349): A received Ethernet frame is filtered and dispatched, or dropped. -/
  | ethFrameReceive (f : EthFrame)
  /-- NEIGHBOR_SOLICITATION (R350): The device answers a Neighbor Solicitation. -/
  | neighborSolicitation (target source : Bytes)
  /-- ECHO_REQUEST (R350): The device answers an ICMPv6 Echo Request. -/
  | echoRequest (source dest data : Bytes)
  /-- PACKET_TOO_BIG (R350): A Packet Too Big message lowers the MTU used to a destination. -/
  | packetTooBig (dest : Bytes) (mtu : Nat)
  /-- RDMA_WRITE (R355): A host RDMA WRITE lands in a ring region, or is refused with a remote access error. -/
  | rdmaWrite (ring offset : Nat) (data : Bytes) (ecn : Bool)
  /-- CNP (R352): A received CNP halves the queue pair's completion write rate for 64 beats. -/
  | cnp (ring : Nat)
  /-- LOCAL_ACK_TIMEOUT (R352): A missing ACK causes a retry, and exhausted retries put the queue pair in ERROR. -/
  | localAckTimeout (ring : Nat) (acked : Bool)
  /-- RING_ENABLE (R353): Writing TRUE to object 0x1111:09 enables a ring pair, or is rejected. -/
  | ringEnable (r : DictReq) (data : Bytes)
  /-- RING_DISABLE (R353): Writing FALSE to object 0x1111:09 disables a ring pair. -/
  | ringDisable (r : DictReq) (data : Bytes)
  /-- READ (R365): A Dictionary Protocol READ returns an object's value. -/
  | read (r : DictReq) (index sub : Nat)
  /-- WRITE (R365): A Dictionary Protocol WRITE to an object without behaviour of its own is judged and stored. -/
  | write (r : DictReq) (index sub : Nat) (data : Bytes)
  /-- READ_BLOCK (R365): A READ_BLOCK returns a segment of a DOMAIN, OCTETS or STR object. -/
  | readBlock (r : DictReq) (index sub offset : Nat)
  /-- WRITE_BLOCK (R365): A WRITE_BLOCK segment is accepted, and the write takes effect at LAST. -/
  | writeBlock (r : DictReq) (index sub offset : Nat) (last : Bool) (data : Bytes)
  /-- BLOCK_TRANSFER_TIMEOUT (R365): A WRITE_BLOCK with no segment for 1,024 beats is abandoned. -/
  | blockTransferTimeout (index sub : Nat)
  /-- PENNANT (R398): A PENNANT stores a word in a host-to-Masthead mailbox, or is answered BUSY or DOMAIN_OFF. -/
  | pennant (r : DictReq) (mailbox : Nat) (word : Word)
  /-- SECURED (R367): A secured message is checked and its inner frame is served in the session's role. -/
  | secured (session xid : Nat) (intact : Bool)
  /-- GET_CERTIFICATE (R488): An SPDM request returns the certificate chain of slot 0. -/
  | getCertificate (xid offset length : Nat)
  /-- NEGOTIATE_ALGORITHMS (R489): SPDM algorithm negotiation accepts only the supported algorithms. -/
  | negotiateAlgorithms (xid asym hash dhe aead sched : Nat)
  /-- KEY_EXCHANGE (R489): An SPDM KEY_EXCHANGE opens a mutually authenticated session, or is answered Busy. -/
  | keyExchange (xid : Nat)
  /-- FINISH (R489): FINISH completes the session after the requester chain sets its role. -/
  | finish (session xid : Nat) (name : Bytes) (rootKey : Nat) (chainOk : Bool)
  /-- END_SESSION (R491): END_SESSION closes a secured session. -/
  | endSession (session xid : Nat)
  /-- GET_MEASUREMENTS (R492): The device returns the six measurement blocks, signed with the ensign key. -/
  | getMeasurements (session : Option Nat) (xid : Nat) (nonce : Bytes)
  /-- SESSION_TIMEOUT (R491): A session without a valid secured message for 60 s ends. -/
  | sessionTimeout (session : Nat)
  /-- SESSION_CLOSE (R491): A write to object 0x7800:08 closes the named session. -/
  | sessionClose (r : DictReq) (data : Bytes)
  /-- DOMAIN_WAKE (R396): A wake event powers a domain, which runs within 64 beats. -/
  | domainWake (domain : Nat)
  /-- MAILBOX_TAKE (R397): At a beat's first tick a receiver takes a mailbox word it is ready to act on and clears FULL. -/
  | mailboxTake (mailbox : Nat)
  /-- ECHO (R400): Masthead answers ECHO with the argument. -/
  | echo (mailbox : Nat)
  /-- STATUS (R400): Masthead answers STATUS with the mode and load state. -/
  | status (mailbox : Nat)
  /-- LOG_FLUSH (R400): Masthead answers once every held fault record is in flash. -/
  | logFlush (mailbox : Nat)
  /-- CAL_DIE (R400): Masthead schedules a FULL calibration window of a die and answers when it ends. -/
  | calDie (mailbox : Nat)
  /-- NOTICE (R402): Masthead writes a waiting notice to mailbox 7 when it is free. -/
  | notice
  /-- PROFILE_STORE (R405): A signed profile written to object 0x1400:05 is checked and its store begins. -/
  | profileStore (r : DictReq) (data : Bytes)
  /-- PROFILE_STORE_COMPLETE (R405): The profile's flash write finishes, the result is set and notice 0x81 is raised. -/
  | profileStoreComplete (flashOk : Bool)
  /-- FIRMWARE_UPDATE (R483): A firmware image written to object 0x1400:0C is verified, and writing begins or fails. -/
  | firmwareUpdate (r : DictReq) (data : Bytes)
  /-- FIRMWARE_WRITE_COMPLETE (R483): The flash write and read-back finish, and the state becomes 4 or 5. -/
  | firmwareWriteComplete (readback : Bytes)
  /-- DEVICE_RESET_COMMAND (R408): A write of 1 to object 0x1400:0B resets the device at the next frame boundary. -/
  | deviceResetCommand (r : DictReq) (data : Bytes)
  /-- RECOVERY_RESET_COMMAND (R485): A write of 2 to object 0x1400:0B resets the device into recovery mode. -/
  | recoveryResetCommand (r : DictReq) (data : Bytes)
  /-- POWER_ON_RESET (R497): PORST_N low resets the device and loses the Halyard count. -/
  | powerOnReset
  /-- WARM_RESET (R497): RESET_N read low for 1,000 ticks resets the device. -/
  | warmReset
  /-- STARTUP_RELEASE (R503): At release the straps are sampled, the PLL locks and the domains switch on one at a time. -/
  | startupRelease (posX posY posZ profile : Nat)
  /-- FIRMWARE_CHECK (R481): The boot ROM checks the firmware image and copies its parts. -/
  | firmwareCheck
  /-- KEY_UNWRAP (R487): The security engine unwraps the ensign key and Masthead starts. -/
  | keyUnwrap (pufOk : Bool)
  /-- PROFILE_APPLY (R407): The profile slots are checked and the selected profile is applied over the defaults. -/
  | profileApply
  /-- D2D_TRAINING (R503): BYP_HOLD is driven and the UCIe modules of every Greund die are trained, or the die is lost. -/
  | d2dTraining (trained : List Bool)
  /-- MEMORY_TRAINING (R503): The memories are trained and zeroed, and the scratchpads and staging buffers cleared. -/
  | memoryTraining (ok : Bool)
  /-- READY (R506): At the first frame boundary after the start-up stages the device becomes ready. -/
  | ready
  /-- KV_CONFIG_WRITE (R266): A write of the KV format, MAXCTX or rotary settings recomputes lanes, T and Z, or is rejected. -/
  | kvConfigWrite (r : DictReq) (sub : Nat) (data : Bytes)
  /-- LOG_ERASE (R474): A write of 1 to object 0x7000:05 erases the fault log at the next frame boundary. -/
  | logErase (r : DictReq) (data : Bytes)
  /-- FAULT_RECORD_WRITE (R474): Masthead writes a held CPER record to the flash log and raises notice 0x80. -/
  | faultRecordWrite
  /-- LEAVE_HALF_MAST (R470): A write of 1 to object 0x7002:05 leaves half-mast at the next boundary, or is refused. -/
  | leaveHalfMast (r : DictReq) (data : Bytes)
  /-- HALF_MAST_WINDOW_EXPIRY (R470): An escalation-only half-mast ends once its window length has passed. -/
  | halfMastWindowExpiry
  /-- CONTEXT_RESET_REQUEST (R461): A write to object 0x7003:02 requests a context reset, forwarded to the head. -/
  | contextResetRequest (r : DictReq) (data : Bytes)
  /-- ETH_LOOPBACK_MAC (R510): Ethernet loopback value 1 loops MAC transmit to MAC receive. -/
  | ethLoopbackMac (r : DictReq) (data : Bytes)
  /-- ETH_LOOPBACK_PCS (R510): Ethernet loopback value 2 loops after the FEC encoder. -/
  | ethLoopbackPcs (r : DictReq) (data : Bytes)
  /-- ETH_LOOPBACK_PMA (R510): Ethernet loopback value 3 loops the PMA serial output to its input. -/
  | ethLoopbackPma (r : DictReq) (data : Bytes)
  /-- ETH_LOOPBACK_FAR_END (R510): Ethernet loopback value 4 returns the partner's data unchanged. -/
  | ethLoopbackFarEnd (r : DictReq) (data : Bytes)
  /-- ETH_LOOPBACK_END (R391): The Ethernet loopback ends at its end beat and the port retrains. -/
  | ethLoopbackEnd
  /-- LINK_LOOPBACK_LINK_LAYER (R510): Link loopback value 1 loops at the link layer with test flits. -/
  | linkLoopbackLinkLayer (r : DictReq) (link : Nat) (data : Bytes)
  /-- LINK_LOOPBACK_FEC_PCS (R510): Link loopback value 2 loops after the RS encoder. -/
  | linkLoopbackFecPcs (r : DictReq) (link : Nat) (data : Bytes)
  /-- LINK_LOOPBACK_NEAR_END_SERIAL (R510): Link loopback value 3 loops the SerDes inside the package. -/
  | linkLoopbackNearEndSerial (r : DictReq) (link : Nat) (data : Bytes)
  /-- LINK_LOOPBACK_FAR_END_REMOTE (R512): Link loopback value 4 trains a loop at the neighbour's PCS. -/
  | linkLoopbackFarEndRemote (r : DictReq) (link : Nat) (data : Bytes)
  /-- UCIE_LOOPBACK (R510): Setting a module bit loops that UCIe module with PRBS31 per lane. -/
  | ucieLoopback (r : DictReq) (die : Nat) (data : Bytes)
  /-- HBM_LOOPBACK_CONTROLLER (R510): HBM4 loopback value 1 loops the controller data path. -/
  | hbmLoopbackController (r : DictReq) (stack : Nat) (data : Bytes)
  /-- HBM_LOOPBACK_PHY (R510): HBM4 loopback value 2 loops the PHY at its I/O. -/
  | hbmLoopbackPhy (r : DictReq) (stack : Nat) (data : Bytes)
  /-- LPDDR_LOOPBACK_CONTROLLER (R510): LPDDR5X loopback value 1 loops the controller data path. -/
  | lpddrLoopbackController (r : DictReq) (device : Nat) (data : Bytes)
  /-- LPDDR_LOOPBACK_PHY (R510): LPDDR5X loopback value 2 loops the PHY at its I/O. -/
  | lpddrLoopbackPhy (r : DictReq) (device : Nat) (data : Bytes)
  /-- LOOPBACK_OFF (R510): A write of 0 to a loopback object ends that loopback. -/
  | loopbackOff (r : DictReq) (index : Nat) (data : Bytes)
  /-- ARRAY_TEST_TRIM_DAC (R516): A start write with kind 0 requests a trim-DAC injection test of a die. -/
  | arrayTestTrimDac (r : DictReq) (data : Bytes)
  /-- ARRAY_TEST_REFERENCE (R516): A start write with kind 1 requests a reference-column pattern test of a die. -/
  | arrayTestReference (r : DictReq) (data : Bytes)
  /-- ARRAY_TEST_START (R516): A queued array test starts at a frame boundary at which no die is in a window. -/
  | arrayTestStart
  /-- ARRAY_TEST_RESULT (R517): The test result is written and the failing arrays are retired. -/
  | arrayTestResult (failing : List Nat)
  /-- TAP_RESET (R520): TRST_N, or five TCK cycles with TMS high, resets the TAP and selects IDCODE. -/
  | tapReset
  /-- IDCODE (R521): The IDCODE instruction selects the identification register. -/
  | idcode
  /-- SAMPLE_PRELOAD (R520): SAMPLE/PRELOAD captures and loads the boundary register. -/
  | samplePreload (data : Bytes)
  /-- EXTEST (R523): EXTEST holds the device in reset and drives the lands from the boundary register. -/
  | extest (data : Bytes)
  /-- EXTEST_PULSE (R523): EXTEST_PULSE tests the AC-coupled pairs under IEEE 1149.6. -/
  | extestPulse (data : Bytes)
  /-- EXTEST_TRAIN (R523): EXTEST_TRAIN tests the AC-coupled pairs with pulse trains. -/
  | extestTrain (data : Bytes)
  /-- CLAMP (R523): CLAMP holds the lands at the boundary values with the bypass register selected. -/
  | clamp (data : Bytes)
  /-- HIGHZ (R523): HIGHZ places the outputs in high impedance. -/
  | highz
  /-- BYPASS (R520): BYPASS, or any unassigned opcode, selects the one-bit bypass register. -/
  | bypass (opcode : Nat)
  /-- PRIVATE_INSTRUCTION (R524): A Ronnar private instruction gives scan access, marks measurement 6 and disables sessions. -/
  | privateInstruction (opcode : Nat)
  /-- GREUND_LINKS_FAIL (R19): In service, the die-to-die links of a Greund die all fail, and the die is treated as having every array failed. -/
  | greundLinksFail (die : Nat)
  /-- ETH_PORT_DOWN (R348): The Ethernet port loses its link to the partner and goes down, then retrains. -/
  | ethPortDown
  /-- CNP_RATE_HALVING_END (R352): 64 beats after a CNP, the completion write rate of the queue pair returns from its halved value. -/
  | cnpRateHalvingEnd (ring : Nat)
  /-- RESPONSE_SIGNED (R491): The security engine finishes signing one response, sends it and starts the next queued request that needs a signature. -/
  | responseSigned
  deriving DecidableEq, Repr

end Sys2Proof
end

