-- ==== Sys2Proof/Decode.lean ====
section
/-! DEFINITION. Words that spell commands: the manual's table gives no row any bits, so there are none. -/

namespace Sys2Proof

/-- The command that a word spells by the table's bits: the table gives no bits to any of its rows. -/
def decodeTableWord (_nbits _w : Nat) : Option Instr := none

end Sys2Proof
end

