-- ==== Sys2Proof/Config.lean ====
section
/-! DEFINITION. What one device fixes and the manual does not state: identities set at manufacture, and the free values, each
a constant without a body, so that no proof can see a value of it. A free value that is drawn anew takes the number of the
draw; one that the manual fixes by its operands takes the operands. -/

namespace Sys2Proof.Config
open Sys2Proof

/-! ## Fixed at manufacture -/

/-- The serial number, object 0x1000:03 (R382). -/
opaque serial : Bytes

/-- The silicon stepping, object 0x1000:04 (R382). -/
opaque stepping : Nat

/-- The boot ROM version, object 0x1000:05 (R382). -/
opaque bootRomVersion : Nat

/-- The MAC address, object 0x1100:01 (R349). -/
opaque macAddress : Bytes

/-- The queue-pair number of a ring pair, object 0x1111:04, fixed for the device (R354). -/
opaque queuePair : Nat → Nat

/-- The rkey of a ring pair, object 0x1111:0B, fixed for the device (R354). -/
opaque rkey : Nat → Nat

/-- The address of a ring pair's region, object 0x1111:0A, fixed for the device (R354). -/
opaque ringRegion : Nat → Nat

/-- The 8 bytes of object 0x3101:0C for a count of bypassed positions and the first two of them, whose layout the manual does not
state (R346): the count, and the positions. -/
opaque bypassOctets : Nat → List Nat → Bytes

/-- The device's certificate chain, object 0x7800:01 (R488). -/
opaque certificateChain : Bytes

/-- The device address at which the directories begin, which the N1 chooses for each value of MAXCHUNK (R235). -/
opaque directoryBase : Nat → Nat

/-- ROOT_HASH of the one-time-programmable array (R476). -/
opaque rootHash : Bytes

/-- Fixed transmit latency of a link from PCS to lands, in ps (R302). -/
opaque txLatency : Nat → Nat

/-- Fixed receive latency of a link from lands to PCS, in ps (R302). -/
opaque rxLatency : Nat → Nat

/-- The device's JEDEC manufacturer and part identification for IDCODE (R521). -/
opaque idcode : Word

/-! ## Published algorithms that the manual names and does not restate -/

/-- SHA-512 (R169, R477). -/
opaque sha512 : Bytes → Bytes

/-- RSASSA-PSS verification with the parameters of R171: modulus, message, signature. -/
opaque rsaPssVerify : Bytes → Bytes → Bytes → Bool

/-- The DER SubjectPublicKeyInfo of a modulus with exponent 65,537 (R477). -/
opaque derKey : Bytes → Bytes

/-- A response signed with the ensign key (R492). -/
opaque sign : Bytes → Bytes

/-- Zstandard decompression of a stored section to at most a length; none where the data is no frame that R181 admits. -/
opaque zstd : Bytes → Nat → Option Bytes

/-! ## Functions that the vector unit computes within 2 units in the last place (R250): the same result for the same input -/

/-- exp. -/
opaque exp : F32 → F32

/-- sin. -/
opaque sin : F32 → F32

/-- cos. -/
opaque cos : F32 → F32

/-- tanh. -/
opaque tanh : F32 → F32

/-- The reciprocal square root of a non-zero value. -/
opaque rsqrt : F32 → F32

/-- The rotary frequency b^(−2i/ROT) in FP32 (R241): base, pair number, width. -/
opaque rotaryFreq : F32 → Nat → Nat → F32

/-! ## Values that the manual leaves open -/

/-- The error of one analogue conversion, in units of the narrow code before clamping (R72, R93): drawn anew. -/
opaque analogueError : Nat → Int

/-- The rate adjustment that a child derives from an averaged offset and its present rate (R38), before the limit. -/
opaque rateAdjust : Int → Int → Int

/-- What one read adds to a 64-bit accumulator of R101 for a product g_t · D̂ · r, whose number format the manual does not state:
g_t and the product D̂ · r. -/
opaque driftTerm : F32 → Int → Int

/-- The effective time that a round at a junction temperature adds (R94), in a unit that the manual does not state. -/
opaque ageing : Int → Nat

/-- The beat at which an array is predicted to reach the drift limit (R107): its g_d pattern, the die's
junction temperature at the last 1,024 frame boundaries, and the beat now. -/
opaque driftPrediction : F32 → List Int → Nat → Nat

/-- A value that the manual leaves open and that no other free value stands for, drawn anew: the number of the draw. -/
opaque freeValue : Nat → Nat

end Sys2Proof.Config
end

