-- ==== Sys2Proof/Machine/Float.lean ====
section
/-! DEFINITION. The arithmetic of the correction engines' vector unit (R145, R544): binary32 patterns, each operation rounded
to nearest, ties to even, subnormals kept, saturating at the largest finite value; and the narrow formats that images and
KV entries use (BF16, E4M3, E5M2, E2M1, E8M0; R182, R233). Every operation is computed exactly on naturals and rounded once. -/

namespace Sys2Proof.Machine
open Sys2Proof

/-- A sign with an exact magnitude m · 2^e. -/
structure Dyadic where
  neg : Bool
  m : Nat
  e : Int
  deriving DecidableEq, Repr

/-- The largest finite binary32 magnitude, which replaces what lies beyond the range (R544). -/
def f32MaxFinite : Nat := 0x7F7FFFFF

/-- A pattern from its sign and its magnitude bits. -/
def f32Pack (neg : Bool) (bits : Nat) : F32 :=
  BitVec.ofNat 32 ((if neg then 0x80000000 else 0) + bits)

/-- Division of naturals rounded to nearest, ties to even. -/
def divEven (n d : Nat) : Nat :=
  let q := n / d
  let r := n % d
  if 2 * r < d then q else if d < 2 * r then q + 1 else if q % 2 = 0 then q else q + 1

/-- num/den · 2^e rounded to binary32, ties to even, saturating (R544). -/
def f32Round (neg : Bool) (num den : Nat) (e : Int) : F32 :=
  if num = 0 then f32Pack neg 0
  else
    let l : Int := (Nat.log2 num : Int) - Nat.log2 den
    let below := if 0 ≤ l then num < den * 2 ^ l.toNat else num * 2 ^ (-l).toNat < den
    let top := (if below then l - 1 else l) + e
    let u := max (top - 23) (-149)
    let sh := e - u
    let q := if 0 ≤ sh then divEven (num * 2 ^ sh.toNat) den else divEven num (den * 2 ^ (-sh).toNat)
    f32Pack neg (min ((u + 149).toNat * 0x800000 + q) f32MaxFinite)

/-- The exact value of a pattern. The manual's path meets no infinity and no NaN (R544). -/
def f32Val (x : F32) : Dyadic :=
  let n := x.toNat
  let ex := n / 0x800000 % 256
  let fr := n % 0x800000
  let neg := decide (0x80000000 ≤ n)
  if ex = 0 then ⟨neg, fr, -149⟩ else ⟨neg, fr + 0x800000, (ex : Int) - 150⟩

/-- A pattern that is a NaN or an infinity (R375). -/
def f32NotFinite (x : F32) : Bool := x.toNat / 0x800000 % 256 = 255

/-- The signed magnitude of a dyadic value at exponent 2^e, for e at most its own. -/
def Dyadic.at (d : Dyadic) (e : Int) : Int :=
  let v : Int := d.m * 2 ^ (d.e - e).toNat
  if d.neg then -v else v

/-- An integer scaled by 2^e, rounded to binary32. -/
def f32OfScaled (v : Int) (e : Int) : F32 := f32Round (decide (v < 0)) v.natAbs 1 e

/-- An integer converted to binary32. -/
def f32OfInt (v : Int) : F32 := f32OfScaled v 0

/-- The quotient num/den of integers rounded to binary32. -/
def f32OfRatio (num : Int) (den : Nat) : F32 := f32Round (decide (num < 0)) num.natAbs den 0

/-- +0. -/
def f32Zero : F32 := 0#32

/-- 1. -/
def f32One : F32 := 0x3F800000#32

/-- A sum. An exact zero is +0 unless both operands are −0. -/
def f32Add (x y : F32) : F32 :=
  let a := f32Val x
  let b := f32Val y
  let e := min a.e b.e
  let v := a.at e + b.at e
  if v = 0 then f32Pack (a.neg && b.neg) 0 else f32OfScaled v e

/-- The negation of a pattern. -/
def f32Neg (x : F32) : F32 := x ^^^ 0x80000000#32

/-- A difference. -/
def f32Sub (x y : F32) : F32 := f32Add x (f32Neg y)

/-- A product. -/
def f32Mul (x y : F32) : F32 :=
  let a := f32Val x
  let b := f32Val y
  f32Round (a.neg != b.neg) (a.m * b.m) 1 (a.e + b.e)

/-- A quotient. A non-zero value over zero is the largest finite value with the dividend's sign, zeros of the divisor being
taken as positive, and 0 over 0 is +0 (R544). -/
def f32Div (x y : F32) : F32 :=
  let a := f32Val x
  let b := f32Val y
  if b.m = 0 then (if a.m = 0 then f32Zero else f32Pack a.neg f32MaxFinite)
  else f32Round (a.neg != b.neg) a.m b.m (a.e - b.e)

/-- The integer square root of x, from the bits of r upward to bit i, highest first. -/
def rootFrom (x : Nat) : Nat → Nat → Nat
  | 0, r => r
  | i + 1, r => rootFrom x i (if (r + 2 ^ i) * (r + 2 ^ i) ≤ x then r + 2 ^ i else r)

/-- 1/√n rounded to nearest (R247): the first 80 binary places, and one bit that says whether any follow. -/
def f32InvSqrt (n : Nat) : F32 :=
  if n = 0 then f32Pack false f32MaxFinite
  else
    let q := rootFrom (2 ^ 160 / n) 81 0
    f32Round false (2 * q + (if q * q * n = 2 ^ 160 then 0 else 1)) 1 (-81)

/-- Comparison of values; +0 and −0 are equal. -/
def f32Lt (x y : F32) : Bool :=
  let a := f32Val x
  let b := f32Val y
  let e := min a.e b.e
  decide (a.at e < b.at e)

/-- The magnitude of a pattern. -/
def f32Abs (x : F32) : F32 := x &&& 0x7FFFFFFF#32

/-- The larger of two values; the first where they are equal. -/
def f32Max (x y : F32) : F32 := if f32Lt x y then y else x

/-- The smaller of two values; the first where they are equal. -/
def f32Min (x y : F32) : F32 := if f32Lt y x then y else x

/-- An integer rounded to nearest, ties to even, from value · 2^k. -/
def f32ToIntScaled (x : F32) (k : Int) : Int :=
  let a := f32Val x
  let e := a.e + k
  let n := if 0 ≤ e then a.m * 2 ^ e.toNat else divEven a.m (2 ^ (-e).toNat)
  if a.neg then -(n : Int) else n

/-- An integer rounded to nearest, ties to even. -/
def f32ToInt (x : F32) : Int := f32ToIntScaled x 0

/-- A BF16 pattern as binary32. -/
def f32OfBf16 (b : Nat) : F32 := BitVec.ofNat 32 (b % 65536 * 65536)

/-- A value rounded to BF16, ties to even, saturating at the largest finite BF16 value. -/
def bf16OfF32 (x : F32) : Nat :=
  let n := x.toNat % 0x80000000
  min (divEven n 65536) 0x7F7F + (if x.toNat < 0x80000000 then 0 else 0x8000)

/-- A sign, an exponent field and a fraction field of a small format as binary32. -/
def f32OfSmall (neg : Bool) (ex fr frBits : Nat) (bias : Int) : F32 :=
  if ex = 0 then f32Round neg fr 1 (1 - bias - frBits)
  else f32Round neg (fr + 2 ^ frBits) 1 ((ex : Int) - bias - frBits)

/-- An E4M3 byte as binary32. -/
def f32OfE4m3 (b : Nat) : F32 := f32OfSmall (decide (128 ≤ b % 256)) (b / 8 % 16) (b % 8) 3 7

/-- An E4M3 byte that is a NaN. -/
def e4m3Nan (b : Nat) : Bool := b % 128 = 127

/-- An E5M2 byte as binary32. -/
def f32OfE5m2 (b : Nat) : F32 := f32OfSmall (decide (128 ≤ b % 256)) (b / 4 % 32) (b % 4) 2 15

/-- An E5M2 byte that is a NaN or an infinity. -/
def e5m2NotFinite (b : Nat) : Bool := b / 4 % 32 = 31

/-- An E2M1 code as binary32. -/
def f32OfE2m1 (b : Nat) : F32 := f32OfSmall (decide (8 ≤ b % 16)) (b / 2 % 4) (b % 2) 1 1

/-- An E2M3 code as binary32. -/
def f32OfE2m3 (b : Nat) : F32 := f32OfSmall (decide (32 ≤ b % 64)) (b / 8 % 4) (b % 8) 3 1

/-- An E3M2 code as binary32. -/
def f32OfE3m2 (b : Nat) : F32 := f32OfSmall (decide (32 ≤ b % 64)) (b / 4 % 8) (b % 4) 2 3

/-- The magnitude of a value rounded to a positive E4M3 byte, ties to even, clamped to lo..hi codes. -/
def e4m3OfF32 (x : F32) (lo hi : Nat) : Nat :=
  let a := f32Val x
  if a.m = 0 then lo
  else
    let u := max ((Nat.log2 a.m : Int) + a.e - 3) (-9)
    let sh := a.e - u
    let q := if 0 ≤ sh then a.m * 2 ^ sh.toNat else divEven a.m (2 ^ (-sh).toNat)
    max lo (min hi ((u + 9).toNat * 8 + q))

/-- The upper clamp of a signed integer. -/
def clampInt (lo hi v : Int) : Int := max lo (min hi v)

/-- An integer quotient rounded to nearest, ties to even, for a positive divisor. -/
def divEvenInt (n : Int) (d : Nat) : Int :=
  let q : Int := divEven n.natAbs d
  if n < 0 then -q else q

/-- The value of a pattern compared with an exact ratio num/den · 2^e. -/
def f32GtRatio (x : F32) (num : Int) (den : Nat) (e : Int) : Bool :=
  let a := f32Val x
  let base := min a.e e
  decide (num * 2 ^ (e - base).toNat < a.at base * den)

/-- A byte as two's complement. -/
def int8OfByte (b : Byte) : Int := b.toInt

end Sys2Proof.Machine
end

