-- ==== Sys2Proof/Machine/State.lean ====
section
/-! DEFINITION. The state of one N1 as plain data, the reasons it can stop, and the state right after a power-on reset.
Sparse maps are sorted lists of (key, value) whose unlisted keys read a default; every dictionary object that stores a
scalar has its one home in `obj` (Machine/Objects.lean gives each its type, access and default). -/

namespace Sys2Proof.Machine
open Sys2Proof

/-- Why the machine stops. -/
inductive Fault where
  /-- The Halyard count would wrap at 2^64 ticks, where the manual says that the N1 does not operate (R31). Raised by
  the idle tick of `step` only. Safe: the model stops where the manual states no behaviour. -/
  | countWrap
  deriving DecidableEq, Repr

/-- Why a command is turned away with no meaning. -/
inductive Refusal where
  /-- The command has no meaning in this model yet. Raised by a refused arm of `exec` only. Safe: nothing happens. -/
  | notModelled (mnemonic : String)
  deriving DecidableEq, Repr

/-! ## Rows of tables that a weight image brings (R172, R173, R154) -/

/-- A layer-table entry (R172). -/
structure LayerEntry where
  slot : Nat
  kind : Nat
  half : Nat
  matCount : Nat
  firstMat : Nat
  norm : Nat
  act : Nat
  heads : Nat
  kvHeads : Nat
  headDim : Nat
  experts : Nat
  topK : Nat
  normTensor : Nat
  eps : F32
  deriving DecidableEq, Repr, Inhabited

/-- A matrix-directory entry (R173). -/
structure MatEntry where
  matId : Nat
  role : Nat
  fmt : Nat
  source : Nat
  red : Nat
  req : Nat
  expert : Nat
  k : Nat
  n : Nat
  rbFirst : Nat
  rbCount : Nat
  xscale : F32
  rq : F32
  strips : Nat
  deriving DecidableEq, Repr, Inhabited

/-- A RECIPE_DEFAULTS record (R175): its slot and the values of objects 0x41nn:01 to 0x41nn:0A in order. -/
structure Recipe where
  slot : Nat
  vals : List Nat
  deriving DecidableEq, Repr, Inhabited

/-- The outlier record of one row block of a matrix (R154): directory index, row block, static rows as (row, is INT8),
the INT8 weights by static INT8 row, and the E4M3 scale byte of each column. -/
structure OutRec where
  mat : Nat
  rb : Nat
  rows : List (Nat × Bool)
  w8 : List (List Int)
  lam : List Nat
  deriving DecidableEq, Repr, Inhabited

/-- A section-table entry (R169). -/
structure SectionEntry where
  type : Nat
  comp : Nat
  device : Nat
  offset : Nat
  stored : Nat
  content : Nat
  digest : Bytes
  deriving DecidableEq, Repr, Inhabited

/-- A weight image as the device holds it (R168 to R178). `codes` is the weight shadow of R178: the stored code of
(directory index, row, column), keyed by `codeKey`, unlisted codes 0b00; `scales` the E4M3 byte of each column. -/
structure Image where
  imageId : Nat
  version : Nat
  digest : Bytes
  keyId : Nat
  layers : List LayerEntry
  mats : List MatEntry
  recipes : List Recipe
  sections : List SectionEntry
  codes : List (Nat × Nat)
  scales : List (Nat × Nat)
  outl : List OutRec
  tensors : List (Nat × Bytes)
  streams : List (Nat × Bytes)
  deriving DecidableEq, Repr, Inhabited

/-! ## Arrays and dies -/

/-- A spare column's role (R62). -/
inductive SpareRole where
  | free
  | hot (l : Nat)
  | dup (l : Nat)
  deriving DecidableEq, Repr, Inhabited

/-- Where an array's contents stand in the image: directory index, row block, column block, strip number and the leaf
position (R128, R131). -/
structure Place where
  mat : Nat
  rb : Nat
  cb : Nat
  strip : Nat
  leaf : Nat
  deriving DecidableEq, Repr, Inhabited

/-- One cell pair under program-and-verify (R195): SET steps of the current staircase, all steps, restarts, resets of the
reset-target cell, and how it ended. -/
structure PairOp where
  steps : Nat
  total : Nat
  restarts : Nat
  resets : Nat
  closed : Bool
  failed : Bool
  deriving DecidableEq, Repr, Inhabited

/-- A program operation in progress (R194 to R196): start tick, and the cell pairs that have been touched, keyed by
1,024 × column + row. -/
structure ProgOp where
  start : Nat
  pairs : List (Nat × PairOp)
  deriving DecidableEq, Repr, Inhabited

/-- One physical array (R56 to R66, R99 to R107, R198). `cells` holds the level in u of cell pair
1,024 × column + row; unlisted pairs are at the reset target. `checks` counts first reads and failed first checks by frame (R191),
`eff0` is the die's effective time at the verify (R94). -/
structure Arr where
  retired : Bool
  failed : Bool
  place : Option Place
  cells : List (Nat × Int)
  badCols : List Nat
  spares : List (Nat × SpareRole)
  badRows : List Nat
  cycles : Nat
  progBeat : Nat
  programmed : Bool
  gd : F32
  gt : F32
  gain : Nat
  skew : F32
  sxy3 : Int
  sxx3 : Int
  sxy1 : Int
  sxx1 : Int
  lowRun : Nat
  requested : Bool
  warned : Bool
  wholeNext : Bool
  idleUntil : Nat
  prog : Option ProgOp
  freeFrom : Nat
  checks : List (Nat × Nat × Nat)
  noise : List Nat
  eff0 : Nat
  deriving DecidableEq, Repr, Inhabited

/-- A Greund die (R95 to R100, R409 to R429). Temperatures in 0.01 °C. `trims` keys band and trim (R427). -/
structure Die where
  lost : Bool
  band : Nat
  tj : Option Int
  plausible : Nat
  held : Bool
  rejected : Bool
  tHist : List Int
  eff : Nat
  trims : List (Nat × Int)
  pendingTrims : List (Nat × Int)
  pendingFail : List (Nat × Nat)
  trimsReady : Bool
  deriving DecidableEq, Repr, Inhabited

/-- A calibration window or array test that waits or runs (R420, R422, R516). -/
structure CalWin where
  die : Nat
  full : Bool
  due : Nat
  routine : Bool
  answer : Option Nat
  test : Option Nat
  start : Nat
  deriving DecidableEq, Repr, Inhabited

/-- A strip move of the placement loop (R191, R192): the arrays it replaces with their targets, which of these are programmed, and
which have run their pattern read set. -/
structure Move where
  olds : List Nat
  targets : List Nat
  order : Nat
  programmed : List Nat
  patterned : List Nat
  deriving DecidableEq, Repr, Inhabited

/-! ## Reads and the data of a step -/

/-- The outcome of one read: read totals of physical columns 0 to 559, which of them include a conversion that stood at
a code limit, and Σ 4^p · LSB of each reference column, whose half is Q_q (R86). -/
structure ReadOut where
  totals : List Int
  limited : List Bool
  qsum : List Nat
  deriving DecidableEq, Repr, Inhabited

/-- How far a read group has come (R87 to R89). -/
inductive ReadPhase where
  | driven
  | converted
  | repeating
  | idle
  | done
  deriving DecidableEq, Repr, Inhabited

/-- A read group on one array (R73 to R91): its array, place, token, step, class B judgement, drive vector with the
reference products and A of R85, the reads made so far, the temperature gain, threshold and repeat count it runs under,
and the leaf values once delivered. `took` is in ns. -/
structure ReadRec where
  rid : Nat
  arr : Nat
  mat : Nat
  rb : Nat
  cb : Nat
  slot : Nat
  token : Nat
  step : Nat
  classB : Bool
  drive : List Int
  rprod : List Int
  asum : Nat
  reads : List ReadOut
  tau : Nat
  repeats : Nat
  gtRead : F32
  subphases : Nat
  took : Nat
  phase : ReadPhase
  leaf : List Int
  sat : List Bool
  lowconf : Bool
  deriving DecidableEq, Repr, Inhabited

/-- A strip result or a merged block of 32 outputs (R134, R137): values m · 2^exp, or 32-bit partials when `form` is 1,
with the flags of R136[6:0]. -/
structure Block where
  mat : Nat
  token : Nat
  block : Nat
  pass : Nat
  form : Nat
  exp : Nat
  vals : List Int
  flags : Nat
  deriving DecidableEq, Repr, Inhabited

/-- The digital sums and outlier tiers of one row block and token (R155, R156). -/
structure Tier where
  mat : Nat
  rb : Nat
  token : Nat
  x : List Int
  first : List Nat
  second : List Nat
  clipped : List Nat
  flags : Nat
  secondDone : Bool
  clippedLate : List Nat
  deriving DecidableEq, Repr, Inhabited

/-- The FP32 outputs of a merged block before requantisation, with its flags (R160). -/
structure OutBlk where
  mat : Nat
  token : Nat
  block : Nat
  y : List F32
  z : List Int
  passed : List F32
  flags : Nat
  reduced : Bool
  deriving DecidableEq, Repr, Inhabited

/-- The running reduction of a token's output row (R140 to R142). -/
structure RowRed where
  mat : Nat
  token : Nat
  next : Nat
  max : F32
  argmax : Nat
  sum : F32
  count : Nat
  flags : Nat
  deriving DecidableEq, Repr, Inhabited

/-- The result of one attention span (R248). -/
structure SpanOut where
  slot : Nat
  token : Nat
  head : Nat
  span : Nat
  m : F32
  l : F32
  u : List F32
  deriving DecidableEq, Repr, Inhabited

/-- A sample of the quality monitor (R115). -/
structure Sample where
  slot : Nat
  mat : Nat
  rbs : List Nat
  drives : List (List Int)
  col0 : Nat
  vals : List F32
  flags : Nat
  mu : Nat
  classB : Bool
  beta : Nat
  lsb : F32
  digest : Bytes
  deriving DecidableEq, Repr, Inhabited

/-- A sample whose read was counted but whose strip result has not left its die yet (R114). -/
structure SampleDue where
  rid : Nat
  mat : Nat
  token : Nat
  block : Nat
  deriving DecidableEq, Repr, Inhabited

/-- Routing of one token in a mixture-of-experts slot (R260, R263). -/
structure Route where
  slot : Nat
  token : Nat
  experts : List Nat
  weights : List F32
  returns : List (Nat × List F32)
  deriving DecidableEq, Repr, Inhabited

/-- What was in effect at the start beat of the step and governs all its reads and passes (R76, R110, R118, R159, R164): the
recipe objects, the arrays with their places, gain registers and temperature gains, the bands, the slots whose QMON
copy is set, and the class B judgement of each strip as (directory index, column block, strip, τ_B or 0 where it is degraded). -/
structure Snap where
  recipe : List (Nat × Nat)
  places : List (Nat × Place)
  gains : List (Nat × Nat)
  gts : List (Nat × F32)
  bands : List Nat
  qmon : List Nat
  strips : List (Nat × Nat × Nat × Nat)
  reserveClock : Nat
  deriving DecidableEq, Repr, Inhabited

/-- The work of the step that is in flight on this member. `heads` holds the greedy token of each output-head row, `arrived` the
(slot, token) whose stream came from another device. -/
structure Work where
  snap : Snap
  heads : List (Nat × Nat)
  arrived : List (Nat × Nat)
  tiers : List Tier
  reads : List ReadRec
  blocks : List Block
  merged : List Block
  outs : List OutBlk
  rows : List RowRed
  spans : List SpanOut
  attn : List (Nat × List F32)
  resid : List (Nat × List F32)
  acts : List ActMsg
  routes : List Route
  flagWords : List (Nat × Nat)
  reserveUsed : List (Nat × Nat)
  samplesDue : List SampleDue
  dispatches : List DispatchMsg
  deriving DecidableEq, Repr, Inhabited

/-! ## Requests, steps and the fabric -/

/-- A page that backs one lane of one chunk (R235), by device address ÷ 65,536. -/
structure PageRef where
  lane : Nat
  chunk : Nat
  page : Nat
  deriving DecidableEq, Repr, Inhabited

/-- A completion of R280 and R362 that waits on the tail. -/
structure Compl where
  ring : Nat
  kind : Nat
  status : Nat
  tag : Nat
  entry : Nat
  tokens : List Nat
  op : Nat
  reason : Nat
  flags : Nat
  pos : Nat
  beat : Nat
  final : Bool
  deriving DecidableEq, Repr, Inhabited

/-- A request entry (R268) with this member's directory of it (R235) and the candidate set of R279. State codes are
those of R268. `awaiting` holds, on the head, the members whose report is awaited (R237, R292), and on another member the
chunks that wait for pages (R237). -/
structure Entry where
  state : Nat
  cls : Nat
  prio : Nat
  spec : Nat
  dipfrom : Nat
  restoring : Bool
  held : Bool
  context : Nat
  burgee : Nat
  sflags : Nat
  committed : Nat
  promptLen : Nat
  stop : Nat
  maxNew : Nat
  tokensOut : Nat
  tag : Nat
  ring : Nat
  ttlEnd : Nat
  deadline : Nat
  prompt : List Nat
  tokPages : List Nat
  lastToken : Nat
  commits : Nat
  pages : List PageRef
  recPages : List Nat
  statePages : List Nat
  cand : Option (Nat × List Nat)
  cmdPending : Nat
  decided : Option (Nat × Nat)
  awaiting : List Nat
  poolWait : Bool
  deriving DecidableEq, Repr, Inhabited

/-- A ring pair's state besides its objects (R354 to R361): ingress entries taken, completion entries written, the
mismatch beat of R358, the token, final and command completions that wait, whether CONSUMED is due, the end of a halved
write rate, and transport retries. -/
structure Ring where
  taken : Nat
  produced : Nat
  mismatch : Option Nat
  toks : List Compl
  finals : List Compl
  cmds : List Compl
  consumedDue : Bool
  rateHalf : Option Nat
  retries : Nat
  deriving DecidableEq, Repr, Inhabited

/-- A step as this member holds it (R335 to R338). -/
structure Step where
  num : Nat
  run : Nat
  frame : Nat
  len : List LenEntry
  admits : List AdmitRec
  cands : List CandRec
  visible : Bool
  started : Bool
  workDone : Bool
  ackSent : Bool
  childAcks : List (Nat × Nat)
  discardSent : Bool
  discards : List (Nat × List Nat)
  decided : Bool
  decision : Option DecMsg
  released : Bool
  withdrawn : Bool
  errors : List ErrAt
  tokens : List (Nat × List Nat)
  leftOut : List Nat
  deferred : List SchedMsg
  resolved : Bool
  redundancy : Bool
  deriving DecidableEq, Repr, Inhabited

/-- A rerun the head has to compose (R452, R453): the length table, the run, whether a deadline was missed, the single
entry misses, and batches deferred by halving. -/
structure Rerun where
  len : List LenEntry
  cands : List CandRec
  run : Nat
  missed : Bool
  single : Nat
  deferred : List (List LenEntry × Nat)
  deriving DecidableEq, Repr, Inhabited

/-- A held multicast that this device has sent (R332). -/
structure McOut where
  mcnum : Nat
  deadline : Nat
  expected : Nat
  acked : List (Nat × Nat)
  closed : Bool
  body : McBody
  deriving DecidableEq, Repr, Inhabited

/-- A pending or visible copy at this member (R332). -/
structure McIn where
  mcnum : Nat
  src : Nat
  link : Nat
  mode : Nat
  targets : List Nat
  deadline : Nat
  parts : List Nat
  total : Nat
  ackSent : Bool
  childAcks : List (Nat × Nat)
  body : McBody
  deriving DecidableEq, Repr, Inhabited

/-- A scheduled command the head has multicast and awaits the MACKs of (R284, R334). -/
structure SchedOut where
  mcnum : Nat
  msg : SchedMsg
  deadline : Nat
  acked : Nat
  deriving DecidableEq, Repr, Inhabited

/-- An ingress entry the poll has taken (R357), with its ring. -/
structure Taken where
  ring : Nat
  op : Nat
  prio : Nat
  cls : Nat
  spec : Nat
  context : Nat
  tag : Nat
  entry : Nat
  deadline : Nat
  maxNew : Nat
  stop : Nat
  promptLen : Nat
  ttl : Nat
  base : Nat
  tokens : List Nat
  promptOff : Nat
  deriving DecidableEq, Repr, Inhabited

/-- The torus and region state of this device: the ring lengths in effect since the last reset (R346), the region box in
effect, and what this member holds of multicasts, scheduled commands and the step. -/
structure Fabric where
  rings : List Nat
  corner : List Nat
  extent : List Nat
  armed : Option (Nat × List Nat × List Nat)
  bypassed : List Nat
  linkChanged : Bool
  mcNext : Nat
  msgNext : Nat
  outs : List McOut
  ins : List McIn
  scheds : List SchedMsg
  schedFrame : Nat
  schedSent : Nat
  schedOuts : List SchedOut
  acted : List Nat
  step : Option Step
  nextStep : Nat
  decisions : List DecMsg
  inDoubt : Option (Nat × Nat)
  lastQuery : Nat
  rerun : Option Rerun
  reports : List (Nat × Nat × List Nat)
  imageReports : List (Nat × Bytes)
  expertLists : List (Nat × Nat × List Nat)
  vc7 : List (Nat × Nat × List Nat)
  vc7Next : Nat
  vc7Resend : List (Nat × Nat)
  mgmtQueue : List Nat
  bypReports : List (Nat × List Nat)
  deriving DecidableEq, Repr, Inhabited

/-- One torus link (R299 to R303): sequence numbers, the replay buffer with replay counts,
flits that wait for a credit with the link they came from, credits held as (pool, beat), training phase, and what the neighbour's INFO said. -/
structure Link where
  txSeq : Nat
  rxSeq : Nat
  replay : List (Flit × Nat)
  waiting : List (Flit × Nat)
  creditsUsed : List (Nat × Nat)
  trainStart : Nat
  attempt : Nat
  retryAt : Option Nat
  converged : Bool
  txLat : Nat
  nbSync : Nat
  nbRegionBound : Nat
  nbRootBound : Nat
  nbParent : Nat
  nbRootPrio : Nat
  nbRootPos : Nat
  timeSeq : Nat
  lastRxSeq : Nat
  lastRxTick : Nat
  lastRxPs : Nat
  sentAt : List (Nat × Nat)
  rxAt : List (Nat × Nat × Nat)
  deriving DecidableEq, Repr, Inhabited

/-- Halyard discipline besides the objects of R55 (R34 to R44). Bounds are held in units of 0.0001 ps. -/
structure TimeSt where
  offsets : List Int
  goodRun : Nat
  lastAdvertised : Nat
  growth : Nat
  lostAt : Option Nat
  guardLapsed : Bool
  ptpLock : Bool
  ptpGood : Nat
  ptpBad : Nat
  lastAnnounce : Nat
  lockLostAt : Option Nat
  armed : Option (Nat × Nat)
  statusSeq : Nat
  deriving DecidableEq, Repr, Inhabited

/-! ## Scratchpads, DMA and windows -/

/-- A context buffer (R202): context, device address, length in bytes, the last live boundary (R465), and
whether a reset frees it once the context's windows have drained (R227). -/
structure Buf where
  ctx : Nat
  base : Nat
  len : Nat
  live : Nat
  freeing : Bool
  deriving DecidableEq, Repr, Inhabited

/-- A window slot (R218 to R223). -/
structure Win where
  state : Nat
  gen : Nat
  ctx : Nat
  base : Nat
  len : Nat
  expiry : Nat
  devices : List Nat
  close : Nat
  drain : Nat
  accepted : Nat
  refused : Nat
  deriving DecidableEq, Repr, Inhabited

/-- A DMA descriptor (R213) with its sequence number, and whether the reset of its context stopped it (R227). -/
structure Desc where
  seq : Nat
  op : Nat
  transpose : Bool
  fence : Bool
  rows : Nat
  ctx : Nat
  window : Nat
  target : Nat
  length : Nat
  sstride : Nat
  dstride : Nat
  src : Nat
  dst : Nat
  compl : Nat
  complEn : Bool
  aborted : Bool
  deriving DecidableEq, Repr, Inhabited

/-- A descriptor in progress: rows moved, bytes, remote writes unanswered and the beat of the last, and its status once
it is decided (R214 to R222). -/
structure DescRun where
  d : Desc
  row : Nat
  bytes : Nat
  unanswered : Nat
  lastIssue : Nat
  status : Option Nat
  deriving DecidableEq, Repr, Inhabited

/-- A DMA engine's queue and descriptors in progress (R211). -/
structure Dma where
  queue : List Desc
  running : List DescRun
  nextSeq : Nat
  deriving DecidableEq, Repr, Inhabited

/-! ## Management, security, power and test -/

/-- A fault record's Ronnar section (R471); `payload` for SAMPLE records. -/
structure FaultRec where
  kind : Nat
  detector : Nat
  beat : Nat
  step : Nat
  run : Nat
  classification : Nat
  unitClass : Nat
  action : Nat
  unit : Nat
  context : Nat
  entry : Nat
  layer : Nat
  space : Nat
  address : Nat
  detail : Nat
  payload : Bytes
  deriving DecidableEq, Repr, Inhabited

/-- A write that Masthead has to make to flash (R474, R484). -/
inductive FlashJob where
  | firmware (image : Bytes)
  | profile (slot : Nat) (data : Bytes)
  | record (r : FaultRec)
  deriving DecidableEq, Repr, Inhabited

/-- Masthead and its mailboxes besides their objects (R392 to R402): words taken from host mailboxes that are not answered yet, the
latest notice of each code, the flash writes that wait in order of acceptance, and an erasure of the log that is due (R474). -/
structure Masthead where
  on : Bool
  restartEnd : Option Nat
  lastRestart : Option Nat
  taken : List (Nat × Word)
  notices : List (Nat × Nat × Nat)
  noticeCount : Nat
  jobs : List FlashJob
  eraseDue : Bool
  wakeAt : Option Nat
  deriving DecidableEq, Repr, Inhabited

/-- What the boot flash keeps through every reset (R21, R403, R474, R479, R499, R508). -/
structure Flash where
  profiles : List Bytes
  firmware : Bytes
  log : List FaultRec
  resets : Nat
  placement : Option Bytes
  interrupted : List Nat
  deriving DecidableEq, Repr, Inhabited

/-- An SPDM session (R367, R489 to R491): role 0 operator, 1 tenant, 2 observer; open once FINISH completed. -/
structure Session where
  id : Nat
  opened : Bool
  role : Nat
  burgee : Nat
  lastXid : Option Nat
  lastResp : Nat × Bool × Bytes
  lastBeat : Nat
  selRing : Nat
  selEntry : Nat
  selCtx : Nat
  winReason : Nat
  winId : Nat
  deriving DecidableEq, Repr, Inhabited

/-- A response that waits for its signature (R491): the kind of request, its XID, session and measurement blocks. -/
structure SigReq where
  kind : Nat
  xid : Nat
  session : Option Nat
  nonce : Bytes
  blocks : List Bytes
  deriving DecidableEq, Repr, Inhabited

/-- The security engine (R476 to R493). -/
structure Sec where
  sessions : List Session
  sigQueue : List SigReq
  ensign : Bool
  privUsed : Bool
  minSvn : Nat
  keys : List (Nat × Nat)
  keyTable : Bytes
  algOk : Bool
  deriving DecidableEq, Repr, Inhabited

/-- Start-up stages done (R503). -/
structure Boot where
  released : Bool
  fwOk : Bool
  keyDone : Bool
  profileDone : Bool
  d2dDone : Bool
  memDone : Bool
  memOk : Bool
  ready : Bool
  recovery : Bool
  deriving DecidableEq, Repr, Inhabited

/-- Power, pins and the always-on domain (R416, R417, R433, R445, R497 to R502, R533, R535). `s3` holds the KIND of the record and the
beat of a hold. Positions and straps as sampled. `vid` is the code that the VID pins carry, `awake` the domains that a wake event
has powered in S2. -/
structure Power where
  s3 : Option (Nat × Nat)
  bypHold : Nat
  bypRequest : Option Bool
  bypReleased : Bool
  shdn : Bool
  s1Since : Nat
  pending : Option FaultRec
  posX : Nat
  posY : Nat
  posZ : Nat
  straps : Nat
  heldRings : List (Nat × Nat)
  resetDue : Option Nat
  dvfsNext : Option Nat
  vid : Nat
  duty8 : Nat
  kappa : F32
  kappaNext : Option F32
  throttleFrom : Option Nat
  awake : List Nat
  deriving DecidableEq, Repr, Inhabited

/-- The housekeeping round (R409 to R419). -/
structure Hk where
  start : Option Nat
  seqInUse : List (Nat × Nat)
  tmax : Option Int
  prev : List (Nat × Int)
  prevFault : List (Nat × Bool)
  memBand : List (Nat × Nat)
  memBandNext : List (Nat × Nat)
  vppHold : Bool
  bandNext : List (Nat × Nat)
  deriving DecidableEq, Repr, Inhabited

/-- Calibration windows and array tests (R420 to R429, R516 to R519). -/
structure Cal where
  waiting : List CalWin
  current : Option CalWin
  adcFits : List (Nat × Int × Int)
  colOffsets : List (Nat × Int)
  colGains : List (Nat × Int × Nat)
  trimmed : Bool
  readBy : List Nat
  testKind : Nat
  testDie : Nat
  blankUntil : Nat
  mode : Nat
  band : Nat
  deriving DecidableEq, Repr, Inhabited

/-- A weight-image load and the placement loop (R185 to R193, R458, R508). -/
structure Load where
  next : Option Image
  reload : Bool
  plan : List (Nat × Place)
  toFetch : List Nat
  retriesLeft : Nat
  reconnects : Nat
  connLostAt : Nat
  lastKeepAlive : Nat
  toProgram : List Nat
  moves : List Move
  replace : List Nat
  retireEv : List Nat
  refetch : Option (Nat × Nat)
  calDone : Bool
  lists : List (Nat × Nat × List Nat)
  deriving DecidableEq, Repr, Inhabited

/-- The KV pool and the Reserve tier (R236 to R239, R290). Page numbers are device address ÷ 65,536. -/
structure Pool where
  base : List Nat
  size : List Nat
  used : List Nat
  retired : List Nat
  zeroing : List Nat
  resUsed : List Nat
  resZeroing : List Nat
  deriving DecidableEq, Repr, Inhabited

/-- The Ethernet port and the dictionary responder (R347 to R370): MTU by destination, requests waiting in the responder's
queue at a beat (R364), open block writes as (object key, session, offset reached, data, beat), the last ring polled, and the protocol and
port to which the last received frame was handed, none where it was dropped (the model's own field). -/
structure Eth where
  mtu : List (Bytes × Nat)
  queued : Nat
  servedBeat : Nat
  blocks : List (Nat × Option Nat × Nat × Bytes × Nat)
  lastServedRing : Nat
  handed : Option (Nat × Nat)
  deriving DecidableEq, Repr, Inhabited

/-- Faults and recovery (R448 to R474). -/
structure Faults where
  unclassified : List ErrAt
  retiredUnits : List (Nat × Nat)
  resetBeats : List Nat
  hmBeats : List Nat
  hmEntered : Option Nat
  causes : List Nat
  hmDue : List Nat
  ctxResets : List (Nat × Bool)
  seriesCtx : List Nat
  leaveDue : Bool
  deriving DecidableEq, Repr, Inhabited

/-- The test access port (R520 to R524): the instruction, the boundary register, what the selected data register captured, and
whether the instruction holds the device in reset. -/
structure Tap where
  ir : Nat
  boundary : Bytes
  dr : Bytes
  hold : Bool
  deriving DecidableEq, Repr, Inhabited

/-- What leaves the device. -/
inductive Out where
  /-- a Dictionary Protocol response: XID, session, status, LAST, value or segment -/
  | dict (xid : Nat) (session : Option Nat) (status : Nat) (last : Bool) (value : Bytes)
  /-- an SPDM response: XID, session, name of the message, its content -/
  | spdm (xid : Nat) (session : Option Nat) (what : String) (content : List Bytes)
  /-- a torus packet: VC, type of R305, destination position, TAG, content fields -/
  | packet (vc ptype dst tag : Nat) (fields : List Nat)
  /-- a copy of a held multicast sent from this device as its sender -/
  | multicast (mcnum deadline : Nat) (targets : List Nat) (body : McBody)
  /-- a scheduled multicast -/
  | sched (m : SchedMsg)
  /-- a report on VC1 to the given device position -/
  | report (dst : Nat) (m : ReportMsg)
  /-- a time flit on a link -/
  | time (link : Nat) (p : TimePayload)
  /-- an INFO flit on a link -/
  | info (link : Nat) (p : InfoPayload)
  /-- a flit forwarded on a link -/
  | forward (link : Nat) (f : Flit)
  /-- link-layer acknowledgement fields on a link: LACK, LNACK, credit pool and count -/
  | linkAck (link lack : Nat) (lnack : Bool) (pool count : Nat)
  /-- a completion entry written to host memory (R362) -/
  | completion (c : Compl) (seq : Nat)
  /-- PRODUCED written by the tail (R356) -/
  | produced (ring value : Nat)
  /-- CONSUMED written by the head (R356) -/
  | consumed (ring value : Nat)
  /-- a status frame (R369) -/
  | statusFrame (fields : List Nat)
  /-- a fault record written to the flash log (R474) -/
  | logged (r : FaultRec)
  /-- an Ethernet answer: neighbour advertisement, echo reply, remote access error -/
  | eth (what : String) (dest data : Bytes)
  /-- a row of a remote write or message issued by a DMA engine -/
  | dmaWrite (engine seq target window offset issue : Nat) (data : Bytes)
  /-- a message issued by a DMA engine to a context of another device -/
  | dmaMessage (engine seq target context : Nat) (data : Bytes)
  /-- a data packet of step work: activations, partials, expert returns (R263) -/
  | act (dst : Nat) (m : ActMsg)
  /-- NVMe/TCP traffic of the image fetch (R179) -/
  | nvme (what : String) (arg : Nat)
  deriving DecidableEq, Repr

/-- One N1. -/
structure State where
  /-- the commands that wait, first in, first out (the model's own field) -/
  pending : List Instr
  /-- the Halyard count (R31) -/
  count : Count
  /-- how many free values have been drawn (the model's own field) -/
  draws : Nat
  /-- scalar dictionary objects, keyed by `objKey`; unlisted objects read their default -/
  obj : List (Nat × Nat)
  /-- accepted RWF values held pending (R7, R8) -/
  pend : List (Nat × Nat)
  /-- OCTETS, STR and DOMAIN objects; unlisted ones read their default -/
  oct : List (Nat × Bytes)
  /-- budget, enable and counter values live in `obj`; the request table (R268) -/
  table : List (Nat × Entry)
  rings : List (Nat × Ring)
  ringMem : List Host.Cell
  /-- RDMA writes that landed, as (beat, address, bytes); a poll sees those of earlier beats (R358, R360) -/
  landed : List (Nat × Nat × Bytes)
  taken : List Taken
  /-- device memory of R200, by 40-bit device address -/
  mem : List Host.Cell
  bufs : List Buf
  granZero : List Nat
  wins : List (Nat × Win)
  dma : List (Nat × Dma)
  pool : Pool
  arrays : List (Nat × Arr)
  dies : List Die
  img : Option Image
  load : Load
  qmonCopy : List Nat
  samples : List Sample
  /-- array reads that the quality monitor has counted (R114) -/
  monReads : Nat
  work : Work
  nextRid : Nat
  fab : Fabric
  links : List Link
  time : TimeSt
  eth : Eth
  hk : Hk
  cal : Cal
  power : Power
  boot : Boot
  masthead : Masthead
  flash : Flash
  sec : Sec
  faults : Faults
  tap : Tap
  out : List Out
  deriving DecidableEq, Repr

/-! ## The state right after a power-on reset -/

/-- An array with no history: nothing stored, no cycle, gain 1 (R103). -/
def Arr.blank : Arr where
  retired := false
  failed := false
  place := none
  cells := []
  badCols := []
  spares := []
  badRows := []
  cycles := 0
  progBeat := 0
  programmed := false
  gd := 0x3F800000#32
  gt := 0x3F800000#32
  gain := 4096
  skew := 0#32
  sxy3 := 0
  sxx3 := 0
  sxy1 := 0
  sxx1 := 0
  lowRun := 0
  requested := false
  warned := false
  wholeNext := true
  idleUntil := 0
  prog := none
  freeFrom := 0
  checks := []
  noise := []
  eff0 := 0

/-- A die at release: band T4 with no plausible reading (R95). -/
def Die.atRelease : Die where
  lost := false
  band := 4
  tj := none
  plausible := 0
  held := true
  rejected := false
  tHist := []
  eff := 0
  trims := []
  pendingTrims := []
  pendingFail := []
  trimsReady := false

/-- A FREE request entry with the field defaults of R268. -/
def Entry.free : Entry where
  state := 0
  cls := 0
  prio := 0
  spec := 0
  dipfrom := 0
  restoring := false
  held := false
  context := 0
  burgee := 0
  sflags := 0
  committed := 0
  promptLen := 0
  stop := 0xFFFFFFFF
  maxNew := 0
  tokensOut := 0
  tag := 0
  ring := 0
  ttlEnd := 0
  deadline := 0
  prompt := []
  tokPages := []
  lastToken := 0
  commits := 0
  pages := []
  recPages := []
  statePages := []
  cand := none
  cmdPending := 0
  decided := none
  awaiting := []
  poolWait := false

/-- A ring pair that nothing has used. -/
def Ring.idle : Ring := ⟨0, 0, none, [], [], [], false, none, 0⟩

/-- A FREE window slot, generation 0 (R219, defaults of R228). -/
def Win.free : Win := ⟨0, 0, 0xFFFF, 0, 0, 0, List.replicate 16 0xFFFF, 0, 0, 0, 0⟩

/-- A DMA engine with an empty queue (R211). -/
def Dma.idle : Dma := ⟨[], [], 0⟩

/-- A link that is DOWN and untrained. -/
def Link.down : Link where
  txSeq := 0
  rxSeq := 0
  replay := []
  waiting := []
  creditsUsed := []
  trainStart := 0
  attempt := 0
  retryAt := none
  converged := false
  txLat := 0
  nbSync := 0
  nbRegionBound := 0xFFFFFFFF
  nbRootBound := 0xFFFFFFFF
  nbParent := 0xFFFFFFFF
  nbRootPrio := 255
  nbRootPos := 0xFFFFFFFF
  timeSeq := 0
  lastRxSeq := 0
  lastRxTick := 0
  lastRxPs := 0
  sentAt := []
  rxAt := []

/-- No step work. -/
def Work.none : Work := ⟨⟨[], [], [], [], [], [], [], 0⟩, [], [], [], [], [], [], [], [], [], [], [], [], [], [], [], [], []⟩

/-- No region, no multicast, no step. -/
def Fabric.idle : Fabric where
  rings := [64, 64, 64]
  corner := [0, 0, 0]
  extent := [0, 0, 0]
  armed := Option.none
  bypassed := []
  linkChanged := false
  mcNext := 0
  msgNext := 0
  outs := []
  ins := []
  scheds := []
  schedFrame := 0
  schedSent := 0
  schedOuts := []
  acted := []
  step := Option.none
  nextStep := 0
  decisions := []
  inDoubt := Option.none
  lastQuery := 0
  rerun := Option.none
  reports := []
  imageReports := []
  expertLists := []
  vc7 := []
  vc7Next := 0
  vc7Resend := []
  mgmtQueue := []
  bypReports := []

/-- Halyard discipline at a power-on reset. -/
def TimeSt.unlocked : TimeSt := ⟨[], 0, 0, 0, none, false, false, 0, 0, 0, none, none, 0⟩

/-- The power state in reset: BYP_HOLD is three-state (2) until start-up drives it (R340, R533). -/
def Power.inReset : Power where
  s3 := none
  bypHold := 2
  bypRequest := none
  bypReleased := false
  shdn := false
  s1Since := 0
  pending := none
  posX := 0
  posY := 0
  posZ := 0
  straps := 0
  heldRings := []
  resetDue := none
  dvfsNext := none
  vid := 0
  duty8 := 8
  kappa := 0x3F800000#32
  kappaNext := none
  throttleFrom := none
  awake := []

/-- The machine right after a power-on reset (R498, R499): count lost, nothing started, every object at its default, the
flash as a log entry names it. -/
def State.reset : State where
  pending := []
  count := 0#64
  draws := 0
  obj := []
  pend := []
  oct := []
  table := []
  rings := []
  ringMem := []
  landed := []
  taken := []
  mem := []
  bufs := []
  granZero := []
  wins := []
  dma := []
  pool := ⟨[0x100000, 0x280000], [0, 0], [], [], [], [], []⟩
  arrays := []
  dies := List.replicate 8 Die.atRelease
  img := none
  load := ⟨none, false, [], [], 2, 3, 0, 0, [], [], [], [], none, false, []⟩
  qmonCopy := []
  samples := []
  monReads := 0
  work := Work.none
  nextRid := 0
  fab := Fabric.idle
  links := List.replicate 6 Link.down
  time := TimeSt.unlocked
  eth := ⟨[], 0, 0, [], 255, none⟩
  hk := ⟨none, [], none, [], [], [], [], false, []⟩
  cal := ⟨[], none, [], [], [], false, [], 0, 0, 0, 0, 4⟩
  power := Power.inReset
  boot := ⟨false, false, false, false, false, false, false, false, false⟩
  masthead := ⟨false, none, none, [], [], 0, [], false, none⟩
  flash := ⟨[[], [], [], []], [], [], 0, none, []⟩
  sec := ⟨[], [], false, false, 0, [], [], false⟩
  faults := ⟨[], [], [], [], none, [], [], [], [], false⟩
  tap := ⟨1, [], [], false⟩
  out := []

end Sys2Proof.Machine
end

