-- ==== Sys2Proof/Machine/ObjTable.lean ====
section
/-! DEFINITION. The object dictionary as a table (R373): for each object its index and subindex range, type, length in a frame,
access code, default and the range of values that it accepts, row by row from the tables that R373 names. -/

namespace Sys2Proof.Machine
open Sys2Proof

/-- Value types of R374. -/
inductive ObjType where
  | bool
  | uint
  | int
  | f32
  | str
  | octets
  | domain
  deriving DecidableEq, Repr

/-- Access codes of R7. -/
inductive Access where
  | const
  | ro
  | rw
  | wo
  | rwf
  | w1c
  deriving DecidableEq, Repr

/-- One row of an object table: indices `lo` to `hi`, subindices `subLo` to `subHi`, type, length in bytes (the greatest for
STR and DOMAIN), access, default and the stated values from `least` to `most`. -/
structure ObjRow where
  lo : Nat
  hi : Nat
  subLo : Nat
  subHi : Nat
  type : ObjType
  len : Nat
  access : Access
  dflt : Nat
  least : Nat
  most : Nat
  deriving DecidableEq, Repr

/-- Objects of R55 in range 0x1200 to 0x12FF. -/
def rowsR55_12 : List ObjRow :=
  [
    ⟨0x1200, 0x1200, 0x01, 0x01, .uint, 8, .ro, 0, 0, 0⟩
  , ⟨0x1200, 0x1200, 0x02, 0x02, .uint, 8, .ro, 0, 0, 0⟩
  , ⟨0x1200, 0x1200, 0x03, 0x03, .uint, 1, .ro, 0, 0, 0⟩
  , ⟨0x1200, 0x1200, 0x04, 0x04, .uint, 4, .ro, 0xffffffff, 0, 0⟩
  , ⟨0x1200, 0x1200, 0x05, 0x05, .uint, 4, .ro, 0xffffffff, 0, 0⟩
  , ⟨0x1200, 0x1200, 0x06, 0x06, .uint, 1, .ro, 0, 0, 0⟩
  , ⟨0x1200, 0x1200, 0x07, 0x07, .int, 4, .ro, 0, 0, 0⟩
  , ⟨0x1200, 0x1200, 0x08, 0x08, .int, 4, .ro, 0, 0, 0⟩
  , ⟨0x1200, 0x1200, 0x09, 0x09, .uint, 4, .ro, 0, 0, 0⟩
  , ⟨0x1200, 0x1200, 0x0A, 0x0A, .uint, 1, .w1c, 0, 0, 63⟩
  , ⟨0x1201, 0x1201, 0x01, 0x01, .uint, 2, .ro, 256, 0, 0⟩
  , ⟨0x1201, 0x1201, 0x02, 0x02, .uint, 2, .rwf, 64, 16, 4096⟩
  , ⟨0x1201, 0x1201, 0x03, 0x03, .uint, 1, .ro, 0, 0, 0⟩
  , ⟨0x1201, 0x1201, 0x05, 0x05, .uint, 4, .ro, 0, 0, 0⟩
  , ⟨0x1201, 0x1201, 0x06, 0x06, .uint, 2, .rw, 256, 64, 65535⟩
  , ⟨0x1201, 0x1201, 0x07, 0x07, .uint, 8, .rw, 0, 0, 18446744073709551615⟩
  , ⟨0x1202, 0x1202, 0x01, 0x01, .bool, 1, .rw, 0, 0, 1⟩
  , ⟨0x1202, 0x1202, 0x02, 0x02, .uint, 1, .rw, 128, 0, 255⟩
  , ⟨0x1202, 0x1202, 0x03, 0x03, .uint, 4, .ro, 0xffffffff, 0, 0⟩
  , ⟨0x1202, 0x1202, 0x04, 0x04, .uint, 4, .rw, 0xee6b3, 0, 4294967295⟩
  , ⟨0x1202, 0x1202, 0x05, 0x05, .int, 8, .ro, 0, 0, 0⟩
  , ⟨0x1203, 0x1203, 0x01, 0x01, .uint, 4, .rw, 4096, 0, 4294967295⟩
  , ⟨0x1203, 0x1203, 0x02, 0x02, .uint, 8, .ro, 0, 0, 0⟩
  ]

/-- Objects of R92 in range 0x4100 to 0x41FF. -/
def rowsR92_41 : List ObjRow :=
  [
    ⟨0x4100, 0x41FF, 0x01, 0x01, .uint, 1, .rwf, 0, 0, 2⟩
  , ⟨0x4100, 0x41FF, 0x02, 0x02, .uint, 1, .rwf, 3, 0, 3⟩
  , ⟨0x4100, 0x41FF, 0x03, 0x03, .uint, 2, .rwf, 0, 0, 1024⟩
  , ⟨0x4100, 0x41FF, 0x04, 0x04, .uint, 2, .rwf, 655, 0, 65535⟩
  , ⟨0x4100, 0x41FF, 0x05, 0x05, .uint, 1, .rwf, 1, 0, 4⟩
  , ⟨0x4100, 0x41FF, 0x06, 0x06, .bool, 1, .rwf, 1, 0, 1⟩
  , ⟨0x4100, 0x41FF, 0x10, 0x10, .uint, 8, .ro, 0, 0, 0⟩
  , ⟨0x4100, 0x41FF, 0x11, 0x11, .uint, 8, .ro, 0, 0, 0⟩
  , ⟨0x4100, 0x41FF, 0x12, 0x12, .uint, 8, .ro, 0, 0, 0⟩
  , ⟨0x4100, 0x41FF, 0x13, 0x13, .uint, 8, .ro, 0, 0, 0⟩
  , ⟨0x4100, 0x41FF, 0x14, 0x14, .uint, 8, .ro, 0, 0, 0⟩
  , ⟨0x4100, 0x41FF, 0x15, 0x15, .uint, 8, .ro, 0, 0, 0⟩
  , ⟨0x4100, 0x41FF, 0x16, 0x16, .uint, 8, .ro, 0, 0, 0⟩
  , ⟨0x4100, 0x41FF, 0x17, 0x17, .uint, 8, .ro, 0, 0, 0⟩
  ]

/-- Objects of R120 in range 0x4100 to 0x41FF. -/
def rowsR120_41 : List ObjRow :=
  [
    ⟨0x4100, 0x41FF, 0x07, 0x07, .uint, 2, .rwf, 1311, 0, 65535⟩
  , ⟨0x4100, 0x41FF, 0x18, 0x18, .uint, 8, .ro, 0, 0, 0⟩
  , ⟨0x4100, 0x41FF, 0x19, 0x19, .uint, 8, .ro, 0, 0, 0⟩
  , ⟨0x4100, 0x41FF, 0x1A, 0x1A, .uint, 8, .ro, 0, 0, 0⟩
  , ⟨0x4100, 0x41FF, 0x1B, 0x1B, .uint, 4, .ro, 0, 0, 0⟩
  , ⟨0x4100, 0x41FF, 0x1C, 0x1C, .uint, 1, .w1c, 0, 0, 3⟩
  , ⟨0x4100, 0x41FF, 0x1D, 0x1D, .uint, 8, .ro, 0, 0, 0⟩
  , ⟨0x4100, 0x41FF, 0x1E, 0x1E, .uint, 8, .ro, 0, 0, 0⟩
  , ⟨0x4100, 0x41FF, 0x1F, 0x1F, .uint, 2, .ro, 4096, 0, 0⟩
  , ⟨0x4100, 0x41FF, 0x20, 0x20, .int, 4, .ro, 0, 0, 0⟩
  ]

/-- Objects of R121 in range 0x4200 to 0x42FF. -/
def rowsR121_42 : List ObjRow :=
  [
    ⟨0x4200, 0x4200, 0x01, 0x01, .uint, 2, .rwf, 4096, 256, 65535⟩
  , ⟨0x4200, 0x4200, 0x02, 0x02, .bool, 1, .rwf, 1, 0, 1⟩
  , ⟨0x4200, 0x4200, 0x03, 0x03, .uint, 8, .ro, 0, 0, 0⟩
  , ⟨0x4200, 0x4200, 0x04, 0x04, .uint, 8, .ro, 0, 0, 0⟩
  , ⟨0x4200, 0x4200, 0x05, 0x05, .uint, 8, .ro, 0, 0, 0⟩
  , ⟨0x4200, 0x4200, 0x06, 0x06, .uint, 1, .ro, 0, 0, 0⟩
  , ⟨0x4200, 0x4200, 0x07, 0x07, .uint, 2, .ro, 0xffff, 0, 0⟩
  ]

/-- Objects of R122 in range 0x2200 to 0x22FF. -/
def rowsR122_22 : List ObjRow :=
  [
    ⟨0x2210, 0x2210, 0x01, 0x08, .uint, 1, .ro, 0, 0, 0⟩
  , ⟨0x2210, 0x2210, 0x09, 0x09, .uint, 1, .w1c, 0, 0, 255⟩
  , ⟨0x2210, 0x2210, 0x12, 0x12, .uint, 1, .w1c, 0, 0, 15⟩
  , ⟨0x2211, 0x2211, 0x01, 0x08, .uint, 2, .ro, 0, 0, 0⟩
  , ⟨0x2212, 0x2212, 0x01, 0x01, .uint, 2, .ro, 0, 0, 0⟩
  , ⟨0x2212, 0x2212, 0x02, 0x02, .uint, 2, .ro, 0, 0, 0⟩
  , ⟨0x2212, 0x2212, 0x03, 0x03, .uint, 2, .rwf, 5632, 4096, 5888⟩
  , ⟨0x2212, 0x2212, 0x04, 0x04, .uint, 8, .ro, 0xffffffffffffffff, 0, 0⟩
  , ⟨0x2212, 0x2212, 0x05, 0x05, .uint, 2, .ro, 4096, 0, 0⟩
  , ⟨0x2213, 0x2213, 0x01, 0x08, .uint, 4, .ro, 0, 0, 0⟩
  ]

/-- Objects of R144 in range 0x4100 to 0x41FF. -/
def rowsR144_41 : List ObjRow :=
  [
    ⟨0x4100, 0x41FF, 0x21, 0x21, .uint, 8, .ro, 0, 0, 0⟩
  , ⟨0x4100, 0x41FF, 0x22, 0x22, .uint, 8, .ro, 0, 0, 0⟩
  , ⟨0x4100, 0x41FF, 0x23, 0x23, .uint, 8, .ro, 0, 0, 0⟩
  ]

/-- Objects of R166 in range 0x4100 to 0x41FF. -/
def rowsR166_41 : List ObjRow :=
  [
    ⟨0x4100, 0x41FF, 0x08, 0x08, .uint, 1, .rwf, 96, 1, 127⟩
  , ⟨0x4100, 0x41FF, 0x09, 0x09, .uint, 1, .rwf, 16, 0, 16⟩
  , ⟨0x4100, 0x41FF, 0x0A, 0x0A, .bool, 1, .rwf, 1, 0, 1⟩
  , ⟨0x4100, 0x41FF, 0x0B, 0x0B, .uint, 1, .ro, 0, 0, 0⟩
  , ⟨0x4100, 0x41FF, 0x24, 0x24, .uint, 8, .ro, 0, 0, 0⟩
  , ⟨0x4100, 0x41FF, 0x25, 0x25, .uint, 8, .ro, 0, 0, 0⟩
  , ⟨0x4100, 0x41FF, 0x26, 0x26, .uint, 8, .ro, 0, 0, 0⟩
  , ⟨0x4100, 0x41FF, 0x27, 0x27, .uint, 8, .ro, 0, 0, 0⟩
  , ⟨0x4100, 0x41FF, 0x28, 0x28, .uint, 8, .ro, 0, 0, 0⟩
  , ⟨0x4100, 0x41FF, 0x29, 0x29, .uint, 8, .ro, 0, 0, 0⟩
  , ⟨0x4100, 0x41FF, 0x2A, 0x2A, .uint, 1, .ro, 0, 0, 0⟩
  , ⟨0x4100, 0x41FF, 0x2B, 0x2B, .uint, 8, .ro, 0, 0, 0⟩
  , ⟨0x4100, 0x41FF, 0x2C, 0x2C, .uint, 8, .ro, 0, 0, 0⟩
  ]

/-- Objects of R167 in range 0x4200 to 0x42FF. -/
def rowsR167_42 : List ObjRow :=
  [
    ⟨0x4201, 0x4201, 0x01, 0x01, .uint, 8, .ro, 0, 0, 0⟩
  , ⟨0x4201, 0x4201, 0x02, 0x02, .uint, 8, .ro, 0, 0, 0⟩
  , ⟨0x4201, 0x4201, 0x03, 0x03, .uint, 8, .ro, 0, 0, 0⟩
  , ⟨0x4201, 0x4201, 0x04, 0x04, .uint, 8, .ro, 0, 0, 0⟩
  , ⟨0x4201, 0x4201, 0x05, 0x05, .uint, 8, .ro, 0, 0, 0⟩
  , ⟨0x4201, 0x4201, 0x06, 0x06, .uint, 8, .ro, 0, 0, 0⟩
  ]

/-- Objects of R199 in range 0x4000 to 0x40FF. -/
def rowsR199_40 : List ObjRow :=
  [
    ⟨0x4000, 0x4000, 0x01, 0x01, .octets, 16, .rw, 0, 0, 0⟩
  , ⟨0x4000, 0x4000, 0x02, 0x02, .uint, 2, .rw, 4420, 0, 65535⟩
  , ⟨0x4000, 0x4000, 0x03, 0x03, .str, 223, .rw, 0, 0, 0⟩
  , ⟨0x4000, 0x4000, 0x04, 0x04, .uint, 4, .rw, 1, 0, 4294967295⟩
  , ⟨0x4000, 0x4000, 0x05, 0x05, .uint, 8, .rw, 0, 0, 18446744073709551615⟩
  , ⟨0x4000, 0x4000, 0x06, 0x06, .str, 223, .rw, 0, 0, 0⟩
  , ⟨0x4000, 0x4000, 0x07, 0x07, .uint, 1, .rw, 3, 0, 3⟩
  , ⟨0x4000, 0x4000, 0x10, 0x10, .uint, 1, .wo, 0, 1, 2⟩
  , ⟨0x4000, 0x4000, 0x11, 0x11, .uint, 1, .ro, 0, 0, 0⟩
  , ⟨0x4000, 0x4000, 0x12, 0x12, .uint, 1, .ro, 0, 0, 0⟩
  , ⟨0x4000, 0x4000, 0x13, 0x13, .uint, 8, .ro, 0, 0, 0⟩
  , ⟨0x4000, 0x4000, 0x14, 0x14, .uint, 4, .ro, 0, 0, 0⟩
  , ⟨0x4000, 0x4000, 0x15, 0x15, .uint, 4, .ro, 0, 0, 0⟩
  , ⟨0x4000, 0x4000, 0x16, 0x16, .uint, 8, .ro, 0, 0, 0⟩
  , ⟨0x4000, 0x4000, 0x17, 0x17, .uint, 2, .ro, 0xffff, 0, 0⟩
  , ⟨0x4001, 0x4001, 0x01, 0x01, .octets, 64, .ro, 0, 0, 0⟩
  , ⟨0x4001, 0x4001, 0x02, 0x02, .uint, 8, .ro, 0, 0, 0⟩
  , ⟨0x4001, 0x4001, 0x03, 0x03, .uint, 4, .ro, 0, 0, 0⟩
  , ⟨0x4001, 0x4001, 0x04, 0x04, .uint, 2, .ro, 0, 0, 0⟩
  , ⟨0x4001, 0x4001, 0x05, 0x05, .uint, 4, .ro, 0, 0, 0⟩
  , ⟨0x4002, 0x4002, 0x01, 0x01, .uint, 4, .ro, 0, 0, 0⟩
  , ⟨0x4002, 0x4002, 0x02, 0x02, .uint, 4, .ro, 0, 0, 0⟩
  , ⟨0x4002, 0x4002, 0x03, 0x03, .uint, 4, .ro, 0, 0, 0⟩
  , ⟨0x4002, 0x4002, 0x04, 0x04, .uint, 4, .ro, 0, 0, 0⟩
  , ⟨0x4002, 0x4002, 0x05, 0x05, .uint, 4, .ro, 0, 0, 0⟩
  , ⟨0x4003, 0x4003, 0x01, 0x08, .uint, 2, .ro, 0, 0, 0⟩
  , ⟨0x4004, 0x4004, 0x01, 0x01, .uint, 1, .rw, 8, 1, 8⟩
  , ⟨0x4004, 0x4004, 0x02, 0x02, .uint, 1, .rwf, 2, 0, 8⟩
  , ⟨0x4004, 0x4004, 0x03, 0x03, .uint, 4, .rw, 0x17318, 1, 100000⟩
  , ⟨0x4004, 0x4004, 0x04, 0x04, .uint, 4, .ro, 0, 0, 0⟩
  , ⟨0x4004, 0x4004, 0x05, 0x05, .uint, 8, .ro, 0, 0, 0⟩
  , ⟨0x4004, 0x4004, 0x06, 0x06, .uint, 8, .ro, 0, 0, 0⟩
  , ⟨0x4004, 0x4004, 0x07, 0x07, .uint, 4, .ro, 0, 0, 0⟩
  , ⟨0x4004, 0x4004, 0x08, 0x08, .uint, 8, .ro, 0, 0, 0⟩
  , ⟨0x4004, 0x4004, 0x09, 0x09, .uint, 8, .ro, 0, 0, 0⟩
  , ⟨0x4004, 0x4004, 0x0A, 0x0A, .uint, 1, .wo, 0, 0, 255⟩
  ]

/-- Objects of R228 in range 0x3200 to 0x32FF. -/
def rowsR228_32 : List ObjRow :=
  [
    ⟨0x3200, 0x3200, 0x01, 0x01, .uint, 8, .ro, 0, 0, 0⟩
  , ⟨0x3200, 0x3200, 0x02, 0x02, .uint, 8, .ro, 0, 0, 0⟩
  , ⟨0x3200, 0x3200, 0x03, 0x03, .uint, 8, .ro, 0, 0, 0⟩
  , ⟨0x3200, 0x3200, 0x04, 0x04, .uint, 8, .ro, 0, 0, 0⟩
  , ⟨0x3200, 0x3200, 0x05, 0x05, .uint, 2, .ro, 2560, 0, 0⟩
  , ⟨0x3200, 0x3200, 0x06, 0x06, .uint, 2, .ro, 2560, 0, 0⟩
  , ⟨0x3201, 0x3201, 0x01, 0x10, .uint, 8, .ro, 0, 0, 0⟩
  , ⟨0x3201, 0x3201, 0x11, 0x20, .uint, 1, .ro, 0, 0, 0⟩
  , ⟨0x3202, 0x3202, 0x01, 0x01, .bool, 1, .ro, 0, 0, 0⟩
  , ⟨0x3202, 0x3202, 0x02, 0x02, .uint, 2, .ro, 1, 0, 0⟩
  , ⟨0x3202, 0x3202, 0x03, 0x03, .uint, 2, .ro, 3, 0, 0⟩
  , ⟨0x3202, 0x3202, 0x04, 0x04, .uint, 8, .ro, 0, 0, 0⟩
  , ⟨0x3202, 0x3202, 0x05, 0x05, .uint, 8, .ro, 0, 0, 0⟩
  , ⟨0x3202, 0x3202, 0x06, 0x06, .uint, 1, .ro, 0, 0, 0⟩
  , ⟨0x3202, 0x3202, 0x07, 0x07, .uint, 8, .ro, 0, 0, 0⟩
  , ⟨0x3203, 0x3203, 0x01, 0x01, .octets, 64, .wo, 0, 0, 0⟩
  , ⟨0x3203, 0x3203, 0x02, 0x02, .uint, 2, .wo, 0, 0, 65535⟩
  , ⟨0x3203, 0x3203, 0x03, 0x03, .uint, 2, .ro, 0xffff, 0, 0⟩
  , ⟨0x3210, 0x3210, 0x01, 0x01, .octets, 32, .wo, 0, 0, 0⟩
  , ⟨0x3210, 0x3210, 0x02, 0x02, .uint, 1, .rw, 0, 0, 15⟩
  , ⟨0x3210, 0x3210, 0x03, 0x03, .uint, 1, .ro, 0, 0, 0⟩
  , ⟨0x3280, 0x32FF, 0x01, 0x01, .uint, 1, .ro, 0, 0, 0⟩
  , ⟨0x3280, 0x32FF, 0x02, 0x02, .uint, 2, .ro, 0xffff, 0, 0⟩
  , ⟨0x3280, 0x32FF, 0x03, 0x03, .uint, 8, .ro, 0, 0, 0⟩
  , ⟨0x3280, 0x32FF, 0x04, 0x04, .uint, 4, .ro, 0, 0, 0⟩
  , ⟨0x3280, 0x32FF, 0x05, 0x05, .uint, 2, .ro, 0, 0, 0⟩
  , ⟨0x3280, 0x32FF, 0x06, 0x06, .uint, 8, .rw, 0, 0, 18446744073709551615⟩
  , ⟨0x3280, 0x32FF, 0x07, 0x07, .octets, 32, .ro, 0, 0, 0⟩
  , ⟨0x3280, 0x32FF, 0x08, 0x08, .uint, 8, .ro, 0, 0, 0⟩
  , ⟨0x3280, 0x32FF, 0x09, 0x09, .uint, 8, .ro, 0, 0, 0⟩
  , ⟨0x3280, 0x32FF, 0x0A, 0x0A, .uint, 8, .ro, 0, 0, 0⟩
  ]

/-- Objects of R266 in range 0x6000 to 0x60FF. -/
def rowsR266_60 : List ObjRow :=
  [
    ⟨0x6000, 0x6000, 0x01, 0x01, .uint, 1, .rw, 0, 0, 1⟩
  , ⟨0x6000, 0x6000, 0x02, 0x02, .uint, 4, .rw, 0x20000, 1024, 1048576⟩
  , ⟨0x6000, 0x6000, 0x03, 0x03, .f32, 4, .rw, 0x461c4000, 0, 4294967295⟩
  , ⟨0x6000, 0x6000, 0x04, 0x04, .uint, 2, .rw, 0, 0, 65535⟩
  , ⟨0x6000, 0x6000, 0x05, 0x05, .uint, 2, .ro, 0, 0, 0⟩
  , ⟨0x6000, 0x6000, 0x06, 0x06, .uint, 2, .ro, 0, 0, 0⟩
  , ⟨0x6000, 0x6000, 0x07, 0x07, .uint, 8, .ro, 0, 0, 0⟩
  , ⟨0x6001, 0x6001, 0x01, 0x01, .uint, 4, .ro, 0, 0, 0⟩
  , ⟨0x6001, 0x6001, 0x02, 0x02, .uint, 4, .ro, 0, 0, 0⟩
  , ⟨0x6001, 0x6001, 0x03, 0x03, .uint, 4, .ro, 0, 0, 0⟩
  , ⟨0x6001, 0x6001, 0x04, 0x04, .uint, 8, .ro, 0, 0, 0⟩
  , ⟨0x6001, 0x6001, 0x05, 0x05, .uint, 8, .ro, 0, 0, 0⟩
  , ⟨0x6001, 0x6001, 0x06, 0x06, .uint, 8, .ro, 0, 0, 0⟩
  , ⟨0x6001, 0x6001, 0x07, 0x07, .uint, 8, .ro, 0, 0, 0⟩
  , ⟨0x6001, 0x6001, 0x08, 0x08, .uint, 8, .ro, 0, 0, 0⟩
  , ⟨0x6002, 0x6002, 0x01, 0x01, .uint, 8, .ro, 0, 0, 0⟩
  , ⟨0x6002, 0x6002, 0x02, 0x02, .uint, 8, .ro, 0, 0, 0⟩
  , ⟨0x6002, 0x6002, 0x03, 0x03, .uint, 8, .ro, 0, 0, 0⟩
  , ⟨0x6002, 0x6002, 0x04, 0x04, .uint, 8, .ro, 0, 0, 0⟩
  , ⟨0x6002, 0x6002, 0x05, 0x05, .uint, 8, .ro, 0, 0, 0⟩
  ]

/-- Objects of R293 in range 0x5000 to 0x50FF. -/
def rowsR293_50 : List ObjRow :=
  [
    ⟨0x5000, 0x5000, 0x01, 0x01, .uint, 2, .ro, 8192, 0, 0⟩
  , ⟨0x5000, 0x5000, 0x02, 0x07, .uint, 2, .ro, 0, 0, 0⟩
  , ⟨0x5001, 0x5001, 0x01, 0x01, .uint, 2, .rwf, 8192, 1, 32768⟩
  , ⟨0x5001, 0x5001, 0x02, 0x02, .uint, 2, .rwf, 2048, 1, 2048⟩
  , ⟨0x5001, 0x5001, 0x03, 0x03, .uint, 2, .rwf, 512, 1, 32768⟩
  , ⟨0x5001, 0x5001, 0x04, 0x04, .uint, 4, .rwf, 4096, 0, 4294967295⟩
  , ⟨0x5001, 0x5001, 0x06, 0x06, .uint, 2, .ro, 0, 0, 0⟩
  , ⟨0x5002, 0x5002, 0x01, 0x01, .uint, 8, .ro, 0, 0, 0⟩
  , ⟨0x5002, 0x5002, 0x02, 0x02, .uint, 8, .ro, 0, 0, 0⟩
  , ⟨0x5002, 0x5002, 0x03, 0x03, .uint, 8, .ro, 0, 0, 0⟩
  , ⟨0x5002, 0x5002, 0x04, 0x04, .uint, 8, .ro, 0, 0, 0⟩
  , ⟨0x5002, 0x5002, 0x05, 0x05, .uint, 8, .ro, 0, 0, 0⟩
  , ⟨0x5002, 0x5002, 0x06, 0x06, .uint, 8, .ro, 0, 0, 0⟩
  , ⟨0x5002, 0x5002, 0x07, 0x07, .uint, 8, .ro, 0, 0, 0⟩
  , ⟨0x5002, 0x5002, 0x08, 0x08, .uint, 8, .ro, 0, 0, 0⟩
  , ⟨0x5002, 0x5002, 0x09, 0x09, .uint, 8, .ro, 0, 0, 0⟩
  , ⟨0x5002, 0x5002, 0x0A, 0x0A, .uint, 1, .ro, 0, 0, 0⟩
  , ⟨0x5010, 0x5010, 0x01, 0x01, .uint, 2, .rw, 0, 0, 8191⟩
  , ⟨0x5010, 0x5010, 0x02, 0x02, .octets, 64, .ro, 0, 0, 0⟩
  , ⟨0x5020, 0x5020, 0x01, 0x01, .uint, 2, .rw, 0, 0, 1023⟩
  , ⟨0x5021, 0x5021, 0x01, 0x01, .uint, 2, .rw, 0xffff, 0, 65535⟩
  , ⟨0x5021, 0x5021, 0x02, 0x02, .bool, 1, .rwf, 1, 0, 1⟩
  , ⟨0x5021, 0x5021, 0x03, 0x03, .uint, 2, .rw, 0, 0, 5120⟩
  , ⟨0x5021, 0x5021, 0x04, 0x04, .uint, 8, .rw, 0, 0, 18446744073709551615⟩
  , ⟨0x5021, 0x5021, 0x05, 0x05, .uint, 4, .rw, 0, 0, 167772160⟩
  , ⟨0x5021, 0x5021, 0x06, 0x06, .uint, 2, .ro, 0, 0, 0⟩
  ]

/-- Objects of R294 in range 0x5100 to 0x51FF. -/
def rowsR294_51 : List ObjRow :=
  [
    ⟨0x5100, 0x5100, 0x01, 0x01, .bool, 1, .rwf, 1, 0, 1⟩
  , ⟨0x5101, 0x51FF, 0x01, 0x01, .bool, 1, .rwf, 0, 0, 1⟩
  , ⟨0x5100, 0x5100, 0x02, 0x02, .uint, 4, .rwf, 0x8000, 0, 1048576⟩
  , ⟨0x5101, 0x51FF, 0x02, 0x02, .uint, 4, .rwf, 0, 0, 1048576⟩
  , ⟨0x5100, 0x5100, 0x03, 0x03, .uint, 4, .rwf, 0x10000, 0, 4194304⟩
  , ⟨0x5101, 0x51FF, 0x03, 0x03, .uint, 4, .rwf, 0, 0, 4194304⟩
  , ⟨0x5100, 0x51FF, 0x04, 0x04, .uint, 4, .ro, 0, 0, 0⟩
  , ⟨0x5100, 0x51FF, 0x05, 0x05, .uint, 1, .rwf, 1, 0, 2⟩
  , ⟨0x5100, 0x51FF, 0x06, 0x06, .uint, 1, .rwf, 3, 0, 3⟩
  , ⟨0x5100, 0x51FF, 0x07, 0x07, .uint, 2, .rwf, 8192, 0, 8192⟩
  , ⟨0x5100, 0x51FF, 0x08, 0x08, .uint, 2, .ro, 0, 0, 0⟩
  , ⟨0x5100, 0x51FF, 0x09, 0x09, .uint, 8, .ro, 0, 0, 0⟩
  , ⟨0x5100, 0x51FF, 0x0A, 0x0A, .uint, 8, .ro, 0, 0, 0⟩
  , ⟨0x5100, 0x51FF, 0x0B, 0x0B, .uint, 8, .ro, 0, 0, 0⟩
  , ⟨0x5100, 0x51FF, 0x0C, 0x0C, .uint, 8, .ro, 0, 0, 0⟩
  ]

/-- Objects of R295 in range 0x6000 to 0x60FF. -/
def rowsR295_60 : List ObjRow :=
  [
    ⟨0x6003, 0x6003, 0x01, 0x01, .uint, 4, .rwf, 0xf4240, 1, 4294967295⟩
  , ⟨0x6003, 0x6003, 0x02, 0x02, .uint, 4, .ro, 0x400000, 0, 0⟩
  , ⟨0x6003, 0x6003, 0x03, 0x03, .uint, 4, .ro, 0x400000, 0, 0⟩
  , ⟨0x6003, 0x6003, 0x04, 0x04, .uint, 8, .ro, 0, 0, 0⟩
  , ⟨0x6003, 0x6003, 0x05, 0x05, .uint, 8, .ro, 0, 0, 0⟩
  , ⟨0x6003, 0x6003, 0x06, 0x06, .uint, 8, .ro, 0, 0, 0⟩
  , ⟨0x6003, 0x6003, 0x07, 0x07, .uint, 8, .ro, 0, 0, 0⟩
  , ⟨0x6003, 0x6003, 0x08, 0x08, .uint, 8, .ro, 0, 0, 0⟩
  ]

/-- Objects of R345 in range 0x3000 to 0x30FF. -/
def rowsR345_30 : List ObjRow :=
  [
    ⟨0x3000, 0x3000, 0x01, 0x01, .uint, 1, .ro, 0, 0, 0⟩
  , ⟨0x3000, 0x3000, 0x02, 0x02, .uint, 1, .rw, 63, 0, 63⟩
  , ⟨0x3000, 0x3000, 0x03, 0x03, .uint, 4, .ro, 0, 0, 0⟩
  , ⟨0x3000, 0x3000, 0x04, 0x04, .uint, 1, .wo, 0, 1, 2⟩
  , ⟨0x3010, 0x3015, 0x01, 0x01, .uint, 1, .ro, 0, 0, 0⟩
  , ⟨0x3010, 0x3015, 0x02, 0x02, .uint, 1, .ro, 0, 0, 0⟩
  , ⟨0x3010, 0x3015, 0x03, 0x03, .uint, 1, .rw, 0, 0, 1⟩
  , ⟨0x3010, 0x3015, 0x04, 0x04, .uint, 4, .ro, 0xffffffff, 0, 0⟩
  , ⟨0x3010, 0x3015, 0x05, 0x05, .bool, 1, .ro, 0, 0, 0⟩
  , ⟨0x3010, 0x3015, 0x06, 0x06, .uint, 8, .ro, 0, 0, 0⟩
  , ⟨0x3010, 0x3015, 0x07, 0x07, .uint, 8, .ro, 0, 0, 0⟩
  , ⟨0x3010, 0x3015, 0x08, 0x08, .uint, 8, .ro, 0, 0, 0⟩
  , ⟨0x3010, 0x3015, 0x09, 0x09, .uint, 4, .ro, 0, 0, 0⟩
  , ⟨0x3010, 0x3015, 0x0A, 0x0A, .int, 4, .ro, 0, 0, 0⟩
  , ⟨0x3010, 0x3015, 0x0B, 0x0B, .uint, 8, .ro, 0, 0, 0⟩
  , ⟨0x3010, 0x3015, 0x0C, 0x0C, .uint, 8, .ro, 0, 0, 0⟩
  , ⟨0x3010, 0x3015, 0x0D, 0x0D, .uint, 1, .ro, 0, 0, 0⟩
  , ⟨0x3010, 0x3015, 0x0E, 0x0E, .uint, 8, .ro, 0, 0, 0⟩
  ]

/-- Objects of R346 in range 0x3100 to 0x31FF. -/
def rowsR346_31 : List ObjRow :=
  [
    ⟨0x3100, 0x3100, 0x01, 0x03, .uint, 1, .rw, 64, 1, 64⟩
  , ⟨0x3100, 0x3100, 0x04, 0x04, .uint, 4, .ro, 0, 0, 0⟩
  , ⟨0x3101, 0x3101, 0x01, 0x03, .uint, 1, .rw, 0, 0, 255⟩
  , ⟨0x3101, 0x3101, 0x04, 0x06, .uint, 1, .rw, 0, 0, 255⟩
  , ⟨0x3101, 0x3101, 0x07, 0x07, .uint, 8, .rw, 0, 0, 18446744073709551615⟩
  , ⟨0x3101, 0x3101, 0x08, 0x08, .uint, 4, .ro, 0, 0, 0⟩
  , ⟨0x3101, 0x3101, 0x09, 0x09, .uint, 1, .ro, 0, 0, 0⟩
  , ⟨0x3101, 0x3101, 0x0A, 0x0A, .uint, 4, .ro, 0xffffffff, 0, 0⟩
  , ⟨0x3101, 0x3101, 0x0B, 0x0B, .uint, 4, .ro, 0xffffffff, 0, 0⟩
  , ⟨0x3101, 0x3101, 0x0C, 0x0C, .octets, 8, .ro, 0, 0, 0⟩
  , ⟨0x3102, 0x3102, 0x01, 0x01, .uint, 2, .ro, 0, 0, 0⟩
  , ⟨0x3102, 0x3102, 0x02, 0x02, .uint, 2, .ro, 1, 0, 0⟩
  , ⟨0x3102, 0x3102, 0x03, 0x03, .uint, 2, .ro, 3, 0, 0⟩
  , ⟨0x3102, 0x3102, 0x04, 0x04, .uint, 2, .rwf, 16, 4, 1024⟩
  , ⟨0x3102, 0x3102, 0x05, 0x05, .uint, 4, .rwf, 0x40000, 1024, 4194304⟩
  , ⟨0x3103, 0x3103, 0x01, 0x01, .uint, 8, .ro, 0, 0, 0⟩
  , ⟨0x3103, 0x3103, 0x02, 0x02, .uint, 8, .ro, 0, 0, 0⟩
  , ⟨0x3103, 0x3103, 0x03, 0x03, .uint, 8, .ro, 0, 0, 0⟩
  , ⟨0x3103, 0x3103, 0x04, 0x04, .uint, 8, .ro, 0, 0, 0⟩
  , ⟨0x3103, 0x3103, 0x05, 0x05, .uint, 8, .ro, 0, 0, 0⟩
  , ⟨0x3103, 0x3103, 0x06, 0x06, .uint, 8, .ro, 0, 0, 0⟩
  , ⟨0x3103, 0x3103, 0x07, 0x07, .uint, 8, .ro, 0, 0, 0⟩
  , ⟨0x3103, 0x3103, 0x08, 0x08, .uint, 8, .ro, 0, 0, 0⟩
  , ⟨0x3103, 0x3103, 0x09, 0x09, .uint, 8, .ro, 0, 0, 0⟩
  , ⟨0x3103, 0x3103, 0x0A, 0x0A, .uint, 1, .w1c, 0, 0, 15⟩
  ]

/-- Objects of R370 in range 0x1100 to 0x11FF. -/
def rowsR370_11 : List ObjRow :=
  [
    ⟨0x1100, 0x1100, 0x01, 0x01, .octets, 6, .const, 0, 0, 0⟩
  , ⟨0x1100, 0x1100, 0x02, 0x02, .uint, 1, .ro, 0, 0, 0⟩
  , ⟨0x1100, 0x1100, 0x03, 0x03, .uint, 1, .ro, 0, 0, 0⟩
  , ⟨0x1100, 0x1100, 0x04, 0x04, .uint, 2, .rw, 0, 0, 4094⟩
  , ⟨0x1100, 0x1100, 0x05, 0x05, .uint, 1, .rw, 3, 0, 255⟩
  , ⟨0x1100, 0x1100, 0x06, 0x06, .uint, 8, .ro, 0, 0, 0⟩
  , ⟨0x1100, 0x1100, 0x07, 0x07, .uint, 8, .ro, 0, 0, 0⟩
  , ⟨0x1100, 0x1100, 0x08, 0x08, .uint, 8, .ro, 0, 0, 0⟩
  , ⟨0x1100, 0x1100, 0x09, 0x09, .uint, 8, .ro, 0, 0, 0⟩
  , ⟨0x1101, 0x1101, 0x01, 0x01, .octets, 16, .rw, 0, 0, 0⟩
  , ⟨0x1101, 0x1101, 0x02, 0x02, .uint, 1, .rw, 64, 1, 128⟩
  , ⟨0x1101, 0x1101, 0x03, 0x03, .octets, 16, .rw, 0, 0, 0⟩
  , ⟨0x1101, 0x1101, 0x04, 0x04, .octets, 16, .ro, 0, 0, 0⟩
  , ⟨0x1101, 0x1101, 0x05, 0x05, .uint, 1, .rw, 26, 0, 63⟩
  , ⟨0x1101, 0x1101, 0x06, 0x06, .uint, 1, .rw, 16, 0, 63⟩
  , ⟨0x1101, 0x1101, 0x07, 0x07, .uint, 1, .rw, 16, 0, 63⟩
  , ⟨0x1101, 0x1101, 0x08, 0x08, .uint, 1, .rw, 46, 0, 63⟩
  , ⟨0x1101, 0x1101, 0x09, 0x09, .uint, 1, .rw, 10, 0, 63⟩
  , ⟨0x1102, 0x1102, 0x01, 0x01, .octets, 16, .rw, 0, 0, 0⟩
  , ⟨0x1102, 0x1102, 0x02, 0x02, .uint, 2, .rw, 0xbeb5, 0, 65535⟩
  , ⟨0x1102, 0x1102, 0x03, 0x03, .bool, 1, .rw, 0, 0, 1⟩
  , ⟨0x1103, 0x1103, 0x01, 0x01, .uint, 1, .rwf, 1, 1, 64⟩
  , ⟨0x1104, 0x1104, 0x01, 0x01, .uint, 1, .rw, 0, 0, 255⟩
  , ⟨0x1104, 0x1104, 0x02, 0x02, .uint, 1, .ro, 0, 0, 0⟩
  , ⟨0x1104, 0x1104, 0x03, 0x03, .int, 8, .ro, 0, 0, 0⟩
  , ⟨0x1104, 0x1104, 0x04, 0x04, .octets, 8, .ro, 0, 0, 0⟩
  , ⟨0x1105, 0x1105, 0x01, 0x01, .uint, 8, .ro, 0, 0, 0⟩
  , ⟨0x1105, 0x1105, 0x02, 0x02, .uint, 8, .ro, 0, 0, 0⟩
  , ⟨0x1105, 0x1105, 0x03, 0x03, .uint, 8, .ro, 0, 0, 0⟩
  , ⟨0x1105, 0x1105, 0x04, 0x04, .uint, 1, .ro, 0, 0, 0⟩
  , ⟨0x1110, 0x1110, 0x01, 0x01, .uint, 1, .rw, 0, 0, 255⟩
  , ⟨0x1111, 0x1111, 0x01, 0x01, .uint, 2, .rw, 0xffff, 0, 65535⟩
  , ⟨0x1111, 0x1111, 0x02, 0x02, .uint, 2, .rw, 64, 64, 32768⟩
  , ⟨0x1111, 0x1111, 0x03, 0x03, .uint, 2, .rw, 64, 64, 32768⟩
  , ⟨0x1111, 0x1111, 0x04, 0x04, .uint, 4, .ro, 0, 0, 0⟩
  , ⟨0x1111, 0x1111, 0x05, 0x05, .uint, 4, .rw, 0, 0, 4294967295⟩
  , ⟨0x1111, 0x1111, 0x06, 0x06, .octets, 16, .rw, 0, 0, 0⟩
  , ⟨0x1111, 0x1111, 0x07, 0x07, .uint, 8, .rw, 0, 0, 18446744073709551615⟩
  , ⟨0x1111, 0x1111, 0x08, 0x08, .uint, 4, .rw, 0, 0, 4294967295⟩
  , ⟨0x1111, 0x1111, 0x09, 0x09, .bool, 1, .rw, 0, 0, 1⟩
  , ⟨0x1111, 0x1111, 0x0A, 0x0A, .uint, 8, .ro, 0, 0, 0⟩
  , ⟨0x1111, 0x1111, 0x0B, 0x0B, .uint, 4, .ro, 0, 0, 0⟩
  , ⟨0x1111, 0x1111, 0x0C, 0x0C, .uint, 4, .rw, 0x100000, 0, 67108864⟩
  , ⟨0x1111, 0x1111, 0x0D, 0x0D, .uint, 1, .ro, 0, 0, 0⟩
  , ⟨0x1111, 0x1111, 0x0E, 0x0E, .uint, 8, .ro, 0, 0, 0⟩
  , ⟨0x1111, 0x1111, 0x0F, 0x0F, .uint, 1, .ro, 64, 0, 0⟩
  , ⟨0x1111, 0x1111, 0x10, 0x10, .uint, 4, .rw, 0, 0, 4294967295⟩
  ]

/-- Objects of R382 in range 0x1000 to 0x10FF. -/
def rowsR382_10 : List ObjRow :=
  [
    ⟨0x1000, 0x1000, 0x01, 0x01, .str, 64, .const, 0, 0, 0⟩
  , ⟨0x1000, 0x1000, 0x02, 0x02, .str, 64, .const, 0, 0, 0⟩
  , ⟨0x1000, 0x1000, 0x03, 0x03, .octets, 16, .const, 0, 0, 0⟩
  , ⟨0x1000, 0x1000, 0x04, 0x04, .uint, 2, .const, 0, 0, 0⟩
  , ⟨0x1000, 0x1000, 0x05, 0x05, .uint, 4, .const, 0, 0, 0⟩
  , ⟨0x1000, 0x1000, 0x06, 0x06, .uint, 4, .ro, 0, 0, 0⟩
  , ⟨0x1000, 0x1000, 0x07, 0x07, .octets, 64, .ro, 0, 0, 0⟩
  , ⟨0x1000, 0x1000, 0x08, 0x08, .uint, 1, .ro, 3, 0, 0⟩
  , ⟨0x1000, 0x1000, 0x09, 0x09, .uint, 1, .ro, 0, 0, 0⟩
  , ⟨0x1000, 0x1000, 0x0A, 0x0A, .uint, 8, .ro, 0, 0, 0⟩
  , ⟨0x1000, 0x1000, 0x0B, 0x0B, .uint, 4, .ro, 0, 0, 0⟩
  ]

/-- Objects of R383 in range 0x1400 to 0x14FF. -/
def rowsR383_14 : List ObjRow :=
  [
    ⟨0x1400, 0x1400, 0x01, 0x01, .uint, 1, .ro, 0, 0, 0⟩
  , ⟨0x1400, 0x1400, 0x02, 0x02, .uint, 1, .ro, 0, 0, 0⟩
  , ⟨0x1400, 0x1400, 0x03, 0x03, .uint, 1, .rw, 255, 0, 255⟩
  , ⟨0x1400, 0x1400, 0x04, 0x04, .uint, 1, .rw, 0, 0, 3⟩
  , ⟨0x1400, 0x1400, 0x05, 0x05, .domain, 65536, .wo, 0, 0, 0⟩
  , ⟨0x1400, 0x1400, 0x06, 0x06, .uint, 1, .ro, 0, 0, 0⟩
  , ⟨0x1400, 0x1400, 0x07, 0x0A, .octets, 64, .ro, 0, 0, 0⟩
  , ⟨0x1400, 0x1400, 0x0B, 0x0B, .uint, 1, .wo, 0, 1, 2⟩
  , ⟨0x1400, 0x1400, 0x0C, 0x0C, .domain, 33554432, .wo, 0, 0, 0⟩
  , ⟨0x1400, 0x1400, 0x0D, 0x0D, .uint, 1, .ro, 0, 0, 0⟩
  ]

/-- Objects of R384 in range 0x1800 to 0x18FF. -/
def rowsR384_18 : List ObjRow :=
  [
    ⟨0x1800, 0x1800, 0x01, 0x01, .uint, 1, .ro, 0, 0, 0⟩
  , ⟨0x1800, 0x1800, 0x02, 0x02, .uint, 8, .ro, 0, 0, 0⟩
  , ⟨0x1800, 0x1800, 0x03, 0x03, .uint, 8, .ro, 0, 0, 0⟩
  , ⟨0x1800, 0x1800, 0x04, 0x04, .uint, 8, .ro, 0, 0, 0⟩
  , ⟨0x1810, 0x1817, 0x01, 0x01, .uint, 4, .rw, 0, 0, 4294967295⟩
  , ⟨0x1810, 0x1817, 0x02, 0x02, .bool, 1, .ro, 0, 0, 0⟩
  , ⟨0x1818, 0x181F, 0x01, 0x01, .uint, 4, .ro, 0, 0, 0⟩
  , ⟨0x1818, 0x181F, 0x02, 0x02, .uint, 1, .w1c, 0, 0, 1⟩
  ]

/-- Objects of R385 in range 0x2000 to 0x20FF. -/
def rowsR385_20 : List ObjRow :=
  [
    ⟨0x2000, 0x2000, 0x01, 0x01, .uint, 2, .ro, 0, 0, 0⟩
  , ⟨0x2000, 0x2000, 0x02, 0x02, .uint, 2, .rwf, 1100, 300, 1100⟩
  , ⟨0x2000, 0x2000, 0x03, 0x03, .uint, 2, .ro, 0, 0, 0⟩
  , ⟨0x2000, 0x2000, 0x04, 0x04, .uint, 2, .rwf, 1800, 600, 1800⟩
  , ⟨0x2000, 0x2000, 0x05, 0x05, .uint, 1, .ro, 0, 0, 0⟩
  , ⟨0x2000, 0x2000, 0x06, 0x06, .uint, 8, .ro, 0, 0, 0⟩
  , ⟨0x2000, 0x2000, 0x07, 0x07, .uint, 8, .ro, 0, 0, 0⟩
  , ⟨0x2000, 0x2000, 0x08, 0x08, .uint, 2, .ro, 0, 0, 0⟩
  , ⟨0x2000, 0x2000, 0x09, 0x09, .uint, 1, .ro, 0, 0, 0⟩
  , ⟨0x2000, 0x2000, 0x0A, 0x0A, .uint, 8, .ro, 0, 0, 0⟩
  , ⟨0x2001, 0x2001, 0x01, 0x10, .uint, 2, .ro, 0, 0, 0⟩
  , ⟨0x2002, 0x2002, 0x01, 0x10, .uint, 2, .ro, 0, 0, 0⟩
  , ⟨0x2003, 0x2003, 0x01, 0x64, .uint, 1, .ro, 0, 0, 0⟩
  ]

/-- Objects of R386 in range 0x2100 to 0x21FF. -/
def rowsR386_21 : List ObjRow :=
  [
    ⟨0x2100, 0x2100, 0x01, 0x40, .uint, 2, .ro, 0, 0, 0⟩
  , ⟨0x2101, 0x2101, 0x01, 0x3F, .uint, 1, .rwf, 0, 0, 62⟩
  , ⟨0x2101, 0x2101, 0x40, 0x40, .uint, 1, .const, 0, 0, 0⟩
  , ⟨0x2102, 0x2102, 0x01, 0x18, .int, 4, .ro, 0, 0, 0⟩
  , ⟨0x2102, 0x2102, 0x19, 0x1C, .int, 4, .ro, 0, 0, 0⟩
  , ⟨0x2103, 0x2103, 0x01, 0x01, .int, 4, .ro, 0, 0, 0⟩
  , ⟨0x2103, 0x2103, 0x02, 0x02, .int, 4, .const, 9500, 0, 0⟩
  , ⟨0x2103, 0x2103, 0x03, 0x03, .int, 4, .const, 0x27d8, 0, 0⟩
  , ⟨0x2103, 0x2103, 0x04, 0x04, .int, 4, .const, 0x2cec, 0, 0⟩
  , ⟨0x2103, 0x2103, 0x05, 0x05, .uint, 1, .w1c, 0, 0, 15⟩
  , ⟨0x2103, 0x2103, 0x06, 0x06, .uint, 1, .ro, 0, 0, 0⟩
  , ⟨0x2103, 0x2103, 0x07, 0x07, .uint, 8, .ro, 0, 0, 0⟩
  , ⟨0x2103, 0x2103, 0x08, 0x08, .uint, 8, .ro, 0, 0, 0⟩
  , ⟨0x2103, 0x2103, 0x09, 0x09, .uint, 8, .ro, 0, 0, 0⟩
  ]

/-- Objects of R387 in range 0x2200 to 0x22FF. -/
def rowsR387_22 : List ObjRow :=
  [
    ⟨0x2200, 0x2200, 0x01, 0x01, .uint, 1, .rwf, 0, 0, 1⟩
  , ⟨0x2200, 0x2200, 0x02, 0x02, .uint, 2, .rwf, 128, 8, 1024⟩
  , ⟨0x2200, 0x2200, 0x03, 0x03, .uint, 1, .ro, 255, 0, 0⟩
  , ⟨0x2200, 0x2200, 0x04, 0x04, .uint, 8, .ro, 0, 0, 0⟩
  , ⟨0x2200, 0x2200, 0x05, 0x05, .uint, 8, .ro, 0, 0, 0⟩
  , ⟨0x2201, 0x2201, 0x01, 0x08, .uint, 8, .ro, 0, 0, 0⟩
  ]

/-- Objects of R388 in range 0x7000 to 0x70FF. -/
def rowsR388_70 : List ObjRow :=
  [
    ⟨0x7000, 0x7000, 0x01, 0x01, .uint, 4, .ro, 0, 0, 0⟩
  , ⟨0x7000, 0x7000, 0x02, 0x02, .uint, 4, .ro, 0, 0, 0⟩
  , ⟨0x7000, 0x7000, 0x03, 0x03, .uint, 4, .rw, 0, 0, 4294967295⟩
  , ⟨0x7000, 0x7000, 0x04, 0x04, .domain, 16384, .ro, 0, 0, 0⟩
  , ⟨0x7000, 0x7000, 0x05, 0x05, .uint, 1, .wo, 0, 1, 1⟩
  , ⟨0x7001, 0x7001, 0x01, 0x01, .uint, 8, .ro, 0, 0, 0⟩
  , ⟨0x7001, 0x7001, 0x02, 0x02, .uint, 8, .ro, 0, 0, 0⟩
  , ⟨0x7001, 0x7001, 0x03, 0x03, .uint, 8, .ro, 0, 0, 0⟩
  , ⟨0x7001, 0x7001, 0x04, 0x04, .uint, 8, .ro, 0, 0, 0⟩
  , ⟨0x7001, 0x7001, 0x05, 0x05, .uint, 8, .ro, 0, 0, 0⟩
  , ⟨0x7001, 0x7001, 0x06, 0x06, .uint, 4, .ro, 0, 0, 0⟩
  , ⟨0x7001, 0x7001, 0x07, 0x07, .uint, 1, .ro, 0, 0, 0⟩
  , ⟨0x7001, 0x7001, 0x08, 0x08, .uint, 8, .ro, 0, 0, 0⟩
  , ⟨0x7002, 0x7002, 0x01, 0x01, .uint, 1, .rwf, 4, 1, 255⟩
  , ⟨0x7002, 0x7002, 0x02, 0x02, .uint, 4, .rwf, 0x9502f9, 1024, 4294967295⟩
  , ⟨0x7002, 0x7002, 0x03, 0x03, .uint, 1, .rwf, 3, 1, 255⟩
  , ⟨0x7002, 0x7002, 0x04, 0x04, .uint, 8, .rwf, 0x13a52453c0, 0, 18446744073709551615⟩
  , ⟨0x7002, 0x7002, 0x05, 0x05, .uint, 1, .wo, 0, 1, 1⟩
  , ⟨0x7003, 0x7003, 0x01, 0x01, .bool, 1, .rwf, 0, 0, 1⟩
  , ⟨0x7003, 0x7003, 0x02, 0x02, .uint, 2, .wo, 0, 0, 1023⟩
  ]

/-- Objects of R389 in range 0x7800 to 0x78FF. -/
def rowsR389_78 : List ObjRow :=
  [
    ⟨0x7800, 0x7800, 0x01, 0x01, .domain, 16384, .ro, 0, 0, 0⟩
  , ⟨0x7800, 0x7800, 0x02, 0x02, .uint, 1, .ro, 0, 0, 0⟩
  , ⟨0x7800, 0x7800, 0x03, 0x03, .octets, 64, .ro, 0, 0, 0⟩
  , ⟨0x7800, 0x7800, 0x04, 0x04, .uint, 1, .ro, 0, 0, 0⟩
  , ⟨0x7800, 0x7800, 0x05, 0x05, .uint, 8, .ro, 0, 0, 0⟩
  , ⟨0x7800, 0x7800, 0x06, 0x06, .uint, 8, .ro, 0, 0, 0⟩
  , ⟨0x7800, 0x7800, 0x07, 0x07, .uint, 8, .ro, 0, 0, 0⟩
  , ⟨0x7800, 0x7800, 0x08, 0x08, .uint, 1, .wo, 0, 0, 63⟩
  , ⟨0x7801, 0x7801, 0x01, 0x10, .uint, 8, .ro, 0, 0, 0⟩
  ]

/-- Objects of R390 in range 0x7F00 to 0x7FFF. -/
def rowsR390_7F : List ObjRow :=
  [
    ⟨0x7F00, 0x7F00, 0x01, 0x01, .uint, 1, .rw, 0, 0, 4⟩
  , ⟨0x7F00, 0x7F00, 0x02, 0x02, .uint, 4, .rw, 0xee6b3, 64, 9765625⟩
  , ⟨0x7F00, 0x7F00, 0x03, 0x03, .uint, 8, .ro, 0, 0, 0⟩
  , ⟨0x7F10, 0x7F15, 0x01, 0x01, .uint, 1, .rw, 0, 0, 4⟩
  , ⟨0x7F10, 0x7F15, 0x02, 0x02, .uint, 8, .ro, 0, 0, 0⟩
  , ⟨0x7F10, 0x7F15, 0x03, 0x03, .uint, 8, .ro, 0, 0, 0⟩
  , ⟨0x7F20, 0x7F27, 0x01, 0x01, .uint, 2, .rw, 0, 0, 65535⟩
  , ⟨0x7F20, 0x7F27, 0x02, 0x02, .uint, 8, .ro, 0, 0, 0⟩
  , ⟨0x7F30, 0x7F33, 0x01, 0x01, .uint, 1, .rw, 0, 0, 2⟩
  , ⟨0x7F30, 0x7F33, 0x02, 0x02, .uint, 8, .ro, 0, 0, 0⟩
  , ⟨0x7F34, 0x7F3B, 0x01, 0x01, .uint, 1, .rw, 0, 0, 2⟩
  , ⟨0x7F34, 0x7F3B, 0x02, 0x02, .uint, 8, .ro, 0, 0, 0⟩
  , ⟨0x7F40, 0x7F40, 0x01, 0x01, .uint, 1, .rw, 0, 0, 1⟩
  , ⟨0x7F40, 0x7F40, 0x02, 0x02, .uint, 1, .rw, 0, 0, 7⟩
  , ⟨0x7F40, 0x7F40, 0x03, 0x03, .uint, 1, .wo, 0, 1, 1⟩
  , ⟨0x7F40, 0x7F40, 0x04, 0x04, .uint, 1, .ro, 0, 0, 0⟩
  , ⟨0x7F40, 0x7F40, 0x05, 0x05, .uint, 4, .ro, 0, 0, 0⟩
  ]

/-- Every row of the dictionary (R373). -/
def objRows : List ObjRow :=
  rowsR55_12 ++
  rowsR92_41 ++
  rowsR120_41 ++
  rowsR121_42 ++
  rowsR122_22 ++
  rowsR144_41 ++
  rowsR166_41 ++
  rowsR167_42 ++
  rowsR199_40 ++
  rowsR228_32 ++
  rowsR266_60 ++
  rowsR293_50 ++
  rowsR294_51 ++
  rowsR295_60 ++
  rowsR345_30 ++
  rowsR346_31 ++
  rowsR370_11 ++
  rowsR382_10 ++
  rowsR383_14 ++
  rowsR384_18 ++
  rowsR385_20 ++
  rowsR386_21 ++
  rowsR387_22 ++
  rowsR388_70 ++
  rowsR389_78 ++
  rowsR390_7F

/-- The row that holds an object, or none where it is absent (R371, R373). -/
def objRow (index sub : Nat) : Option ObjRow :=
  objRows.find? fun r => decide (r.lo ≤ index ∧ index ≤ r.hi ∧ r.subLo ≤ sub ∧ sub ≤ r.subHi)

/-- The highest subindex present in an index; 0 where the index holds no object (R371). -/
def highestSub (index : Nat) : Nat :=
  objRows.foldl (fun m r => if r.lo ≤ index ∧ index ≤ r.hi then max m r.subHi else m) 0

/-- The key of an object in the stores: the instance selects a ring for index 0x1111 and a context for 0x5021 and is 0
elsewhere. -/
def objKey (index sub inst : Nat) : Nat := inst * 0x1000000 + index * 0x100 + sub

/-- The tabulated default of the object with a key. Sequence entry e holds channel e (R410). -/
def objDefault (key : Nat) : Nat :=
  let index := key / 0x100 % 0x10000
  let sub := key % 0x100
  if index = 0x2101 then sub - 1
  else match objRow index sub with
    | some r => r.dflt
    | none => 0

end Sys2Proof.Machine
end

