-- ==== Sys2Proof/Machine/Ops.lean ====
section
/-! DEFINITION. The named operations that every command's meaning is written over: sparse stores in canonical form, memory,
dictionary objects and counters, beats and frames, positions and routes, what leaves the device, fault records. -/

namespace Sys2Proof.Machine
open Sys2Proof

/-- The answer of a command. -/
abbrev Res := Host.Outcome State Fault Refusal

/-- A command's answer: its effect on everything but the queue of waiting commands. -/
def done (s t : State) : Res := .next { t with pending := s.pending }

/-- The answer of a command that stores nothing in device memory, ring memory, flash or the test port. -/
def doneQuiet (s t : State) : Res :=
  .next { t with pending := s.pending, mem := s.mem, ringMem := s.ringMem, flash := s.flash, tap := s.tap }

/-! ## Sparse stores: keys strictly rising, no entry equal to the default -/

/-- What a store holds under a key. -/
def sget {α : Type} (d : α) (k : Nat) : List (Nat × α) → α
  | [] => d
  | (j, v) :: l => if j = k then v else sget d k l

/-- Insertion of a value that is not the default. -/
def sput {α : Type} (k : Nat) (v : α) : List (Nat × α) → List (Nat × α)
  | [] => [(k, v)]
  | (j, w) :: l => if k < j then (k, v) :: (j, w) :: l else if j = k then (k, v) :: l else (j, w) :: sput k v l

/-- Removal of a key. -/
def sdel {α : Type} (k : Nat) : List (Nat × α) → List (Nat × α)
  | [] => []
  | (j, w) :: l => if j = k then sdel k l else (j, w) :: sdel k l

/-- A write: the default removes the entry. -/
def sset {α : Type} [DecidableEq α] (d : α) (k : Nat) (v : α) (l : List (Nat × α)) : List (Nat × α) :=
  if v = d then sdel k l else sput k v l

/-- Keys strictly rise from `lo` and no entry is the default. -/
def swfFrom {α : Type} [DecidableEq α] (d : α) : Nat → List (Nat × α) → Bool
  | _, [] => true
  | lo, (j, v) :: l => decide (lo ≤ j) && decide (v ≠ d) && swfFrom d (j + 1) l

/-- The canonical form of a store. -/
def swf {α : Type} [DecidableEq α] (d : α) (l : List (Nat × α)) : Bool := swfFrom d 0 l

/-! ## Memory: bytes by address; an unlisted byte reads 0 -/

/-- What an unlisted byte reads as: start-up writes the memories with zero (R503). -/
def memDefault : Byte := 0#8

/-- The canonical form of a memory. -/
def Memory.wf (m : List Host.Cell) : Bool := swf memDefault m

/-- One byte. -/
def memRead (m : List Host.Cell) (a : Nat) : Byte := sget memDefault a m

/-- One byte stored. -/
def memWrite (a : Nat) (b : Byte) (m : List Host.Cell) : List Host.Cell := sset memDefault a b m

/-- n bytes from an address upward. -/
def memReadN (m : List Host.Cell) (a : Nat) : Nat → Bytes
  | 0 => []
  | n + 1 => memRead m a :: memReadN m (a + 1) n

/-- Bytes stored from an address upward. -/
def memWriteN (a : Nat) : Bytes → List Host.Cell → List Host.Cell
  | [], m => m
  | b :: bs, m => memWriteN (a + 1) bs (memWrite a b m)

/-- A range set to zero: its listed bytes go. -/
def memZero (a n : Nat) (m : List Host.Cell) : List Host.Cell :=
  m.filter fun c => decide (c.1 < a) || decide (a + n ≤ c.1)

/-- A number from bytes, least significant first (R5). -/
def leNat : Bytes → Nat
  | [] => 0
  | b :: bs => b.toNat + 256 * leNat bs

/-- A number from bytes, most significant first (R5). -/
def beNat (bs : Bytes) : Nat := bs.foldl (fun n b => n * 256 + b.toNat) 0

/-- n bytes of a number, least significant first. -/
def leBytes : Nat → Nat → Bytes
  | 0, _ => []
  | n + 1, v => BitVec.ofNat 8 v :: leBytes n (v / 256)

/-- n bytes of a number, most significant first. -/
def beBytes (n v : Nat) : Bytes := (leBytes n v).reverse

/-- The field of w bytes at byte offset o of a structure, least significant byte first. -/
def leAt (b : Bytes) (o w : Nat) : Nat := leNat ((b.drop o).take w)

/-- The field of w bytes at byte offset o of a structure, most significant byte first. -/
def beAt (b : Bytes) (o w : Nat) : Nat := beNat ((b.drop o).take w)

/-- Bits hi..lo of a number. -/
def bits (v hi lo : Nat) : Nat := v / 2 ^ lo % 2 ^ (hi + 1 - lo)

/-- Bit i of a number. -/
def bitOf (v i : Nat) : Bool := v.testBit i

/-- A number with bit i set. -/
def setBit (v i : Nat) : Nat := v ||| 2 ^ i

/-- A number with bit i cleared. -/
def clearBit (v i : Nat) : Nat := if v.testBit i then v - 2 ^ i else v

/-- A number with bit i as given. -/
def putBit (v i : Nat) (b : Bool) : Nat := if b then setBit v i else clearBit v i

/-- 1 for TRUE. -/
def b2n (b : Bool) : Nat := if b then 1 else 0

/-- ⌈a / b⌉. -/
def ceilDiv (a b : Nat) : Nat := (a + b - 1) / b

/-- Two's complement of an integer in w bits, as a number. -/
def intBits (w : Nat) (v : Int) : Nat := (v % (2 ^ w : Int)).toNat

/-- The integer that w bits of two's complement hold. -/
def bitsInt (w : Nat) (v : Nat) : Int := if v < 2 ^ (w - 1) then v else (v : Int) - 2 ^ w

/-! ## Dictionary objects -/

/-- The value of a scalar object in the store. -/
def State.rdI (s : State) (index sub inst : Nat) : Nat :=
  sget (objDefault (objKey index sub inst)) (objKey index sub inst) s.obj

/-- A scalar object stored. -/
def State.wrI (s : State) (index sub inst v : Nat) : State :=
  { s with obj := sset (objDefault (objKey index sub inst)) (objKey index sub inst) v s.obj }

/-- The value of a scalar object without instances. -/
def State.rd (s : State) (index sub : Nat) : Nat := s.rdI index sub 0

/-- A scalar object without instances stored. -/
def State.wr (s : State) (index sub v : Nat) : State := s.wrI index sub 0 v

/-- The modulus of an object's length. -/
def objModulus (index sub : Nat) : Nat :=
  match objRow index sub with
  | some r => 256 ^ r.len
  | none => 2 ^ 64

/-- A counter advanced by n, wrapping at its length (R370, R345, R346). -/
def State.bump (s : State) (index sub n : Nat) : State :=
  s.wr index sub ((s.rd index sub + n) % objModulus index sub)

/-- A counter of an instance advanced. -/
def State.bumpI (s : State) (index sub inst n : Nat) : State :=
  s.wrI index sub inst ((s.rdI index sub inst + n) % objModulus index sub)

/-- A bit of a W1C or status object set (R9). -/
def State.flag (s : State) (index sub bit : Nat) : State := s.wr index sub (setBit (s.rd index sub) bit)

/-- A signed object. -/
def State.rdInt (s : State) (index sub w : Nat) : Int := bitsInt w (s.rd index sub)

/-- An OCTETS, STR or DOMAIN object in the store. -/
def State.oct? (s : State) (index sub inst : Nat) (dflt : Bytes) : Bytes :=
  sget dflt (objKey index sub inst) s.oct

/-- An OCTETS object stored; an empty one is not listed. -/
def State.putOct (s : State) (index sub inst : Nat) (v : Bytes) : State :=
  { s with oct := sset [] (objKey index sub inst) v s.oct }

/-- n zero bytes. -/
def zeros (n : Nat) : Bytes := List.replicate n 0#8

/-! ## Beats and frames -/

/-- The beat, HALYARD[63:10] (R32). -/
def State.beat (s : State) : Nat := s.count.toNat / 1024

/-- The first tick of a beat. -/
def State.firstTick (s : State) : Bool := s.count.toNat % 1024 = 0

/-- The frame length in effect, in beats (R33, R55). -/
def State.frameLen (s : State) : Nat := s.rd 0x1201 0x01

/-- The beat is a frame boundary (R4). -/
def State.atBoundary (s : State) : Bool := s.beat % s.frameLen = 0

/-- The frame boundary at or before the beat. -/
def State.frameStart (s : State) : Nat := s.beat / s.frameLen * s.frameLen

/-- The boundary after a beat. -/
def State.nextBoundary (s : State) (b : Nat) : Nat := (b / s.frameLen + 1) * s.frameLen

/-- Scheduled events run in LOCKED and HOLDOVER only (R42). -/
def State.synced (s : State) : Bool := s.rd 0x1200 0x03 = 2 || s.rd 0x1200 0x03 = 3

/-- An event whose due beat had passed runs all the same and is counted (R50). -/
def State.late (s : State) (due : Nat) : State := if due < s.beat then s.bump 0x1201 0x05 1 else s

/-- A free value drawn: its number, and the state that has drawn it. -/
def State.draw (s : State) : Nat × State := (s.draws, { s with draws := s.draws + 1 })

/-! ## What leaves the device -/

/-- Something sent, after everything sent before. -/
def State.send (s : State) (o : Out) : State := { s with out := s.out ++ [o] }

/-- Things sent in order. -/
def State.sendAll (s : State) (os : List Out) : State := { s with out := s.out ++ os }

/-! ## Positions, rings, regions and routes (R51, R296, R322 to R327) -/

/-- A position from its coordinates: Z [17:12], Y [11:6], X [5:0]. -/
def posOf (x y z : Nat) : Nat := z * 4096 + y * 64 + x

/-- The coordinate of a position on an axis, 0 X, 1 Y, 2 Z. -/
def coord (p axis : Nat) : Nat := p / 64 ^ axis % 64

/-- The device's own position (R322). -/
def State.pos (s : State) : Nat := posOf s.power.posX s.power.posY s.power.posZ

/-- The stagger slot of a position (R51). -/
def slotOf (p : Nat) : Nat := (coord p 0 + 5 * coord p 1 + 25 * coord p 2) % 64

/-- The device's own stagger slot. -/
def State.slot (s : State) : Nat := slotOf s.pos

/-- The ring length of an axis in effect. -/
def State.ringLen (s : State) (axis : Nat) : Nat := s.fab.rings.getD axis 64

/-- The offset of a position from the region's corner on an axis, modulo the ring length (R323). -/
def State.offset (s : State) (p axis : Nat) : Nat :=
  let r := s.ringLen axis
  (coord p axis + r - s.fab.corner.getD axis 0 % r) % r

/-- The region's extent on an axis. -/
def State.extent (s : State) (axis : Nat) : Nat := s.fab.extent.getD axis 0

/-- A position lies in the region box (R323). -/
def State.inBox (s : State) (p : Nat) : Bool :=
  [0, 1, 2].all fun a => decide (s.offset p a < s.extent a) && decide (coord p a < s.ringLen a)

/-- The device has a region. -/
def State.hasRegion (s : State) : Bool := s.rd 0x3101 0x09 = 1

/-- The position of a region-relative index (R169): X runs fastest. -/
def State.memberPos (s : State) (i : Nat) : Nat :=
  let ex := s.extent 0
  let ey := s.extent 1
  let at_ (axis o : Nat) := (s.fab.corner.getD axis 0 + o) % s.ringLen axis
  posOf (at_ 0 (i % ex)) (at_ 1 (i / ex % ey)) (at_ 2 (i / (ex * ey)))

/-- The region-relative index of a position (R169). -/
def State.relIndex (s : State) (p : Nat) : Nat :=
  s.offset p 0 + s.extent 0 * (s.offset p 1 + s.extent 1 * s.offset p 2)

/-- Members of the region in effect. -/
def State.memberCount (s : State) : Nat := s.extent 0 * s.extent 1 * s.extent 2

/-- The members' positions in the order of their index. -/
def State.members (s : State) : List Nat := (List.range s.memberCount).map s.memberPos

/-- The head's position (R326). -/
def State.headPos (s : State) : Nat := s.rd 0x3101 0x0A

/-- The tail's position (R326). -/
def State.tailPos (s : State) : Nat := s.rd 0x3101 0x0B

/-- This device is the head. -/
def State.isHead (s : State) : Bool := s.hasRegion && s.headPos = s.pos

/-- This device is the tail. -/
def State.isTail (s : State) : Bool := s.hasRegion && s.tailPos = s.pos

/-- The position one step from another on an axis in a direction, over a bypassed position to the next that is not. -/
def State.stepPos (s : State) (axis : Nat) (plus : Bool) : Nat → Nat → Nat
  | 0, p => p
  | fuel + 1, p =>
    let r := s.ringLen axis
    let c := coord p axis
    let c' := if plus then (c + 1) % r else (c + r - 1) % r
    let q := p - c * 64 ^ axis + c' * 64 ^ axis
    if s.fab.bypassed.contains q then s.stepPos axis plus fuel q else q

/-- Steps over positions that are not bypassed from one coordinate to another on an axis in a direction (R327, R343). -/
def State.axisHops (s : State) (axis : Nat) (plus : Bool) (dst : Nat) : Nat → Nat → Nat
  | 0, _ => 0
  | fuel + 1, p =>
    if coord p axis = coord dst axis then 0
    else 1 + s.axisHops axis plus dst fuel (s.stepPos axis plus 64 p)

/-- The axis is full-ring for region traffic, or for a packet of machine scope (R323, R329). -/
def State.fullRing (s : State) (machine : Bool) (axis : Nat) : Bool :=
  machine || s.extent axis = s.ringLen axis

/-- The direction of a route on an axis (R327): inside the box, or the shorter way round, equal lengths in +. -/
def State.routePlus (s : State) (machine : Bool) (axis src dst : Nat) : Bool :=
  if s.fullRing machine axis then
    decide (s.axisHops axis true dst 64 src ≤ s.axisHops axis false dst 64 src)
  else decide (s.offset src axis ≤ s.offset dst axis)

/-- The positions of a route on one axis, the start not included. -/
def State.axisRoute (s : State) (axis : Nat) (plus : Bool) (dst : Nat) : Nat → Nat → List Nat
  | 0, _ => []
  | fuel + 1, p =>
    if coord p axis = coord dst axis then []
    else
      let q := s.stepPos axis plus 64 p
      q :: s.axisRoute axis plus dst fuel q

/-- The positions that a packet visits from src to dst, src not included: X first, then Y, then Z (R327). -/
def State.route (s : State) (machine : Bool) (src dst : Nat) : List Nat :=
  let go (acc : Nat × List Nat) (axis : Nat) : Nat × List Nat :=
    let r := s.axisRoute axis (s.routePlus machine axis acc.1 dst) dst 64 acc.1
    (r.getLastD acc.1, acc.2 ++ r)
  ([0, 1, 2].foldl go (src, [])).2

/-- The link number on which a packet leaves toward an adjacent route position (R296). -/
def State.linkToward (s : State) (machine : Bool) (dst : Nat) : Option Nat :=
  let p := s.pos
  match [0, 1, 2].find? fun a => coord p a ≠ coord dst a with
  | some a => some (2 * a + (if s.routePlus machine a p dst then 0 else 1))
  | none => none

/-- The tree parent of a member for multicasts of a sender: the position before it on the sender's route (R331). -/
def State.treeParent (s : State) (sender p : Nat) : Nat :=
  let r := sender :: s.route false sender p
  r.getD (r.length - 2) sender

/-- The tree children of this device for a region multicast of a sender: members whose parent on the tree it is. -/
def State.treeChildren (s : State) (sender : Nat) (targets : List Nat) : List Nat :=
  let nodes := targets.filter (fun t => (s.route false sender t).contains s.pos || sender = s.pos)
  let next := nodes.filterMap fun t =>
    let r := sender :: s.route false sender t
    r[(r.findIdx (· = s.pos)) + 1]?
  next.eraseDups

/-- State of a link (R345). -/
def State.linkState (s : State) (k : Nat) : Nat := s.rd (0x3010 + k) 0x01

/-- A link is UP. -/
def State.linkUp (s : State) (k : Nat) : Bool := s.linkState k = 2

/-- A link record. -/
def State.link (s : State) (k : Nat) : Link := s.links.getD k Link.down

/-- A link record changed. -/
def State.setLink (s : State) (k : Nat) (f : Link → Link) : State := { s with links := s.links.modify k f }

/-! ## Records kept under a key -/

/-- A request entry. -/
def State.entry (s : State) (q : Nat) : Entry := sget Entry.free q s.table

/-- A request entry stored. -/
def State.putEntry (s : State) (q : Nat) (e : Entry) : State := { s with table := sset Entry.free q e s.table }

/-- A request entry changed. -/
def State.modEntry (s : State) (q : Nat) (f : Entry → Entry) : State := s.putEntry q (f (s.entry q))

/-- A ring pair. -/
def State.ring (s : State) (r : Nat) : Ring := sget Ring.idle r s.rings

/-- A ring pair changed. -/
def State.modRing (s : State) (r : Nat) (f : Ring → Ring) : State :=
  { s with rings := sset Ring.idle r (f (s.ring r)) s.rings }

/-- A window slot. -/
def State.win (s : State) (w : Nat) : Win := sget Win.free w s.wins

/-- A window slot changed. -/
def State.modWin (s : State) (w : Nat) (f : Win → Win) : State :=
  { s with wins := sset Win.free w (f (s.win w)) s.wins }

/-- A DMA engine. -/
def State.engine (s : State) (n : Nat) : Dma := sget Dma.idle n s.dma

/-- A DMA engine changed. -/
def State.modEngine (s : State) (n : Nat) (f : Dma → Dma) : State :=
  { s with dma := sset Dma.idle n (f (s.engine n)) s.dma }

/-- A physical array; 4,224 on each of 8 dies, numbered from 0 over the device. -/
def State.arr (s : State) (a : Nat) : Arr := sget Arr.blank a s.arrays

/-- An array changed. -/
def State.modArr (s : State) (a : Nat) (f : Arr → Arr) : State :=
  { s with arrays := sset Arr.blank a (f (s.arr a)) s.arrays }

/-- The die of an array. -/
def dieOf (a : Nat) : Nat := a / 4224

/-- A die. -/
def State.die (s : State) (d : Nat) : Die := s.dies.getD d Die.atRelease

/-- A die changed. -/
def State.modDie (s : State) (d : Nat) (f : Die → Die) : State := { s with dies := s.dies.modify d f }

/-- An object of a layer slot, range 0x4100 to 0x41FF. -/
def State.rdSlot (s : State) (slot sub : Nat) : Nat := s.rd (0x4100 + slot) sub

/-- A counter of a layer slot advanced. -/
def State.bumpSlot (s : State) (slot sub n : Nat) : State := s.bump (0x4100 + slot) sub n

/-- Insertion into a sorted list, after elements that are not greater. -/
def insertBy {α : Type} (le : α → α → Bool) (x : α) : List α → List α
  | [] => [x]
  | y :: l => if le x y then x :: y :: l else y :: insertBy le x l

/-- A stable sort. -/
def sortBy {α : Type} (le : α → α → Bool) (l : List α) : List α := l.foldr (insertBy le) []

/-- Steps over a list of effects. -/
def State.forEach {α : Type} (s : State) (l : List α) (f : State → α → State) : State := l.foldl f s

/-- The beat of a tick count. -/
def beatOfTick (t : Nat) : Nat := t / 1024

/-- The load state (R186). -/
def State.loadState (s : State) : Nat := s.rd 0x4000 0x11

/-- A load is in progress. -/
def State.loading (s : State) : Bool := s.loadState = 1 || s.loadState = 2 || s.loadState = 3

/-- Every request entry is FREE. -/
def State.allFree (s : State) : Bool := s.table.all fun e => e.2.state = 0

/-- The image in service (R188). -/
def State.image (s : State) : Image := s.img.getD default

end Sys2Proof.Machine
end

