-- ==== Sys2Proof/Machine/Dict.lean ====
section
/-! DEFINITION. Serving the Dictionary Protocol: presence, roles, rights and the order of judgement (R371 to R381), the
responder's queue (R364), responses, and storing an accepted write (R7 to R9). Every command that is a dictionary write
goes through `dictWrite` with the acceptance rule and the effect of its object. -/

namespace Sys2Proof.Machine
open Sys2Proof

/-- The role of an access (R10). -/
inductive Role where
  | operator
  | tenant (burgee : Nat)
  | observer
  deriving DecidableEq, Repr

/-- An accepted write as its object's rules see it: session, role, instance, the value of a numeric object, the bytes. -/
structure WriteCtx where
  session : Option Nat
  role : Role
  inst : Nat
  value : Nat
  data : Bytes
  deriving DecidableEq, Repr

/-- A session by its number. -/
def State.session? (s : State) (id : Nat) : Option Session := s.sec.sessions.find? fun x => x.id = id

/-- A session changed. -/
def State.modSession (s : State) (id : Nat) (f : Session → Session) : State :=
  { s with sec := { s.sec with sessions := s.sec.sessions.map fun x => if x.id = id then f x else x } }

/-- The role of an open session (R367, R490). -/
def sessionRole (x : Session) : Role :=
  if x.role = 0 then .operator else if x.role = 1 then .tenant x.burgee else .observer

/-- The role that a request acts in; none where its session is unknown or not open (R367, R378). -/
def roleOf (s : State) (r : DictReq) : Option Role :=
  match r.session with
  | none => some .observer
  | some i =>
    match s.session? i with
    | some x => if x.opened then some (sessionRole x) else none
    | none => none

/-- The instance that a selector object names for the session (R293, R370, R380). -/
def instOf (s : State) (session : Option Nat) (index sub : Nat) : Nat :=
  match session.bind s.session? with
  | none => 0
  | some x =>
    if index = 0x1111 then x.selRing
    else if index = 0x5021 then x.selCtx
    else if index = 0x5010 && sub = 2 then x.selEntry
    else 0

/-- The owning burgee of a context (R273, R293). -/
def State.burgeeOf (s : State) (ctx : Nat) : Nat := s.rdI 0x5021 0x01 ctx

/-- An object lies in the scope of a tenant's burgee (R380). -/
def inScope (s : State) (b index sub inst : Nat) : Bool :=
  if 0x5100 ≤ index && index ≤ 0x51FF then index = 0x5100 + b
  else if index = 0x5021 then s.burgeeOf inst = b
  else if index = 0x5010 && sub = 2 then (s.entry inst).state ≠ 0 && s.burgeeOf (s.entry inst).context = b
  else if index = 0x1111 then s.rdI 0x1111 0x01 inst = b
  else if 0x3280 ≤ index && index ≤ 0x32FF then
    (s.win (index - 0x3280)).state ≠ 0 && s.burgeeOf (s.win (index - 0x3280)).ctx = b
  else true

/-- The read and write rights of a role on an object (R381). `value` is what a write carries, which names the context of
object 0x7003:02. -/
def rights (s : State) (role : Role) (index sub inst value : Nat) : Bool × Bool :=
  let o := role = .operator
  let v := role = .observer
  let tAny := match role with | .tenant _ => true | _ => false
  let t := match role with | .tenant b => inScope s b index sub inst | _ => false
  let ov : Bool × Bool := (o || v, o)
  if index ≤ 0x10FF then (o || v, false)
  else if index = 0x1100 then if sub = 4 || sub = 5 then (o, o) else ov
  else if index = 0x1101 || index = 0x1102 then (o, o)
  else if index = 0x1110 then (o || tAny, o || tAny)
  else if index = 0x1111 then
    (o || t, o || (t && [0x02, 0x03, 0x05, 0x06, 0x07, 0x08, 0x09, 0x0C, 0x10].contains sub))
  else if index ≤ 0x12FF then ov
  else if index ≤ 0x14FF then
    if index = 0x1400 && [0x01, 0x02, 0x07, 0x08, 0x09, 0x0A, 0x0D].contains sub then (o || v, false) else (o, o)
  else if index ≤ 0x18FF then (o, o)
  else if index ≤ 0x31FF then ov
  else if index ≤ 0x3202 then
    if index = 0x3202 && sub = 6 then (o || tAny, false) else (o || v, false)
  else if index = 0x3203 then if sub = 3 then (o || tAny, false) else (false, o || tAny)
  else if index = 0x3210 then (o, o)
  else if index ≤ 0x32FF then (o || t, o || t)
  else if index = 0x4000 then if sub ≤ 7 || sub = 0x10 then (o, o) else ov
  else if index ≤ 0x42FF then ov
  else if index ≤ 0x5002 then ov
  else if (index = 0x5010 || index = 0x5020) && sub = 1 then (o || tAny, o || tAny)
  else if index = 0x5010 then (o || t, o)
  else if index = 0x5021 then (o || t, o || (t && [0x02, 0x04, 0x05].contains sub))
  else if 0x5100 ≤ index && index ≤ 0x51FF then (o || t, o)
  else if index ≤ 0x60FF then ov
  else if index = 0x7000 then if sub ≤ 2 then ov else (o, o)
  else if index = 0x7001 then ov
  else if index = 0x7002 then (o, o)
  else if index = 0x7003 then
    if sub = 1 then ov
    else (false, o || (match role with | .tenant b => s.burgeeOf value = b | _ => false))
  else if index ≤ 0x7801 then if index = 0x7800 && sub = 8 then (false, o) else (o || v, false)
  else (o, o)

/-- The objects that recovery mode leaves present (R485). -/
def recoveryObject (index sub : Nat) : Bool :=
  (0x1000 ≤ index && index ≤ 0x10FF) || (index = 0x1400 && [0x0B, 0x0C, 0x0D].contains sub) ||
  (index = 0x7800 && [0x01, 0x02, 0x04].contains sub)

/-- Supply rails (R385, R430): subindices beyond them are absent. -/
def railCount : Nat := 16

/-- The row of a present object; subindex 0 is a U8 that holds the highest subindex (R371, R373, R485). -/
def presentRow (s : State) (index sub : Nat) : Option ObjRow :=
  if s.boot.recovery && !recoveryObject index sub then none
  else if sub = 0 then
    if highestSub index = 0 then none else some ⟨index, index, 0, 0, .uint, 1, .ro, highestSub index, 0, 0⟩
  else objRow index sub

/-- The read right of a role, subindex 0 following the index's other objects (R371, R381). -/
def mayRead (s : State) (role : Role) (index sub inst : Nat) : Bool :=
  if sub = 0 then
    (List.range (highestSub index + 1)).any fun k =>
      k ≠ 0 && (objRow index k).isSome && (rights s role index k inst 0).1
  else (rights s role index sub inst 0).1

/-- An access code that admits writes (R7, R381). -/
def admitsWrite : Access → Bool
  | .rw | .wo | .rwf | .w1c => true
  | .const | .ro => false

/-- The write right of a role. -/
def mayWrite (s : State) (role : Role) (row : ObjRow) (index sub inst value : Nat) : Bool :=
  sub ≠ 0 && admitsWrite row.access && (rights s role index sub inst value).2

/-- The object is visible to the role (R380): it holds a read or a write right on it. -/
def visible (s : State) (role : Role) (index sub inst : Nat) : Bool :=
  mayRead s role index sub inst || (sub ≠ 0 && (rights s role index sub inst 0).2) ||
    (index = 0x7003 && sub = 2 && role ≠ .observer)

/-- The value length of R375 is wrong for the object: for a WRITE, or for a whole block transfer. -/
def typeBad (row : ObjRow) (block : Bool) (n : Nat) : Bool :=
  match row.type with
  | .domain => !block
  | .octets => decide (n ≠ row.len)
  | .str => decide (row.len < n)
  | _ => block || decide (n ≠ row.len)

/-- The value is outside what R375 and the object's stated values allow. -/
def rangeBad (row : ObjRow) (data : Bytes) : Bool :=
  let v := beNat data
  match row.type with
  | .bool => decide (1 < v)
  | .f32 => f32NotFinite (BitVec.ofNat 32 v)
  | .str => data.any fun b => b.toNat < 0x20 || 0x7E < b.toNat
  | .domain => decide (row.len < data.length)
  | .uint => if row.access = .w1c then false else decide (v < row.least ∨ row.most < v)
  | _ => false

/-- A host-to-Masthead mailbox word (R398). -/
def isHostMailbox (index sub : Nat) : Bool := decide (0x1810 ≤ index) && decide (index ≤ 0x1817) && sub = 1

/-- The write that the object's own rules accepted is stored by its access code (R7, R8): WO objects keep nothing. -/
def storeWrite (row : ObjRow) (index sub : Nat) (c : WriteCtx) (s : State) : State :=
  let v := if row.type = .bool || row.type = .uint || row.type = .int || row.type = .f32 then c.value else 0
  match row.type with
  | .str | .octets | .domain => if row.access = .wo then s else s.putOct index sub c.inst c.data
  | _ =>
    match row.access with
    | .rw => s.wrI index sub c.inst v
    | .rwf => { s with pend := sput (objKey index sub c.inst) v s.pend }
    | .w1c => s.wrI index sub c.inst (s.rdI index sub c.inst &&& ((objModulus index sub - 1) ^^^ v))
    | _ => s

/-- A selector write is kept in its session (R380). -/
def storeSelector (index : Nat) (c : WriteCtx) (s : State) : State :=
  match c.session with
  | none => s
  | some i => s.modSession i fun x =>
      if index = 0x1110 then { x with selRing := c.value }
      else if index = 0x5010 then { x with selEntry := c.value }
      else { x with selCtx := c.value }

/-! ## The responder -/

/-- The Ethernet port is up (R370). -/
def State.portUp (s : State) : Bool := s.rd 0x1100 0x03 = 2

/-- The responder answers: the port is up, and start-up has passed stage 5 or the device is in recovery mode (R505, R485);
in S3 nothing answers (R447). -/
def State.dictUp (s : State) : Bool :=
  s.portUp && (s.boot.profileDone || s.boot.recovery) && s.power.s3.isNone

/-- Requests that still wait when one arrives: 64 are served in each beat (R364). -/
def State.backlog (s : State) : Nat := s.eth.queued - 64 * (s.beat - s.eth.servedBeat)

/-- A request takes its place: served in its beat, or one of the 1,024 that wait (R364). -/
def State.enqueueRequest (s : State) : State :=
  { s with eth := { s.eth with queued := s.backlog + 1, servedBeat := s.beat } }

/-- The response leaves, is counted, and is kept as the session's last response (R367, R370, R389). -/
def respond (r : DictReq) (status : Nat) (last : Bool) (value : Bytes) (s : State) : State :=
  let s := s.send (.dict r.xid r.session status last value)
  let s := s.bump 0x1105 0x01 1
  let s := if status = 0 then s else s.bump 0x1105 0x02 1
  let s := if status = 7 then s.bump 0x7800 0x07 1 else s
  match r.session with
  | none => s
  | some i =>
    s.modSession i fun x => if x.opened then { x with lastXid := some r.xid, lastResp := (status, last, value), lastBeat := s.beat } else x

/-- The request repeats the XID of its session's previous one (R367). -/
def repeated (s : State) (r : DictReq) : Option (Nat × Bool × Bytes) :=
  match r.session.bind s.session? with
  | some x => if x.opened && x.lastXid = some r.xid then some x.lastResp else none
  | none => none

/-- A request is received, judged and answered: a bad MAGIC or VERSION is dropped unanswered, a full queue drops and counts,
a repeated XID receives the kept response again, and anything else is served by `body`, which gives its status, the value
of the response with its LAST bit and the state after it (R364, R367, R378). -/
def dictServeLast (r : DictReq) (body : State → Nat × Bool × Bytes × State) (s : State) : State :=
  if !s.dictUp || r.magic ≠ 0x5044 || r.version ≠ 1 then s
  else if 1088 ≤ s.backlog then s.bump 0x1105 0x03 1
  else
    let s := s.enqueueRequest
    match repeated s r with
    | some (st, last, v) => s.send (.dict r.xid r.session st last v)
    | none =>
      let a := body s
      respond r a.1 a.2.1 a.2.2.1 a.2.2.2

/-- A request whose response carries no segment. -/
def dictServe (r : DictReq) (body : State → Nat × Bytes × State) (s : State) : State :=
  dictServeLast r (fun s => let a := body s; (a.1, false, a.2.1, a.2.2)) s

/-- An operation code of R365. -/
def knownOp (op : Nat) : Bool := [0x01, 0x02, 0x03, 0x04, 0x05, 0x10, 0x11].contains op

/-- Tests 2 to 5 of R378 for an access to a present object: the failing status, or the role and row. -/
def judgeAccess (s : State) (r : DictReq) (index sub value : Nat) (write : Bool) : Nat ⊕ (Role × ObjRow) :=
  match roleOf s r with
  | none => .inl 7
  | some role =>
    if !knownOp r.op then .inl 3
    else
      match presentRow s index sub with
      | none => .inl 1
      | some row =>
        let inst := instOf s r.session index sub
        if !visible s role index sub inst then .inl 1
        else if write then
          if mayWrite s role row index sub inst value then .inr (role, row) else .inl 2
        else if mayRead s role index sub inst then .inr (role, row) else .inl 2

/-- Another session holds a WRITE_BLOCK open on the object (R365). -/
def blockBusy (s : State) (r : DictReq) (index sub inst : Nat) : Bool :=
  s.eth.blocks.any fun b => b.1 = objKey index sub inst && b.2.1 ≠ r.session

/-- A wake event in S2 (R396, R446): the units that it wakes run no later than 64 beats after it; elsewhere it has no effect. -/
def raiseWake (s : State) : State :=
  if s.rd 0x2000 0x09 = 2 && s.masthead.wakeAt.isNone then { s with masthead := { s.masthead with wakeAt := some s.beat } } else s

/-- An object whose accepted write needs Masthead or a sequencer (R446). -/
def needsWake (index sub : Nat) : Bool :=
  (0x1400 ≤ index && index ≤ 0x14FF) || (index = 0x4000 && sub = 0x10) || (index = 0x3101 && sub = 0x07) ||
    (index = 0x7000 && sub = 0x05) || (index = 0x7003 && sub = 0x02) || isHostMailbox index sub

/-- A write judged by R378 in order; `accept` is the object's own rule, `effect` what an accepted write does, and `reject`
what the object's chapter says of a write that its own rule turns away. -/
def judgeWrite (r : DictReq) (index sub : Nat) (block : Bool) (data : Bytes) (accept : WriteCtx → State → Bool)
    (effect : ObjRow → WriteCtx → State → State) (reject : WriteCtx → State → State) (s : State) : Nat × Bytes × State :=
  match judgeAccess s r index sub (beNat data) true with
  | .inl st => (st, [], s)
  | .inr (role, row) =>
    let c : WriteCtx := ⟨r.session, role, instOf s r.session index sub, beNat data, data⟩
    if typeBad row block data.length then (4, [], s)
    else if rangeBad row data then (3, [], s)
    else if !accept c s then (3, [], reject c s)
    else if isHostMailbox index sub && !s.masthead.on then (6, [], raiseWake s)
    else if blockBusy s r index sub c.inst || (isHostMailbox index sub && s.rd index 2 = 1) then (5, [], s)
    else (0, [], if needsWake index sub then raiseWake (effect row c s) else effect row c s)

/-- A dictionary WRITE of an object whose rejection leaves a trace. -/
def dictWriteElse (r : DictReq) (index sub : Nat) (data : Bytes) (accept : WriteCtx → State → Bool)
    (effect : ObjRow → WriteCtx → State → State) (reject : WriteCtx → State → State) (s : State) : State :=
  dictServe r (judgeWrite r index sub false data accept effect reject) s

/-- A dictionary WRITE of an object. -/
def dictWrite (r : DictReq) (index sub : Nat) (data : Bytes) (accept : WriteCtx → State → Bool)
    (effect : ObjRow → WriteCtx → State → State) (s : State) : State :=
  dictWriteElse r index sub data accept effect (fun _ s => s) s

/-- A whole block write of an object, as it is judged when the segment with LAST arrives. -/
def dictBlock (r : DictReq) (index sub : Nat) (data : Bytes) (accept : WriteCtx → State → Bool)
    (effect : ObjRow → WriteCtx → State → State) (s : State) : State :=
  dictServe r (judgeWrite r index sub true data accept effect (fun _ s => s)) s

end Sys2Proof.Machine
end

