-- ==== Sys2Proof/Machine/Kv.lean ====
section
/-! DEFINITION. The KV cache's lanes, addresses, pages and backing (R229 to R239), the page pool, the Reserve tier's pages
(R290), and the regular ends of pages. Directories, chunk records and state records are held as lists in the entry. -/

namespace Sys2Proof.Machine
open Sys2Proof

/-- The layers of an image that hold lanes: DECODER, DECODER_MOE and ENCODER, in ascending SLOT (R229). -/
def laneLayers (img : Image) : List LayerEntry :=
  sortBy (fun a b => decide (a.slot ≤ b.slot)) (img.layers.filter fun l => l.kind = 1 || l.kind = 2 || l.kind = 3)

/-- The layers with recurrent state, in ascending SLOT (R258). -/
def recurrentLayers (img : Image) : List LayerEntry :=
  sortBy (fun a b => decide (a.slot ≤ b.slot)) (img.layers.filter fun l => l.kind = 4 || l.kind = 5)

/-- L, the device's lane count (R229). -/
def laneCount (img : Image) : Nat := (laneLayers img).foldl (fun n l => n + 2 * l.kvHeads) 0

/-- The first lane of a slot (R229). -/
def laneBase (img : Image) (slot : Nat) : Nat :=
  ((laneLayers img).filter fun l => decide (l.slot < slot)).foldl (fun n l => n + 2 * l.kvHeads) 0

/-- The lane of a slot's K (or V) head (R229). -/
def laneOf (img : Image) (l : LayerEntry) (isV : Bool) (head : Nat) : Nat :=
  laneBase img l.slot + (if isV then l.kvHeads else 0) + head

/-- The layer that owns a lane. -/
def laneLayer (img : Image) (lane : Nat) : Option LayerEntry :=
  (laneLayers img).find? fun l => decide (laneBase img l.slot ≤ lane) && decide (lane < laneBase img l.slot + 2 * l.kvHeads)

/-- The half of a layer: 0 Hoist, 1 Fly; a layer of HALF 2 goes to Hoist (the model's choice where R178 leaves it). -/
def layerHalf (l : LayerEntry) : Nat := if l.half = 1 then 1 else 0

/-- E_d (R230). -/
def State.kvData (s : State) (headDim : Nat) : Nat := if s.rd 0x6000 0x01 = 0 then headDim / 2 else headDim

/-- E_s (R230). -/
def kvScales (headDim : Nat) : Nat := headDim / 32

/-- T, positions per page, for the largest HEAD_DIM of the lanes, or 128 with none (R230). -/
def State.kvT (s : State) : Nat :=
  let hd := (laneLayers s.image).foldl (fun m l => max m l.headDim) 0
  let hd := if hd = 0 then 128 else hd
  65280 / (s.kvData hd + kvScales hd) / 32 * 32

/-- MAXCTX (R231). -/
def State.maxCtx (s : State) : Nat := s.rd 0x6000 0x02

/-- MAXCHUNK (R231). -/
def State.maxChunk (s : State) : Nat := ceilDiv s.maxCtx s.kvT

/-- Z, bytes of an entry's region (R231). -/
def State.kvZ (s : State) : Nat := laneCount s.image * (s.maxChunk * 65536)

/-- The KV address of the page of a lane and chunk of an entry (R231). -/
def State.kvPageAddr (s : State) (q lane chunk : Nat) : Nat :=
  q * s.kvZ + lane * (s.maxChunk * 65536) + chunk * 65536

/-- The device page that backs a lane in a chunk of an entry, if any (R235). -/
def backedPage (e : Entry) (lane chunk : Nat) : Option Nat :=
  (e.pages.find? fun p => p.lane = lane && p.chunk = chunk).map (·.page)

/-- The header of a page (R232). -/
def pageHeader (q lane chunk : Nat) : Bytes := leBytes 2 q ++ leBytes 2 lane ++ leBytes 4 chunk

/-! ## The pool (R236 to R239) -/

/-- The first number from c upward that is not taken. -/
def firstFree (taken : List Nat) : Nat → Nat → Nat
  | 0, c => c
  | fuel + 1, c => if taken.contains c then firstFree taken fuel (c + 1) else c

/-- The pages of a half that are in use, wait for zeroing or are retired. -/
def State.poolTaken (s : State) (half : Nat) : List Nat :=
  let lo := s.pool.base.getD half 0
  let hi := lo + s.pool.size.getD half 0
  (s.pool.used ++ s.pool.zeroing ++ s.pool.retired).filter fun p => decide (lo ≤ p) && decide (p < hi)

/-- Free pages of a half. -/
def State.poolFree (s : State) (half : Nat) : Nat := s.pool.size.getD half 0 - (s.poolTaken half).length

/-- A page of one half: the lowest-numbered free page (the model's choice; the manual names none). -/
def State.takeFrom (s : State) (half : Nat) : Option (Nat × State) :=
  if s.poolFree half = 0 then none
  else
    let t := s.poolTaken half
    let p := firstFree t (t.length + 1) (s.pool.base.getD half 0)
    some (p, { s with pool := { s.pool with used := p :: s.pool.used } })

/-- A page of a half, or of the other half, which is counted (R238, R235, R272). -/
def State.takePage (s : State) (half : Nat) : Option (Nat × State) :=
  match s.takeFrom half with
  | some r => some r
  | none =>
    match s.takeFrom (1 - half) with
    | some (p, s') => some (p, s'.bump 0x6001 0x04 1)
    | none => none

/-- n pages taken in order, or none. -/
def State.takePages (half : Nat) : Nat → State → Option (List Nat × State)
  | 0, s => some ([], s)
  | n + 1, s =>
    match s.takePage half with
    | none => none
    | some (p, s) =>
      match State.takePages half n s with
      | none => none
      | some (ps, s) => some (p :: ps, s)

/-- Pages leave use and wait to be written with zero (R239). -/
def State.returnPages (s : State) (ps : List Nat) : State :=
  { s with pool := { s.pool with
      used := s.pool.used.filter fun p => !ps.contains p
      zeroing := s.pool.zeroing ++ ps.filter fun p => s.pool.used.contains p && !s.pool.retired.contains p } }

/-- Bytes of a chunk record (R235). -/
def chunkRecordBytes (lanes : Nat) : Nat := ceilDiv (4 * lanes) 64 * 64

/-- Chunk records in one record page (R235). -/
def recordsPerPage (lanes : Nat) : Nat := 65536 / max 64 (chunkRecordBytes lanes)

/-- The chunks of an entry that hold a chunk record, in the order of their backing. -/
def backedChunks (e : Entry) : List Nat := (e.pages.map (·.chunk)).eraseDups

/-- Bytes of the two state slots of a recurrent layer (R258). -/
def stateBytes (l : LayerEntry) : Nat :=
  2 * 4 * (if l.kind = 4 then l.heads * l.headDim * (l.headDim + 1) else l.heads * l.headDim * l.kvHeads)

/-- The state record and its pages at a sequence's first step (R259): the record page, then the pages of the states. -/
def backStates (q : Nat) (s : State) : Bool × State :=
  let rs := recurrentLayers s.image
  let e := s.entry q
  if rs.isEmpty || !e.statePages.isEmpty then (true, s)
  else
    let n := ceilDiv (rs.foldl (fun k l => k + stateBytes l) 0) 65536
    match State.takePages 0 (n + 1) s with
    | none => (false, s)
    | some (ps, s) => (true, s.modEntry q fun e => { e with statePages := ps })

/-- One lane of a chunk backed: the page and its header (R237). A lane that is already backed is left as it is. -/
def backLane (q chunk lane : Nat) (a : Bool × State) : Bool × State :=
  let s := a.2
  let e := s.entry q
  if (backedPage e lane chunk).isSome then a
  else
    let half := match laneLayer s.image lane with
      | some l => layerHalf l
      | none => 0
    match s.takePage half with
    | none => (false, s)
    | some (p, s) =>
      let s := s.modEntry q fun e => { e with pages := e.pages ++ [⟨lane, chunk, p⟩] }
      (a.1, { s with mem := memWriteN (p * 65536) (pageHeader q lane chunk) s.mem })

/-- A chunk backed: a chunk record where it has none, a new record page where the last is full, then its lanes (R235, R237). -/
def backChunk (q : Nat) (a : Bool × State) (chunk : Nat) : Bool × State :=
  let s := a.2
  let lanes := laneCount s.image
  let e := s.entry q
  let known := backedChunks e
  if lanes = 0 then a
  else
    let needPage := !known.contains chunk && decide (e.recPages.length * recordsPerPage lanes ≤ known.length)
    let r := if needPage then
        match s.takePage 0 with
        | some (p, s) => (a.1, s.modEntry q fun e => { e with recPages := e.recPages ++ [p] })
        | none => (false, s)
      else a
    if needPage && !r.1 then r
    else (List.range lanes).foldl (fun b lane => backLane q chunk lane b) r

/-- The chunks that hold positions start to start + count − 1. -/
def State.chunksOf (s : State) (start count : Nat) : List Nat :=
  if count = 0 then []
  else
    let lo := start / s.kvT
    (List.range ((start + count - 1) / s.kvT + 1 - lo)).map (lo + ·)

/-- Backing for one sequence of a step: whether every page was obtained, and the state with every page obtained (R237). -/
def backEntry (q start count : Nat) (s : State) : Bool × State :=
  (s.chunksOf start count).foldl (backChunk q) (backStates q s)

/-- Every page of an entry goes to zeroing, and the directory is cleared (R239). -/
def releasePages (q : Nat) (s : State) : State :=
  let e := s.entry q
  let res (p : Nat) : Bool := decide (0x400000 ≤ p)
  let all := e.pages.map (·.page) ++ e.recPages ++ e.statePages ++ e.tokPages
  let s := s.returnPages (all.filter fun p => !res p)
  let rp := all.filter res
  let s := { s with pool := { s.pool with
    resUsed := s.pool.resUsed.filter fun p => !rp.contains p
    resZeroing := s.pool.resZeroing ++ rp } }
  s.modEntry q fun e => { e with pages := [], recPages := [], statePages := [], tokPages := [] }

/-- A token store's pages return (R272). -/
def releaseTokenStore (q : Nat) (s : State) : State :=
  (s.returnPages (s.entry q).tokPages).modEntry q fun e => { e with tokPages := [] }

/-- A page that is retired until reset (R455). -/
def retirePage (p : Nat) (s : State) : State :=
  { s with pool := { s.pool with
      retired := p :: s.pool.retired
      used := s.pool.used.filter (· ≠ p)
      zeroing := s.pool.zeroing.filter (· ≠ p) } }

/-- The Reserve pages of a half start here: LPDDR5X devices 0 to 3, then 4 to 7 (R200, R290). -/
def reserveBase (half : Nat) : Nat := 0x400000 + 0x200000 * half

/-- The Reserve pages of a half that are used or wait for zeroing. -/
def State.reserveTaken (s : State) (half : Nat) : List Nat :=
  (s.pool.resUsed ++ s.pool.resZeroing).filter fun p =>
    decide (reserveBase half ≤ p) && decide (p < reserveBase half + 0x200000)

/-- A free Reserve page of a half, the lowest-numbered. -/
def State.takeReserve (s : State) (half : Nat) : Option (Nat × State) :=
  let t := s.reserveTaken half
  if 0x200000 ≤ t.length then none
  else
    let p := firstFree t (t.length + 1) (reserveBase half)
    some (p, { s with pool := { s.pool with resUsed := p :: s.pool.resUsed } })

/-- Bytes of a device directory with its spacing (R235). -/
def State.directoryBytes (s : State) : Nat := 64 * ceilDiv (64 + 4 * s.maxChunk) 64

/-- 96 GiB of an HBM4 range in pages. -/
def hbmPages : Nat := 0x180000

/-- Pages that one half's pool has after what R236 sets aside: the spill reserve of 4 GiB, on Hoist the directories, and
what the loaded image and its staging area hold there. -/
def State.poolPages (s : State) (half imageBytes : Nat) : Nat :=
  let dirs := if half = 0 then ceilDiv (8192 * s.directoryBytes) 65536 else 0
  hbmPages - 65536 - dirs - ceilDiv imageBytes 65536

end Sys2Proof.Machine
end

