-- ==== Sys2Proof/Machine/Requests.lean ====
section
/-! DEFINITION. The request table (R267 to R270), completions on the tail (R280 to R282, R360 to R362), and the composition of
a step on the head (R274 to R279, R452). -/

namespace Sys2Proof.Machine
open Sys2Proof

/-- A report on VC1 sent to another device. -/
def State.report (s : State) (dst : Nat) (m : ReportMsg) : State := s.send (.report dst m)

/-- A management packet sent on VC7 under an identifier of its own, kept for a resend (R346). -/
def sendVc7 (dst : Nat) (fields : List Nat) (s : State) : State :=
  let id := s.fab.vc7Next
  ({ s with fab := { s.fab with vc7 := s.fab.vc7 ++ [(id, dst, fields)], vc7Next := id + 1 } }).send (.packet 7 0x70 dst id fields)

/-- A packet taken from the management queue (R344). -/
def takeMgmt (s : State) : State := { s with fab := { s.fab with mgmtQueue := s.fab.mgmtQueue.drop 1 } }

/-- A step that is not resolved on this member holds the entry (R239, R269). -/
def State.inFlight (s : State) (q : Nat) : Bool :=
  match s.fab.step with
  | some st => !st.resolved && st.len.any fun l => l.req = q
  | none => false

/-- The step in flight changed. -/
def State.modStep (s : State) (f : Step → Step) : State := { s with fab := { s.fab with step := s.fab.step.map f } }

/-- The fabric record changed. -/
def State.modFab (s : State) (f : Fabric → Fabric) : State := { s with fab := f s.fab }

/-- An entry that becomes FREE on this member: its pages return, or stay until the step in flight that holds it is
resolved (R239, R269). -/
def freeEntry (q : Nat) (s : State) : State :=
  if s.inFlight q then
    let e := s.entry q
    s.putEntry q { Entry.free with pages := e.pages, recPages := e.recPages, statePages := e.statePages, tokPages := e.tokPages }
  else (releasePages q s).putEntry q Entry.free

/-- Flags of a final completion: bit 9 DEADLINE when the status is decided after the deadline (R280). -/
def finalFlags (s : State) (e : Entry) (flags : Nat) : Nat :=
  if e.deadline ≠ 0 && e.deadline < s.beat then setBit flags 9 else flags

/-- Counts of a final status (R293, R294). -/
def countFinal (e : Entry) (flags : Nat) (s : State) : State :=
  let s := s.bump (0x5100 + e.burgee) 0x0B 1
  if bitOf flags 9 then (s.bump 0x5002 0x09 1).bump (0x5100 + e.burgee) 0x0C 1 else s

/-- A command completion queued on the tail for a ring (R361, R362). -/
def queueCmd (ring op status tag entry reason : Nat) (s : State) : State :=
  s.modRing ring fun r => { r with cmds := r.cmds ++
    [⟨ring, 1, status, tag, entry, [], op, reason, 0, 0, s.beat, false⟩] }

/-- The outcome of a command that every member holds at its effect beat: the tail queues the completion on the ring that
the command came from (R361). -/
def decideCmd (m : SchedMsg) (op status : Nat) (s : State) : State :=
  let s := if s.isHead then
      let s := s.modEntry m.target fun e => if e.state = 0 then e else { e with cmdPending := e.cmdPending - 1 }
      if status = 18 || status = 19 then s.bump 0x5002 0x06 1 else s
    else s
  if s.isTail then queueCmd m.ring op status m.tag m.target 0 s else s

/-- The outcome of an ingress command that the head decides at its poll: queued on the tail, or reported to it (R361). -/
def decideAtHead (ring op tag entry status reason : Nat) (adm : Option AdmitRec) (s : State) : State :=
  let s := if status = 18 || status = 19 then s.bump 0x5002 0x06 1 else s
  if s.isTail then queueCmd ring op status tag entry reason s
  else s.report s.tailPos (.outcome ring op tag entry status reason s.beat adm)

/-- An entry leaves service with a final status and no token to ride on: state DONE (5) or FAULTED (6), the final completion
queued on the tail; a member that is neither head nor tail frees it at once (R269, R280). -/
def finishEntry (q state status flags : Nat) (s : State) : State :=
  let e := s.entry q
  let fl := finalFlags s e flags
  let s := countFinal e fl s
  let s := s.putEntry q { e with state := state, ttlEnd := 0 }
  let s := if s.isTail then
      s.modRing e.ring fun r => { r with finals := r.finals ++
        [⟨e.ring, 0, status, e.tag, q, [], 0, 0, fl, e.committed, s.beat, true⟩] }
    else s
  if s.isHead || s.isTail then s else freeEntry q s

/-- An entry leaves service with its last tokens, whose completion is already queued on the tail (R270, R287). -/
def endWithTokens (q flags : Nat) (s : State) : State :=
  let e := s.entry q
  let s := countFinal e flags s
  let s := s.putEntry q { e with state := 5, ttlEnd := 0 }
  if s.isHead || s.isTail then s else freeEntry q s

/-- Entries of a state, by number. -/
def State.entriesWhere (s : State) (p : Entry → Bool) : List Nat := (s.table.filter fun e => p e.2).map (·.1)

/-- A non-FREE entry. -/
def live (e : Entry) : Bool := e.state ≠ 0

/-- A step in flight leaves the entry out of every effect of its commit (R286). -/
def leaveOut (q : Nat) (s : State) : State :=
  if s.inFlight q then s.modStep fun st => { st with leftOut := q :: st.leftOut } else s

/-! ## Completions on the tail -/

/-- The beats at which this device writes completions (R360). -/
def State.completionBeat (s : State) : Bool :=
  (s.beat + 64 - s.slot) % s.rd 0x1103 0x01 = 64 % s.rd 0x1103 0x01

/-- The ring region of a ring pair in the store of ring memory: one 2^32 block for each ring (R355). -/
def ringBase (ring : Nat) : Nat := ring * 0x100000000

/-- RDMA writes of earlier beats become visible to polls (R358, R360). -/
def settleRings (s : State) : State :=
  let old := s.landed.filter fun w => decide (w.1 < s.beat)
  { s with
    ringMem := old.foldl (fun m w => memWriteN w.2.1 w.2.2 m) s.ringMem
    landed := s.landed.filter fun w => !decide (w.1 < s.beat) }

/-- PI of a ring (R355). -/
def State.ringPi (s : State) (ring : Nat) : Nat := leNat (memReadN s.ringMem (ringBase ring) 4)

/-- CI of a ring (R355). -/
def State.ringCi (s : State) (ring : Nat) : Nat := leNat (memReadN s.ringMem (ringBase ring + 4) 4)

/-- Room in a ring's completion ring (R360). -/
def State.ringRoom (s : State) (ring : Nat) : Bool :=
  decide (((s.ring ring).produced + 0x100000000 - s.ringCi ring) % 0x100000000 < s.rdI 0x1111 0x03 ring)

/-- The ring's completion connection is ready (R353). -/
def State.ringReady (s : State) (ring : Nat) : Bool := s.rdI 0x1111 0x09 ring = 1 && s.rdI 0x1111 0x0D ring = 1

/-- A command credit comes back to the head (R361). -/
def creditBack (ring : Nat) (s : State) : State :=
  s.wrI 0x1111 0x0F ring (min 64 (s.rdI 0x1111 0x0F ring + 1))

/-- One completion written (R362), with its credit returned or its entry freed (R269, R361). -/
def writeCompletion (ring : Nat) (c : Compl) (s : State) : State :=
  let n := (s.ring ring).produced
  let s := s.send (.completion c (n % 65536))
  let s := s.modRing ring fun r => { r with produced := (n + 1) % 0x100000000 }
  let s := s.bump 0x5002 0x08 1
  let s := if c.kind = 1 then
      if s.isHead then creditBack ring s else s.report s.headPos (.credit ring)
    else s
  if c.final then
    let s := freeEntry c.entry s
    if s.isHead then s else s.report s.headPos (.freed c.entry)
  else s

/-- The completions of a ring that fit are written: token completions, finals, command completions (R360). -/
def drainRing (ring : Nat) : Nat → State → State
  | 0, s => s
  | fuel + 1, s =>
    let r := s.ring ring
    if !s.ringRoom ring then s
    else
      match r.toks with
      | c :: l => drainRing ring fuel (writeCompletion ring c (s.modRing ring fun r => { r with toks := l }))
      | [] =>
        match r.finals with
        | c :: l => drainRing ring fuel (writeCompletion ring c (s.modRing ring fun r => { r with finals := l }))
        | [] =>
          match r.cmds with
          | c :: l => drainRing ring fuel (writeCompletion ring c (s.modRing ring fun r => { r with cmds := l }))
          | [] => s

/-- Completions of an entry that still wait (R282). -/
def State.waitingFor (s : State) (q : Nat) : Bool :=
  s.rings.any fun r => (r.2.toks ++ r.2.finals).any fun c => c.entry = q

/-- HELD set where an entry's completions wait, and cleared where none does, here and on the head (R282). -/
def reportHeld (s : State) : State :=
  (s.entriesWhere live).foldl (fun s q =>
    let w := s.waitingFor q
    let s := if w then s else s.modEntry q fun e => { e with sflags := 0 }
    if w = (s.entry q).held then s
    else
      let s := s.modEntry q fun e => { e with held := w }
      if s.isHead then s else s.report s.headPos (.held q w)) s

/-! ## Composition (R275 to R279) -/

/-- The budget of a burgee (R274). -/
def State.budget (s : State) (b : Nat) : Nat := s.rd (0x5100 + b) 0x04

/-- The image holds ENCODER slots. -/
def hasEncoder (img : Image) : Bool := img.layers.any fun l => l.kind = 3

/-- A QUEUED ENCODER entry that a limit change has left impossible to take (R278). -/
def State.stranded (s : State) (e : Entry) : Bool :=
  hasEncoder s.image && e.state = 1 &&
    (decide (s.rd 0x5001 0x01 < e.promptLen) || decide (s.rd (0x5100 + e.burgee) 0x03 < e.promptLen))

/-- The tests of R275, with what R237, R278 and R284 add. -/
def State.composable (s : State) (q : Nat) : Bool :=
  let e := s.entry q
  s.rd (0x5100 + e.burgee) 0x01 = 1 && s.rdI 0x5021 0x02 e.context = 1 && !e.restoring && !e.held &&
    e.cmdPending = 0 && !e.poolWait && !s.stranded e && decide (1 ≤ s.budget e.burgee)

/-- An entry is urgent at a start beat (R276). -/
def State.urgent (s : State) (start : Nat) (e : Entry) : Bool :=
  e.deadline ≠ 0 && decide (e.deadline ≤ start + s.rd 0x5001 0x04)

/-- Whether candidate a ranks before candidate b (R276). -/
def State.before (s : State) (start a b : Nat) : Bool :=
  let x := s.entry a
  let y := s.entry b
  let ux := s.urgent start x
  let uy := s.urgent start y
  if ux ≠ uy then ux
  else if x.prio ≠ y.prio then decide (y.prio < x.prio)
  else
    let rx := s.rd (0x5100 + x.burgee) 0x02
    let ry := s.rd (0x5100 + y.burgee) 0x02
    let sx := s.budget x.burgee * ry
    let sy := s.budget y.burgee * rx
    if rx = 0 && ry ≠ 0 then false
    else if ry = 0 && rx ≠ 0 then true
    else if rx ≠ 0 && sx ≠ sy then decide (sy < sx)
    else if x.deadline ≠ y.deadline then
      if x.deadline = 0 then false else if y.deadline = 0 then true else decide (x.deadline < y.deadline)
    else decide (a < b)

/-- The best of a non-empty list of candidates (R276). -/
def State.best (s : State) (start : Nat) : List Nat → Option Nat
  | [] => none
  | q :: l => some (l.foldl (fun b c => if s.before start c b then c else b) q)

/-- What a composition has taken so far: the length table, the candidate records, and the room left. -/
structure Composed where
  len : List LenEntry
  cands : List CandRec
  tok : Nat
  ent : Nat
  deriving DecidableEq, Repr

/-- An entry taken: its line of the length table, the debit of its burgee's budget and the counters (R274, R277, R294). -/
def takeEntry (q kind spec count : Nat) (cs : List Nat) (c : Composed) (s : State) : Composed × State :=
  let e := s.entry q
  let base := c.len.foldl (fun n l => n + l.count) 0
  let s := s.wr (0x5100 + e.burgee) 0x04 (s.budget e.burgee - count)
  let s := s.bump (0x5100 + e.burgee) 0x09 count
  let s := if kind = 0 then s.bump 0x5002 0x04 count else s.bump 0x5002 0x05 count
  ({ len := c.len ++ [⟨q, kind, spec, count, base, e.committed, e.context, e.cls⟩]
     cands := if spec = 0 then c.cands else c.cands ++ [⟨q, cs.take spec⟩]
     tok := c.tok - count
     ent := c.ent - 1 }, s)

/-- The candidate set of an entry under R279: its tokens where BASE equals COMMITTED; another set is dropped and counted. -/
def candidateSet (q : Nat) (s : State) : List Nat × State :=
  let e := s.entry q
  match e.cand with
  | none => ([], s)
  | some (base, toks) =>
    if base = e.committed then (toks, s)
    else ([], (s.modEntry q fun e => { e with cand := none }).bump 0x5002 0x07 1)

/-- Backing on the head before any debit; a sequence that lacks a page is left out whole, keeping its own pages, and counted
(R237). -/
def headBack (q start count : Nat) (s : State) : Option State :=
  let r := backEntry q start count s
  if r.1 then some r.2 else none

/-- The generation pass of R277. -/
def composeGen (start : Nat) : Nat → List Nat → Composed × State → Composed × State
  | 0, _, a => a
  | fuel + 1, g, (c, s) =>
    if c.tok = 0 || c.ent = 0 then (c, s)
    else
      match s.best start g with
      | none => (c, s)
      | some q =>
        let g := g.filter (· ≠ q)
        let e := s.entry q
        let b := s.budget e.burgee
        if b = 0 then composeGen start fuel g (c, s)
        else
          let r := candidateSet q s
          let spec := min r.1.length (min e.spec (min (b - 1) (min (c.tok - 1) (s.maxCtx - e.committed - 1))))
          match headBack q e.committed (1 + spec) r.2 with
          | some s => composeGen start fuel g (takeEntry q 0 spec (1 + spec) r.1 c s)
          | none => composeGen start fuel g (c, r.2.bump 0x6001 0x05 1)

/-- The prefill pass of R277. -/
def composePre (start : Nat) : Nat → List Nat → Composed × State → Composed × State
  | 0, _, a => a
  | fuel + 1, p, (c, s) =>
    if c.tok = 0 || c.ent = 0 then (c, s)
    else
      match s.best start p with
      | none => (c, s)
      | some q =>
        let p := p.filter (· ≠ q)
        let e := s.entry q
        let b := s.budget e.burgee
        let enc := hasEncoder s.image
        let n := if enc then e.promptLen else min (s.rd 0x5001 0x03) (min (e.promptLen - e.committed) (min b c.tok))
        if b = 0 || (enc && (decide (b < n) || decide (c.tok < n))) then composePre start fuel p (c, s)
        else
          match headBack q e.committed n s with
          | some s =>
            composePre start fuel p (takeEntry q (if e.committed + n = e.promptLen then 2 else 1) 0 n [] c s)
          | none => composePre start fuel p (c, s.bump 0x6001 0x05 1)

/-- A composition under R277 at a start beat. -/
def compose (start : Nat) (s : State) : Composed × State :=
  let gens := s.entriesWhere fun e => e.state = 3
  let pres := s.entriesWhere fun e => e.state = 1 || e.state = 2
  let ok := fun q => s.composable q
  let c : Composed := ⟨[], [], s.rd 0x5001 0x01, s.rd 0x5001 0x02⟩
  let a := composeGen start gens.length (gens.filter ok) (c, s)
  composePre start pres.length (pres.filter fun q => s.composable q) a

/-- An entry of a discarded step that a rerun still carries (R452, R237): not one that has ended or dipped, nor one for which the
head composes no step for now (R275, R278, R282, R284, R288). -/
def rerunKeeps (s : State) (l : LenEntry) : Bool :=
  let e := s.entry l.req
  (e.state = 1 || e.state = 2 || e.state = 3) && e.committed = l.start && e.context = l.context && !e.poolWait &&
    s.rd (0x5100 + e.burgee) 0x01 = 1 && s.rdI 0x5021 0x02 e.context = 1 && !e.restoring && !e.held &&
    e.cmdPending = 0 && !s.stranded e

/-- The entries of a length table numbered anew from token 0. -/
def renumber (l : List LenEntry) : List LenEntry :=
  (l.foldl (fun (a : List LenEntry × Nat) x => (a.1 ++ [{ x with tokbase := a.2 }], a.2 + x.count)) ([], 0)).1

/-- The admission record of an entry (R312). -/
def admitOf (s : State) (q : Nat) : AdmitRec :=
  let e := s.entry q
  ⟨q, e.ring, e.burgee, e.context, e.cls, e.spec, e.tag, e.maxNew, e.stop, e.promptLen, e.deadline⟩

/-- An entry learnt from an admission record (R267): a member that already holds it keeps it unchanged. -/
def learnEntry (a : AdmitRec) (s : State) : State :=
  if (s.entry a.entry).state ≠ 0 then s
  else s.modEntry a.entry fun e => { e with
    state := 1, ring := a.ring, burgee := a.burgee, context := a.context, cls := a.cls, spec := a.spec, tag := a.tag,
    maxNew := a.maxNew, stop := a.stop, promptLen := a.promptLen, deadline := a.deadline, committed := 0, tokensOut := 0,
    commits := 0 }

end Sys2Proof.Machine
end

