-- ==== Sys2Proof/Machine/Recovery.lean ====
section
/-! DEFINITION. Fault records, detected errors and their classification, what a permanent fault takes out, context resets,
causes of half-mast (R448 to R474), and the scheduled multicasts by which the head commands every member (R284, R334). -/

namespace Sys2Proof.Machine
open Sys2Proof

/-! ## Records (R471, R474) -/

/-- A record with the fields of R471 that the device's state gives; the rest is "none". -/
def newRec (s : State) (kind detector : Nat) : FaultRec :=
  ⟨kind, detector, s.beat,
    (match s.fab.step with | some st => st.num | none => 0xFFFFFFFF),
    (match s.fab.step with | some st => st.run | none => 0),
    0, 0, 0, 0, 0xFFFF, 0xFFFF, 0xFF, 0, 0, 0, []⟩

/-- The fault records held in Masthead's SRAM (R474). -/
def State.recsHeld (s : State) : List FaultRec :=
  s.masthead.jobs.filterMap fun j => match j with | .record r => some r | _ => none

/-- A record built in Masthead's SRAM, which holds 64, to be written to flash in its turn; one that finds it full is counted (R474,
R484). -/
def State.log (s : State) (r : FaultRec) : State :=
  if s.recsHeld.length < 64 then { s with masthead := { s.masthead with jobs := s.masthead.jobs ++ [.record r] } }
  else s.bump 0x7000 0x02 1

/-- A notice for mailbox 7: the latest of each code is kept, with the notice count (R402). -/
def State.notice (s : State) (code value : Nat) : State :=
  { s with masthead := { s.masthead with
      noticeCount := s.masthead.noticeCount + 1
      notices := sput code (value % 65536, s.masthead.noticeCount) s.masthead.notices } }

/-- A cause of half-mast, by its number in R467, takes the device out of service at the next frame boundary. -/
def State.halfMastCause (s : State) (cause : Nat) : State :=
  { s with faults := { s.faults with hmDue := s.faults.hmDue ++ [cause] } }

/-- The device computes: it is ready, in service, and BYP_HOLD is not released (R340, R469). -/
def State.inService (s : State) : Bool := s.rd 0x1000 0x08 = 0 && s.rd 0x7001 0x07 = 0

/-! ## Scheduled multicasts of the head (R284, R315, R334) -/

/-- K, the command delay: the fabric latency bound plus 1 (R284). -/
def State.cmdDelay (s : State) : Nat := s.rd 0x3202 0x02 + 1

/-- The next multicast number, with the multicast counted (R346). -/
def State.takeMcnum (s : State) : Nat × State :=
  (s.fab.mcNext, (s.modFab fun f => { f with mcNext := (f.mcNext + 1) % 0x100000000 }).bump 0x3103 0x01 1)

/-- Members that a region multicast reaches besides this device. -/
def State.otherMembers (s : State) : List Nat := s.members.filter (· ≠ s.pos)

/-- A scheduled multicast sent by the head under a message number; the head holds its own copy (R334). -/
def sendSched (m : SchedMsg) (s : State) : State :=
  let (mc, s) := s.takeMcnum
  let m := { m with mcnum := mc }
  let s := s.modFab fun f => { f with
    schedFrame := s.frameStart
    schedSent := if f.schedFrame = s.frameStart then f.schedSent + 1 else 1
    scheds := f.scheds ++ [m]
    schedOuts := if s.otherMembers.isEmpty then f.schedOuts
      else f.schedOuts ++ [⟨mc, m, s.beat + s.rd 0x3102 0x04, 0⟩] }
  if s.otherMembers.isEmpty then s else s.send (.sched m)

/-- A new command multicast with effect beat now + K. -/
def headCommand (cmd target tag ttl ring : Nat) (s : State) : State :=
  let n := s.fab.msgNext
  let s := s.modFab fun f => { f with msgNext := (f.msgNext + 1) % 0x100000000 }
  sendSched ⟨0, ring, n, s.beat + s.cmdDelay, cmd, target, tag, ttl⟩ s

/-- A cause of a context reset: the head multicasts the reset, another member reports it to the head (R461). A fault-caused
reset counts toward R468 on this member, which met the fault (R463). -/
def resetContextCause (ctx : Nat) (byFault : Bool) (s : State) : State :=
  let s := { s with faults := { s.faults with ctxResets := s.faults.ctxResets ++ [(ctx, byFault)] } }
  if s.isHead || !s.hasRegion then headCommand 7 ctx 0 0 0 s
  else s.report s.headPos (.resetCause s.pos ctx byFault)

/-! ## Units that a permanent fault takes out (R455) -/

/-- A Greund die lost: every array of it failed (R19), a calibration window on it abandoned (R429), a test on it aborted
(R519). -/
def loseDie (d : Nat) (s : State) : State :=
  let s := s.modDie d fun x => { x with lost := true }
  let s := if s.cal.testDie = d && s.rd 0x7F40 0x04 = 1 then s.wr 0x7F40 0x04 4 else s
  let s := { s with cal := { s.cal with
      current := match s.cal.current with
        | some w => if w.die = d then none else some w
        | none => none
      waiting := s.cal.waiting.filter fun w => w.die ≠ d } }
  if s.rd 0x2200 0x03 = d then s.wr 0x2200 0x03 0xFF else s

/-- An array retired: it counts as failed, and the placement loop meets it at the next frame boundary (R191). -/
def retireArray (a : Nat) (s : State) : State :=
  if (s.arr a).retired then s
  else
    let s := (s.modArr a fun x => { x with retired := true }).bump 0x4004 0x06 1
    { s with load := { s.load with retireEv := s.load.retireEv ++ [a] } }

/-- A retired unit of a class (R455). -/
def State.retired (s : State) (cls unit : Nat) : Bool := s.faults.retiredUnits.contains (cls, unit)

/-- A unit listed as retired. -/
def retireUnit (cls unit : Nat) (s : State) : State :=
  if s.retired cls unit then s
  else { s with faults := { s.faults with retiredUnits := s.faults.retiredUnits ++ [(cls, unit)] } }

/-- Fenced engines of a cluster. -/
def State.fenced (s : State) (cluster : Nat) : Nat :=
  (s.faults.retiredUnits.filter fun u => u.1 = 5 && u.2 / 8 = cluster).length

/-- A correction engine fenced, with its cluster where four or more are, and half-mast where no cluster of its half is left
(R455). -/
def fenceEngine (engine : Nat) (s : State) : State :=
  let s := retireUnit 5 engine s
  let c := engine / 8
  if 4 ≤ s.fenced c && !s.retired 6 c then
    let s := retireUnit 6 c s
    let half := c / 16
    if (List.range 16).all fun k => s.retired 6 (16 * half + k) then s.halfMastCause 7 else s
  else s

/-- A request FAULTED at the beat of a classification (R265, R269). -/
def faultRequest (q : Nat) (s : State) : State :=
  let e := s.entry q
  if e.state = 0 || e.state = 5 || e.state = 6 then s
  else finishEntry q 6 6 0 (leaveOut q s)

/-- Masthead restarts: the boot ROM reloads its code and its SRAM is lost, so records not yet in flash are counted; a second
restart within 1,048,576 beats resets the device with cause 2, which the caller starts (R466). -/
def restartMasthead (detector : Nat) (s : State) : State :=
  let lost := s.recsHeld.length
  let again := match s.masthead.lastRestart with
    | some b => decide (s.beat < b + 1048576)
    | none => false
  let s := s.bump 0x7000 0x02 lost
  let r := { newRec s 7 detector with action := 6, unitClass := 10 }
  let kept := s.masthead.jobs.filter fun j => match j with | .record _ => false | _ => true
  { s with
    masthead := { s.masthead with
      on := false, restartEnd := some (s.beat + 156250), lastRestart := some s.beat, taken := [], notices := [], noticeCount := 0
      jobs := kept ++ [.record r] }
    power := if again then { s.power with resetDue := some 3 } else s.power }

/-- What a permanent fault takes out, with the ACTION code of its record (R455). -/
def permanentAction (e : ErrAt) (s : State) : Nat × State :=
  if e.unitClass = 1 then
    let s := retireUnit 1 e.unit s
    if e.context = 0xFFFF then (2, s) else (3, resetContextCause e.context true s)
  else if e.unitClass = 2 then (2, loseDie e.unit s)
  else if e.unitClass = 3 || e.unitClass = 4 then
    if e.detector = 4 then
      (5, { s with load := { s.load with refetch := some (e.unit, e.address) } })
    else if e.detector = 6 then
      (3, if e.context = 0xFFFF then s else resetContextCause e.context true s)
    else (4, retirePage (e.address / 65536) (faultRequest e.entry s))
  else if e.unitClass = 5 then (2, fenceEngine e.unit s)
  else if e.unitClass = 6 then (2, (List.range 4).foldl (fun s k => fenceEngine (8 * e.unit + k) s) s)
  else if e.unitClass = 7 then (2, retireArray e.unit s)
  else if e.unitClass = 8 then (2, loseDie e.unit s)
  else if e.unitClass = 9 then (7, s.halfMastCause 5)
  else if e.unitClass = 10 then (6, restartMasthead e.detector s)
  else (0, s)

/-- The same detector at the same unit and address (R454). -/
def sameFault (a b : ErrAt) : Bool :=
  a.detector = b.detector && a.unitClass = b.unitClass && a.unit = b.unit && a.space = b.space && a.address = b.address

/-- A record of an error. -/
def errorRec (s : State) (e : ErrAt) (kind classification action : Nat) : FaultRec :=
  { newRec s kind e.detector with
    classification := classification, unitClass := e.unitClass, action := action, unit := e.unit, context := e.context,
    entry := e.entry, layer := e.layer, space := e.space, address := e.address }

/-- A detected error: counted and logged; one that repeats an unclassified error at the same unit and address is permanent
and takes the unit out, once (R450, R454, R455, R457). -/
def detectError (e : ErrAt) (s : State) : State :=
  let s := s.bump 0x7001 0x01 1
  if s.faults.unclassified.any (sameFault e) then
    let s := { s with faults := { s.faults with unclassified := s.faults.unclassified.filter fun x => !sameFault e x } }
    let s := s.bump 0x7001 0x04 1
    if s.retired (e.unitClass + 100) (e.unit * 2 ^ 48 + e.address) then s
    else
      let s := retireUnit (e.unitClass + 100) (e.unit * 2 ^ 48 + e.address) s
      let (act, s) := permanentAction e s
      s.log (errorRec s e 2 2 act)
  else
    let s := { s with faults := { s.faults with unclassified := s.faults.unclassified ++ [e] } }
    s.log (errorRec s e 1 0 1)

/-- The repeat completed without error: what was unclassified was transient (R454). -/
def classifyTransient (s : State) : State :=
  let n := s.faults.unclassified.length
  if n = 0 then s
  else { (s.bump 0x7001 0x03 n) with faults := { s.faults with unclassified := [] } }

/-- An error that is permanent without a repeat, such as an uncorrectable word that the patrol scrubber finds (R454). -/
def permanentError (e : ErrAt) (s : State) : State :=
  let s := (s.bump 0x7001 0x01 1).bump 0x7001 0x04 1
  let (act, s) := permanentAction e s
  s.log (errorRec s e 2 2 act)

/-! ## The step's discard by a member (R25, R311, R456) -/

/-- This member's parent on the tail's region tree (R335). -/
def State.tailParent (s : State) : Nat := s.treeParent s.tailPos s.pos

/-- This member's children on the tail's region tree (R335). -/
def State.tailChildren (s : State) : List Nat := s.treeChildren s.tailPos s.otherMembers

/-- A STEP_DISCARD sent toward the tail, or held where this device is the tail, once for a step and reason (R25, R311). -/
def sendDiscard (reason : Nat) (entries : List Nat) (s : State) : State :=
  match s.fab.step with
  | none => s
  | some st =>
    if st.ackSent || st.resolved then s
    else
      let s := s.modStep fun st => { st with discardSent := true }
      if s.isTail then
        if st.decided then s else s.modStep fun st => { st with discards := st.discards ++ [(reason, entries)] }
      else if st.discardSent && reason = 1 then s
      else s.send (.packet 0 0x03 s.tailPos st.num ([st.num, st.run, reason, entries.length] ++ entries))

/-- An error of the step in flight: detected, kept for the step's REPORT, and the step discarded; the head learns its context by a REPORT (R25, R456). -/
def stepError (e : ErrAt) (s : State) : State :=
  let s := detectError e s
  let s := s.modStep fun st => { st with errors := st.errors ++ [e] }
  let s := { s with faults := { s.faults with seriesCtx := s.faults.seriesCtx ++ [e.context] } }
  let s := match s.fab.step with
    | none => s
    | some st =>
      if s.isHead then s.modFab fun f => { f with reports := f.reports ++ [(s.pos, st.run, [e.context])] }
      else s.report s.headPos (.errors s.pos st.num st.run [e.context])
  sendDiscard 1 [] s

/-- An error of the system in the step in flight: detector, unit class, unit and address (R450). -/
def stepErrorAt (detector cls unit address : Nat) (s : State) : State :=
  stepError ⟨detector, cls, unit, if address = 0 then 0 else 1, address, 0xFFFF, 0xFFFF, 0xFF⟩ s

/-! ## Half-mast (R467 to R470) -/

/-- How many beats of a list lie within a window that ends now. -/
def inWindow (now window : Nat) (l : List Nat) : Nat := (l.filter fun b => decide (now < b + window)).length

/-- A fault-caused context reset counted on this member, with the escalation of R468. -/
def countFaultReset (s : State) : State :=
  let s := { s with faults := { s.faults with resetBeats := s.faults.resetBeats ++ [s.beat] } }
  if s.rd 0x7002 0x01 ≤ inWindow s.beat (s.rd 0x7002 0x02) s.faults.resetBeats then s.halfMastCause 1 else s

/-- Entry to half-mast at a frame boundary after its causes (R467, R468): counted, reported and logged; held once the entries
within the window reach the limit. -/
def enterHalfMast (s : State) : State :=
  match s.faults.hmDue with
  | [] => s
  | cause :: _ =>
    if s.rd 0x7001 0x07 ≠ 0 then
      { s with faults := { s.faults with causes := s.faults.causes ++ s.faults.hmDue, hmDue := [] } }
    else
      let s := { s with faults := { s.faults with
        causes := s.faults.causes ++ s.faults.hmDue, hmDue := [], hmEntered := some s.beat,
        hmBeats := s.faults.hmBeats ++ [s.beat] } }
      let s := s.bump 0x7001 0x06 1
      let held := decide (s.rd 0x7002 0x03 ≤ inWindow s.beat (s.rd 0x7002 0x04) s.faults.hmBeats)
      let s := s.wr 0x7001 0x07 (if held then 2 else 1)
      let s := if s.rd 0x1000 0x08 = 0 then s.wr 0x1000 0x08 1 else s
      s.log { newRec s 5 0 with detail := cause }

/-- Return to service (R470). -/
def leaveHalfMastNow (s : State) : State :=
  let s := { s with faults := { s.faults with causes := [], hmEntered := none } }
  let s := s.wr 0x7001 0x07 0
  if s.rd 0x1000 0x08 = 1 then s.wr 0x1000 0x08 0 else s

/-- A forfeiture counted (R465); of a credit, an in-doubt hold or a watchdog it is logged too. -/
def forfeit (logged : Bool) (context : Nat) (s : State) : State :=
  let s := s.bump 0x7001 0x08 1
  if logged then s.log { newRec s 6 19 with context := context } else s

end Sys2Proof.Machine
end

