-- ==== Sys2Proof/Machine/Flags.lean ====
section
/-! DEFINITION. The strip flags of R136[6:0] and how they reach a token's flag word (R281); the settings that govern a step's
work from its start beat (R76, R164); what the checkers of digital work find (R143, R147, R163, R264, R459, R460). -/

namespace Sys2Proof.Machine
open Sys2Proof

/-! ## Flag bits -/

/-- SAT, bit 0. -/
def flagSat : Nat := 0
/-- ASAT, bit 1. -/
def flagAsat : Nat := 1
/-- LOWCONF, bit 2. -/
def flagLowconf : Nat := 2
/-- OVF, bit 3. -/
def flagOvf : Nat := 3
/-- OCLIP, bit 4. -/
def flagOclip : Nat := 4
/-- QMON, bit 5. -/
def flagQmon : Nat := 5
/-- DEGRADED, bit 6. -/
def flagDegraded : Nat := 6

/-- A flag word from a list of bits with their values. -/
def flagWord (l : List (Nat × Bool)) : Nat := l.foldl (fun w b => if b.2 then w ||| 2 ^ b.1 else w) 0

/-- Flags that take an output out of every bound: SAT, ASAT, LOWCONF, OCLIP, DEGRADED (R112). -/
def noBound (flags : Nat) : Bool := flags &&& 0b1010111 ≠ 0

/-- Flags that take an output out of the monitor's verdict: SAT, ASAT, LOWCONF (R116). -/
def noVerdict (flags : Nat) : Bool := flags &&& 0b111 ≠ 0

/-- The flag word of a token of the step takes the flags of a block that computes its row (R281). -/
def orFlags (token flags : Nat) (s : State) : State :=
  { s with work := { s.work with
      flagWords := sset 0 token (sget 0 token s.work.flagWords ||| flags % 128) s.work.flagWords } }

/-! ## Settings in effect at the step's start beat -/

/-- The step's work changed. -/
def State.modWork (s : State) (f : Work → Work) : State := { s with work := f s.work }

/-- A recipe object of a slot as it stood at the step's start beat (R76, R164). -/
def State.recipe (s : State) (slot sub : Nat) : Nat :=
  sget (objDefault (objKey (0x4100 + slot) sub 0)) (objKey (0x4100 + slot) sub 0) s.work.snap.recipe

/-- The gain register of an array at the step's start beat. -/
def State.gainAt (s : State) (a : Nat) : Nat := sget 4096 a s.work.snap.gains

/-- The temperature gain of an array at the step's start beat. -/
def State.gtAt (s : State) (a : Nat) : F32 := sget f32One a s.work.snap.gts

/-- The class B judgement of a strip: none, or its τ_B, 0 where it runs in class S with DEGRADED (R110). -/
def State.stripB (s : State) (mat cb strip : Nat) : Option Nat :=
  (s.work.snap.strips.find? fun x => x.1 = mat && x.2.1 = cb && x.2.2.1 = strip).map (·.2.2.2)

/-! ## The step and its tokens -/

/-- The step works on this member now: visible, started, not resolved, on a device in service (R52, R469). -/
def State.working (s : State) : Bool :=
  match s.fab.step with
  | some st => st.visible && st.started && !st.resolved && s.inService
  | none => false

/-- The length table of the step. -/
def State.lenTable (s : State) : List LenEntry :=
  match s.fab.step with
  | some st => st.len
  | none => []

/-- Tokens of the step (R243). -/
def State.tokenCount (s : State) : Nat := s.lenTable.foldl (fun n l => n + l.count) 0

/-- The line of the length table that holds a token. -/
def State.lineOf (s : State) (token : Nat) : Option LenEntry :=
  s.lenTable.find? fun l => decide (l.tokbase ≤ token) && decide (token < l.tokbase + l.count)

/-- The position of a token in its sequence. -/
def positionOf (l : LenEntry) (token : Nat) : Nat := l.start + (token - l.tokbase)

/-- The output head runs for every token of a GENERATE entry and for the last token of a PREFILL_LAST entry (R245). -/
def headToken (l : LenEntry) (token : Nat) : Bool :=
  l.kind = 0 || (l.kind = 2 && token + 1 = l.tokbase + l.count)

/-- A matrix of the image by its directory index. -/
def State.mat? (s : State) (m : Nat) : Option MatEntry := s.image.mats[m]?

/-- The layer that owns a matrix (R172). -/
def State.layerOf? (s : State) (m : Nat) : Option LayerEntry :=
  s.image.layers.find? fun l => decide (l.firstMat ≤ m) && decide (m < l.firstMat + l.matCount)

/-- The slot of a matrix. -/
def State.slotOfMat (s : State) (m : Nat) : Nat := match s.layerOf? m with | some l => l.slot | none => 0

/-! ## What the checkers find -/

/-- An error of the step in a unit of no context, in a layer. -/
def layerError (detector cls unit space address layer : Nat) (s : State) : State :=
  stepError ⟨detector, cls, unit, space, address, 0xFFFF, 0xFFFF, layer⟩ s

/-- A redundancy mismatch (R459, R460): a detected error naming the clusters; where it repeats, the result of the third run
says which cluster is fenced, or that the device enters half-mast. -/
def redundancyMismatch (cluster third layer : Nat) (s : State) : State :=
  let e : ErrAt := ⟨13, 6, cluster, 0, cluster ^^^ 1, 0xFFFF, 0xFFFF, layer⟩
  if s.faults.unclassified.any (sameFault e) then
    let s := { s with faults := { s.faults with unclassified := s.faults.unclassified.filter fun x => !sameFault e x } }
    let s := (s.bump 0x7001 0x01 1).bump 0x7001 0x04 1
    if third = 2 then
      let s := s.halfMastCause 8
      sendDiscard 1 [] (s.log (errorRec s e 2 2 7))
    else
      let e := { e with unit := if third = 1 then cluster else cluster ^^^ 1 }
      let (act, s) := permanentAction e s
      sendDiscard 1 [] (s.log (errorRec s e 2 2 act))
  else stepError e s

/-- What the checkers of a correction engine's work find on a layer slot: the state after it, and whether the work's result is
good (R147, R163, R459). -/
def engineCheck (hw : HwCheck) (slot mat : Nat) (s : State) : Bool × State :=
  match hw with
  | .clean => (true, s)
  | .residue e => (false, layerError 10 5 e 0 0 slot (s.bumpSlot slot 0x2B 1))
  | .corrected n => (true, (s.bumpSlot slot 0x29 n).bump 0x4201 0x05 n)
  | .uncorrectable a => (false, layerError 4 3 mat 1 a slot (s.bump 0x4201 0x06 1))
  | .mismatch c third =>
    if (s.fab.step.map (·.redundancy)).getD false then (false, redundancyMismatch c third slot s) else (true, s)

/-- What the checkers of the accumulation path find in a unit of a class (R143): only a residue mismatch exists there. -/
def accumCheck (hw : HwCheck) (slot cls unit : Nat) (s : State) : Bool × State :=
  match hw with
  | .residue _ => (false, layerError 9 cls unit 0 0 slot (s.bumpSlot slot 0x22 1))
  | _ => (true, s)

/-- What the checkers of work on the KV path find (R264, R265): an uncorrectable word names its request, and its page is the
unit. -/
def kvCheck (hw : HwCheck) (slot q : Nat) (s : State) : Bool × State :=
  match hw with
  | .corrected n => (true, s.bump 0x6001 0x07 n)
  | .uncorrectable a =>
    (false, stepError ⟨5, 3, a / 65536 % 65536, 1, a, (s.entry q).context, q, slot⟩ (s.bump 0x6001 0x08 1))
  | .residue e => (false, layerError 10 5 e 0 0 slot (s.bumpSlot slot 0x2B 1))
  | h => engineCheck h slot 0 s

end Sys2Proof.Machine
end

