-- ==== Sys2Proof/Machine/Arrays.lean ====
section
/-! DEFINITION. Array reads: slices, active rows and groups (R67 to R79), conversions with band fallback and escalation (R80
to R82), read totals (R124 to R126), the confidence check, repeats and means (R84 to R91), leaves (R66, R127), the drift
accumulators (R101) and the idle time after a read group (R98, R415, R440). -/

namespace Sys2Proof.Machine
open Sys2Proof

/-! ## Geometry (R60 to R62) -/

/-- The physical column of logical column L by default (R61). -/
def physCol (l : Nat) : Nat := 35 * (l / 32) + 3 + l % 32

/-- The physical column of spare S(n) (R60). -/
def spareCol (n : Nat) : Nat := 35 * (n / 2) + 1 + n % 2

/-- The physical column of reference column RC q (R60). -/
def refCol (q : Nat) : Nat := 35 * q

/-- The level that the array stores at a physical column and row, in u. -/
def cellLevel (a : Arr) (col row : Nat) : Int := sget 0 (1024 * col + row) a.cells

/-- Rows K′ of a row block of a matrix (R65). -/
def blockRows (m : MatEntry) (rb : Nat) : Nat := min 1024 (m.k - 1024 * rb)

/-! ## Slices, counts and groups (R68, R77 to R79) -/

/-- Slice p of a drive value: two bits, the top one signed (R68). -/
def sliceOf (x : Int) (p : Nat) : Int :=
  let f := intBits 8 x / 4 ^ p % 4
  if p = 3 && 2 ≤ f then (f : Int) - 4 else f

/-- The rows of a drive vector with their values. -/
def driveRows (drive : List Int) : List (Nat × Int) := (List.range drive.length).zip drive

/-- n[p][b]: the driven rows of band b whose slice in phase p is not zero (R77). -/
def activeRows (drive : List Int) (p b : Nat) : Nat :=
  ((driveRows drive).filter fun r => r.1 / 256 = b && sliceOf r.2 p ≠ 0).length

/-- The bands with an active row in a phase. -/
def activeBands (drive : List Int) (p : Nat) : List Nat := (List.range 4).filter fun b => activeRows drive p b ≠ 0

/-- The groups of PREDICT_SPLIT in the order formed (R78). -/
def splitGroups (drive : List Int) (p limit : Nat) : List (List Nat) :=
  let r := (activeBands drive p).foldl (fun (a : List (List Nat) × List Nat × Nat) b =>
    let n := activeRows drive p b
    if !a.2.1.isEmpty && limit < a.2.2 + n then (a.1 ++ [a.2.1], [b], n) else (a.1, a.2.1 ++ [b], a.2.2 + n)) ([], [], 0)
  if r.2.1.isEmpty then r.1 else r.1 ++ [r.2.1]

/-- The active-row limit: the recipe's, or the default of R79 for a format (0 T1, 1 W2) and range. -/
def rowLimit (limit fmt range : Nat) : Nat :=
  if limit ≠ 0 then limit
  else if fmt = 0 then [6, 24, 96, 384].getD range 384 else [10, 43, 172, 691].getD range 691

/-! ## Conversions (R72, R80 to R82) -/

/-- How a read runs: the array, its drive vector, policy (0 PREDICT_SPLIT, 1 SATURATE_RETRY, 2 CLIP_FLAG), range, active-row
limit, and the number of the first free value that its conversions draw. -/
structure ReadRun where
  arr : Arr
  drive : List Int
  policy : Nat
  range : Nat
  limit : Nat
  draw : Nat

/-- The ideal phase sum of a column over some bands (R68). -/
def phaseSum (a : Arr) (drive : List Int) (p col : Nat) (bands : List Nat) : Int :=
  (driveRows drive).foldl (fun n r =>
    if bands.contains (r.1 / 256) then n + sliceOf r.2 p * cellLevel a col r.1 else n) 0

/-- The code of one conversion: the ideal sum at the range, moved by an error that the manual leaves to the analogue part, at
the converter's limits (R71, R72). -/
def convert (rr : ReadRun) (p col sub range : Nat) (bands : List Nat) : Int :=
  clampInt (-128) 127
    (divEvenInt (phaseSum rr.arr rr.drive p col bands) (2 ^ range) + Config.analogueError (rr.draw + 560 * sub + col))

/-- A code that is a code limit (R72). -/
def atLimit (k : Int) : Bool := k = -128 || k = 127

/-- What is settled of a column: its value in u at weight 1, whether a conversion of it stands at a code limit, and Σ LSB. -/
abbrev Settled := Int × Bool × Nat

/-- A read in progress: sub-phases run, the columns so far, and the four counts of R82. -/
structure Conv where
  sub : Nat
  cols : List Settled
  groups : Nat
  fallbacks : Nat
  escalations : Nat
  standing : Nat

/-- The conversions of one sub-phase, by physical column. -/
def codesOf (rr : ReadRun) (p sub range : Nat) (bands : List Nat) : List Int :=
  (List.range 560).map fun c => convert rr p c sub range bands

/-- How many are TRUE. -/
def countTrue (l : List Bool) : Nat := (l.filter id).length

/-- A sub-phase of a single band for the columns that need it, with its escalation (R80, R81). -/
def settleSingle (rr : ReadRun) (p band : Nat) (need : List Bool) (c : Conv) : List Settled × Conv :=
  let ks := codesOf rr p c.sub rr.range [band]
  let lim := List.zipWith (fun k n => n && atLimit k) ks need
  let c := { c with sub := c.sub + 1 }
  let unit : Nat := 2 ^ rr.range
  if rr.policy = 2 || rr.range = 3 || countTrue lim = 0 then
    (List.zipWith (fun k (b : Bool) => (k * (unit : Int), b, unit)) ks lim, { c with standing := c.standing + countTrue lim })
  else
    let es := codesOf rr p c.sub 3 [band]
    let out := List.zipWith (fun (ke : Int × Int) (b : Bool) =>
      if b then (ke.2 * 8, atLimit ke.2, 8) else (ke.1 * (unit : Int), false, unit)) (ks.zip es) lim
    let stand := countTrue (List.zipWith (fun e b => b && atLimit e) es lim)
    (out, { c with sub := c.sub + 1, escalations := c.escalations + 1, standing := c.standing + stand })

/-- Settled values of two sub-phases of one phase added. -/
def addSettled (x y : Settled) : Settled := (x.1 + y.1, x.2.1 || y.2.1, x.2.2 + y.2.2)

/-- A group driven as one sub-phase, with what R80 and R81 insert after it. -/
def settleGroup (rr : ReadRun) (p : Nat) (bands : List Nat) (c : Conv) : List Settled × Conv :=
  match bands with
  | [b] => settleSingle rr p b (List.replicate 560 true) c
  | _ =>
    let ks := codesOf rr p c.sub rr.range bands
    let lim := ks.map atLimit
    let c := { c with sub := c.sub + 1 }
    let unit : Nat := 2 ^ rr.range
    if rr.policy = 2 || countTrue lim = 0 then
      (List.zipWith (fun k (b : Bool) => (k * (unit : Int), b, unit)) ks lim, { c with standing := c.standing + countTrue lim })
    else
      let r := bands.foldl (fun (a : List Settled × Conv) b =>
        let x := settleSingle rr p b lim { a.2 with fallbacks := a.2.fallbacks + 1 }
        (List.zipWith addSettled a.1 x.1, x.2)) (List.replicate 560 (0, false, 0), c)
      (List.zipWith (fun (kl : Int × Bool) (f : Settled) => if kl.2 then f else (kl.1 * (unit : Int), false, unit)) (ks.zip lim) r.1, r.2)

/-- One phase: its groups in order, each settled value entering the column at the phase's weight (R74, R124). -/
def runPhase (rr : ReadRun) (c : Conv) (p : Nat) : Conv :=
  let act := activeBands rr.drive p
  if act.isEmpty then c
  else
    let groups := if rr.policy = 0 then splitGroups rr.drive p rr.limit else [act]
    let c := if 2 ≤ groups.length then { c with groups := c.groups + 1 } else c
    groups.foldl (fun c g =>
      let r := settleGroup rr p g c
      { r.2 with cols := List.zipWith (fun (t x : Settled) => (t.1 + x.1 * 4 ^ p, t.2.1 || x.2.1, t.2.2 + x.2.2 * 4 ^ p)) r.2.cols r.1 }) c

/-- A whole read: phases P0 to P3 (R70). -/
def runRead (rr : ReadRun) : Conv := [0, 1, 2, 3].foldl (runPhase rr) ⟨0, List.replicate 560 (0, false, 0), 0, 0, 0, 0⟩

/-- What a read delivers: totals, columns with a conversion that stands at a limit, and Σ 4^p · LSB of the references. -/
def readOut (c : Conv) : ReadOut :=
  ⟨c.cols.map (·.1), c.cols.map (·.2.1), (List.range 16).map fun q => (c.cols.getD (refCol q) (0, false, 0)).2.2⟩

/-! ## Reference columns (R84 to R86, R101) -/

/-- LEVEL and MASK of reference column q (R84). -/
def refPattern (q : Nat) : Nat × Nat :=
  [(3, 0x01), (3, 0x02), (3, 0x04), (3, 0x08), (3, 0x10), (3, 0x20), (3, 0x40), (3, 0x80),
   (1, 0x03), (1, 0x05), (1, 0x09), (1, 0x11), (1, 0x21), (1, 0x41), (1, 0x81), (1, 0xFF)].getD q (1, 0xFF)

/-- The number of ones among the low ten bits. -/
def popcount (n : Nat) : Nat := ((List.range 10).filter fun i => n.testBit i).length

/-- The sign of a reference column at a row. -/
def refSign (q row : Nat) : Int := if popcount (row &&& (refPattern q).2) % 2 = 0 then 1 else -1

/-- The exact reference product r_q (R85). -/
def refProduct (drive : List Int) (q : Nat) : Int :=
  (driveRows drive).foldl (fun n r => n + r.2 * refSign q r.1 * (refPattern q).1) 0

/-- A = Σ |x_i| over driven rows (R85). -/
def driveSum (drive : List Int) : Nat := drive.foldl (fun n x => n + x.natAbs) 0

/-- The serviceable reference columns of an array (R63). -/
def goodRefs (a : Arr) : List Nat := (List.range 16).filter fun q => !a.badCols.contains (refCol q)

/-- The check of R86 on totals, with Σ 4^p · LSB of each reference: TRUE where it passes. Both sides are taken at 2^16 times
their value; `gain` is the gain register and `tau` the threshold in units of 2^−16. -/
def checkPasses (refs : List Nat) (gain tau asum : Nat) (rprod totals : List Int) (qsum : List Nat) : Bool :=
  refs.all fun q =>
    decide (((gain * 16 : Nat) * totals.getD (refCol q) 0 - 65536 * rprod.getD q 0).natAbs
      ≤ tau * 3 * asum + 8 * gain * qsum.getD q 0)

/-- A read's contribution to its array's drift estimate: none where a conversion of RC0 to RC7 stands at a limit (R101). -/
def accumulateDrift (a : Nat) (gt : F32) (rprod : List Int) (o : ReadOut) (s : State) : State :=
  if (List.range 8).any fun q => o.limited.getD (refCol q) false then s
  else
    s.modArr a fun x =>
      (goodRefs x).foldl (fun x q =>
        let r := rprod.getD q 0
        let t := Config.driftTerm gt (o.totals.getD (refCol q) 0 * r)
        if q < 8 then { x with sxy3 := x.sxy3 + t, sxx3 := x.sxx3 + r * r }
        else { x with sxy1 := x.sxy1 + t, sxx1 := x.sxx1 + r * r }) x

/-- The read's step is a rerun because of an error in the array (R101). -/
def State.rerunOfArray (s : State) (a : Nat) : Bool :=
  (s.fab.step.map fun st => decide (2 ≤ st.run)).getD false &&
    s.faults.unclassified.any fun e => e.unitClass = 7 && e.unit = a

/-! ## The records of reads -/

/-- A read record. -/
def State.readRec? (s : State) (rid : Nat) : Option ReadRec := s.work.reads.find? fun r => r.rid = rid

/-- A read record changed. -/
def State.modRead (s : State) (rid : Nat) (f : ReadRec → ReadRec) : State :=
  s.modWork fun w => { w with reads := w.reads.map fun r => if r.rid = rid then f r else r }

/-- Another read group holds the array: one converts or repeats on it, or its idle time runs (R74, R89, R98). -/
def State.arrayBusy (s : State) (a rid : Nat) : Bool :=
  s.work.reads.any fun r => r.arr = a && r.rid ≠ rid && (r.phase = .converted || r.phase = .repeating || r.phase = .idle)

/-- The die is inside its calibration window or under an array test (R76, R420, R518). -/
def State.dieInWindow (s : State) (d : Nat) : Bool :=
  (match s.cal.current with | some w => w.die = d | none => false)

/-- The array can be read: its die's links stand and the die is outside its calibration window (R19, R76). -/
def State.readable (s : State) (a : Nat) : Bool := !(s.die (dieOf a)).lost && !s.dieInWindow (dieOf a)

/-- The read count of the quality monitor advances, and a read that reaches a whole multiple of the interval has its strip
sampled, block 0 of its column block (R114). -/
def countRead (r : ReadRec) (s : State) : State :=
  if s.rd 0x4200 0x02 = 0 then s
  else
    let s := { s with monReads := s.monReads + 1 }
    if s.monReads % s.rd 0x4200 0x01 = 0 then
      s.modWork fun w => { w with samplesDue := w.samplesDue ++ [⟨r.rid, r.mat, r.token, 16 * r.cb⟩] }
    else s

/-- ARRAY_READ (R73, R74, R80 to R82, R90): one read of the group, first or repeat. It waits while the array idles or is busy
or its die is inside a calibration window. -/
def arrayRead (rid : Nat) (hw : HwCheck) (s : State) : State :=
  match s.readRec? rid with
  | none => s
  | some r =>
    let first := r.phase = .driven
    let again := r.phase = .repeating && decide (r.reads.length < 1 + r.repeats)
    if !s.working || !(first || again) || !s.readable r.arr || (first && (s.arrayBusy r.arr rid)) then s
    else
      let m := (s.mat? r.mat).getD default
      let range := s.recipe r.slot 2
      let rr : ReadRun := ⟨s.arr r.arr, r.drive, s.recipe r.slot 1, range, rowLimit (s.recipe r.slot 3) m.fmt range, s.draws⟩
      let c := runRead rr
      let s := { s with draws := s.draws + 560 * c.sub }
      let s := ((((s.bumpSlot r.slot 0x10 c.groups).bumpSlot r.slot 0x11 c.fallbacks).bumpSlot r.slot 0x12 c.escalations).bumpSlot
        r.slot 0x13 c.standing).bumpSlot r.slot 0x17 c.sub
      let s := if first then s else s.bumpSlot r.slot 0x15 1
      let s := if r.classB then s.bumpSlot r.slot 0x1D 1 else s
      let s := countRead r s
      let s := s.modRead rid fun r => { r with
        reads := r.reads ++ [readOut c]
        subphases := r.subphases + c.sub
        took := r.took + 50 * c.sub
        phase := if first then .converted else .repeating }
      (accumCheck hw r.slot 7 r.arr s).2

/-- The meaning of ARRAY_READ. -/
def execArrayRead (rid : Nat) (hw : HwCheck) (s : State) : Res := doneQuiet s (arrayRead rid hw s)

/-! ## Leaves (R62, R66, R127) -/

/-- The mean of the reads of a group for one physical column, ties to even (R89). -/
def meanOf (reads : List ReadOut) (col : Nat) : Int :=
  divEvenInt (reads.foldl (fun n o => n + o.totals.getD col 0) 0) reads.length

/-- A conversion of the column stands at a limit in some read of the group (R83, R90). -/
def limitedIn (reads : List ReadOut) (col : Nat) : Bool := reads.any fun o => o.limited.getD col false

/-- The hot spare of a logical column (R62). -/
def hotSpare (a : Arr) (l : Nat) : Option Nat := (a.spares.find? fun x => x.2 = .hot l).map (·.1)

/-- The duplicate of a logical column (R62). -/
def dupSpare (a : Arr) (l : Nat) : Option Nat := (a.spares.find? fun x => x.2 = .dup l).map (·.1)

/-- A logical column with neither a serviceable default column nor a hot spare (R62). -/
def lostCol (a : Arr) (l : Nat) : Bool := a.badCols.contains (physCol l) && (hotSpare a l).isNone

/-- The leaf value of a logical column, with whether it includes a conversion that stands at a limit: repeats, then duplicates,
then hot spares; a lost column gives zero (R62, R66, R127). -/
def leafOf (a : Arr) (reads : List ReadOut) (dup : Bool) (l : Nat) : Int × Bool :=
  let p := physCol l
  let v := meanOf reads p
  let b := limitedIn reads p
  if a.badCols.contains p then
    match hotSpare a l with
    | some k => (meanOf reads (spareCol k), limitedIn reads (spareCol k))
    | none => (0, false)
  else
    match if dup then dupSpare a l else none with
    | none => (v, b)
    | some k =>
      let d := meanOf reads (spareCol k)
      let e := limitedIn reads (spareCol k)
      if b && !e then (d, false) else if e && !b then (v, false) else (divEvenInt (v + d) 2, b)

/-- The throttle level's duty limits act from the first tick of the beat after the evaluation that entered it (R414, R415). -/
def State.throttled (s : State) : Bool :=
  match s.power.throttleFrom with
  | some b => decide (b ≤ s.beat)
  | none => false

/-- The idle time that follows a read group, in ns: the longest of R98 in T4, R415 under throttle and R440 at a duty of
d/8. -/
def State.idleTime (s : State) (a took : Nat) : Nat :=
  let t4 := if s.work.snap.bands.getD (dieOf a) 4 = 4 then took else 0
  let thr := if s.throttled then 3 * took else 0
  let d := s.power.duty8
  let duty := if d = 0 then 0 else ceilDiv (took * (8 - d)) d
  max t4 (max thr duty)

/-- The group ends: its leaves are formed, LOWCONF is counted, and the array's idle time begins (R62, R63, R88, R89, R106). -/
def deliverRead (r : ReadRec) (failed : Bool) (checkTime : Nat) (s : State) : State :=
  let a := s.arr r.arr
  let dup := s.recipe r.slot 6 = 1
  let leaves := (List.range 512).map (leafOf a r.reads dup)
  let few := decide ((goodRefs a).length < 12)
  let lowconf := failed || few || a.failed || (List.range 512).any (lostCol a)
  let s := if few && !a.retired then retireArray r.arr s else s
  let s := if lowconf then s.bumpSlot r.slot 0x16 1 else s
  let took := r.took + checkTime
  let idle := s.idleTime r.arr took
  let s := if idle = 0 then s else s.modArr r.arr fun x => { x with idleUntil := s.count.toNat + idle }
  s.modRead r.rid fun r => { r with
    leaf := leaves.map (·.1), sat := leaves.map (·.2), lowconf := lowconf, took := took
    phase := if idle = 0 then .done else .idle }

/-- A first check counted for its array in the present frame (R191); frames older than 1,024 go. -/
def countCheck (a : Nat) (failed : Bool) (s : State) : State :=
  let f := s.beat / s.frameLen
  s.modArr a fun x =>
    let old := x.checks.filter fun c => decide (f < c.1 + 1024)
    { x with checks := match old with
        | c :: l => if c.1 = f then (f, c.2.1 + 1, c.2.2 + b2n failed) :: l else (f, 1, b2n failed) :: c :: l
        | [] => [(f, 1, b2n failed)] }

/-- CONFIDENCE_CHECK (R86 to R88): the first read is checked; it passes, goes on to its repeats, or is delivered with
LOWCONF. -/
def confidenceCheck (rid : Nat) (s : State) : State :=
  match s.readRec? rid with
  | none => s
  | some r =>
    match r.reads with
    | [o] =>
      if r.phase ≠ .converted || !s.working then s
      else
        let s := if s.rerunOfArray r.arr then s else accumulateDrift r.arr r.gtRead r.rprod o s
        let ok := checkPasses (goodRefs (s.arr r.arr)) (s.gainAt r.arr) r.tau r.asum r.rprod o.totals o.qsum
        let s := countCheck r.arr (!ok) s
        if ok then deliverRead r false 10 s
        else
          let s := s.bumpSlot r.slot 0x14 1
          if r.repeats = 0 then deliverRead r true 10 s
          else s.modRead rid fun r => { r with phase := .repeating, took := r.took + 10 }
    | _ => s

/-- The meaning of CONFIDENCE_CHECK. -/
def execConfidenceCheck (rid : Nat) (s : State) : Res := doneQuiet s (confidenceCheck rid s)

/-- REPEAT_READ_MEAN (R89 to R91): the mean of the group is formed for every column and checked once, with the largest Q_q. -/
def repeatReadMean (rid : Nat) (hw : HwCheck) (s : State) : State :=
  match s.readRec? rid with
  | none => s
  | some r =>
    if r.phase ≠ .repeating || r.reads.length ≠ 1 + r.repeats || !s.working then s
    else
      let k := accumCheck hw r.slot 7 r.arr s
      if !k.1 then k.2
      else
        let s := if k.2.rerunOfArray r.arr then k.2
          else (r.reads.drop 1).foldl (fun s o => accumulateDrift r.arr r.gtRead r.rprod o s) k.2
        let totals := (List.range 560).map (meanOf r.reads)
        let qmax := (List.range 16).map fun q => r.reads.foldl (fun m o => max m (o.qsum.getD q 0)) 0
        let ok := checkPasses (goodRefs (s.arr r.arr)) (s.gainAt r.arr) r.tau r.asum r.rprod totals qmax
        deliverRead r (!ok) 10 s

/-- The meaning of REPEAT_READ_MEAN. -/
def execRepeatReadMean (rid : Nat) (hw : HwCheck) (s : State) : Res := doneQuiet s (repeatReadMean rid hw s)

/-- READ_GROUP_IDLE_END (R98, R415, R440): once its idle time has passed the array may start its next read. -/
def readGroupIdleEnd (a : Nat) (s : State) : State :=
  if (s.arr a).idleUntil = 0 || decide (s.count.toNat < (s.arr a).idleUntil) then s
  else
    (s.modArr a fun x => { x with idleUntil := 0 }).modWork fun w => { w with
      reads := w.reads.map fun r => if r.arr = a && r.phase = .idle then { r with phase := .done } else r }

/-- The meaning of READ_GROUP_IDLE_END. -/
def execReadGroupIdleEnd (arr : Nat) (s : State) : Res := doneQuiet s (readGroupIdleEnd arr s)

end Sys2Proof.Machine
end

