-- ==== Sys2Proof/Machine/Fabric.lean ====
section
/-! DEFINITION. Held multicasts and their acknowledgement (R331 to R334), the region commit (R335 to R339, R545), the discard
and rerun of a step (R451 to R453, R456), and the fabric bounds (R325). -/

namespace Sys2Proof.Machine
open Sys2Proof

/-- L1, one leg on VC0 or VC1, in beats (R325). -/
def State.legBeats (s : State) : Nat := s.rd 0x3102 0x02

/-- CL, the commit lead, in beats (R325). -/
def State.commitLead (s : State) : Nat := s.rd 0x3102 0x03

/-- The smallest stagger slot among the members (R336). -/
def State.minSlot (s : State) : Nat := s.members.foldl (fun m p => min m (slotOf p)) 63

/-- C_n of a step whose frame boundary is F (R336). -/
def State.commitDeadlineOf (s : State) (frame : Nat) : Nat := frame + s.frameLen + s.minSlot - 1

/-- A step as its BATCH lays it down. -/
def stepOf (b : BatchMsg) (visible : Bool) : Step where
  num := b.step
  run := b.run
  frame := b.frame
  len := b.len
  admits := b.admits
  cands := b.cands
  visible := visible
  started := false
  workDone := false
  ackSent := false
  childAcks := []
  discardSent := false
  discards := []
  decided := false
  decision := none
  released := false
  withdrawn := false
  errors := []
  tokens := []
  leftOut := []
  deferred := []
  resolved := false
  redundancy := false

/-! ## A copy becomes visible -/

/-- Backing on a member other than the head when a BATCH becomes visible: the sequences whose pages the pool could not supply
are named in a STEP_DISCARD of reason POOL and wait for pages (R237). -/
def backMember (len : List LenEntry) (s : State) : State :=
  let r := len.foldl (fun (a : List Nat × State) l =>
    let b := backEntry l.req l.start l.count a.2
    if b.1 then (a.1, b.2)
    else (a.1 ++ [l.req], (b.2.modEntry l.req fun e =>
      { e with poolWait := true, awaiting := a.2.chunksOf l.start l.count }).bump 0x6001 0x05 1)) ([], s)
  if r.1.isEmpty then r.2 else sendDiscard 2 r.1 r.2

/-- A released copy takes effect at this member (R332): a BATCH is the step that it starts in its slot, a DECISION is the
step's outcome, an expert dispatch is work to do. -/
def makeVisible (body : McBody) (s : State) : State :=
  match body with
  | .batch b =>
    if s.fab.inDoubt.isSome then s
    else if s.isHead then s.modStep fun st => { st with visible := true }
    else
      let s := b.admits.foldl (fun s a => learnEntry a s) s
      backMember b.len (s.modFab fun f => { f with step := some (stepOf b true) })
  | .decision d =>
    let s := s.modStep fun st =>
      if st.num = d.step then { st with decided := true, decision := some d, released := true } else st
    if s.isTail then s.modFab fun f => { f with decisions := (f.decisions ++ [d]).drop (f.decisions.length - 1023) } else s
  | .mcdata m => { s with work := { s.work with dispatches := s.work.dispatches ++ [m] } }

/-- RELEASE or WITHDRAW sent to the children on a sender's tree (R332). -/
def forwardDown (ptype sender mcnum : Nat) (s : State) : State :=
  s.sendAll ((s.treeChildren sender s.otherMembers).map fun c => .packet 0 ptype c mcnum [mcnum])

/-- The sender holds every MACK: RELEASE goes down the tree and its own copy becomes visible (R332). -/
def releaseOwn (mcnum : Nat) (s : State) : State :=
  match s.fab.outs.find? fun o => o.mcnum = mcnum && !o.closed with
  | none => s
  | some o =>
    let s := forwardDown 0x06 s.pos mcnum s
    let s := s.modFab fun f => { f with outs := f.outs.filter fun o => o.mcnum ≠ mcnum }
    makeVisible o.body s

/-- A held multicast sent by this device to targets; the deadline is where its MACKs must be in (R331, R332). -/
def sendHeld (body : McBody) (deadline : Nat) (targets : List Nat) (s : State) : State :=
  let (mc, s) := s.takeMcnum
  let others := targets.filter (· ≠ s.pos)
  let s := s.modFab fun f => { f with outs := f.outs ++ [⟨mc, deadline, others.length, [], false, body⟩] }
  if others.isEmpty then releaseOwn mc s else s.send (.multicast mc deadline others body)

/-! ## Deciding on the tail (R335, R336, R545) -/

/-- The accepted count of an entry: candidates that equal the outputs before them (R254). -/
def acceptedCount : List Nat → List Nat → Nat
  | c :: cs, t :: ts => if c = t then 1 + acceptedCount cs ts else 0
  | _, _ => 0

/-- The candidates of an entry in the step. -/
def candsOf (st : Step) (q : Nat) : List Nat :=
  match st.cands.find? fun c => c.entry = q with
  | some c => c.tokens
  | none => []

/-- The output tokens of an entry's rows in the step. -/
def outputsOf (st : Step) (q : Nat) : List Nat :=
  match st.tokens.find? fun t => t.1 = q with
  | some t => t.2
  | none => []

/-- The tokens that the tail takes from a line, up to the first that meets a condition of R270, and whether one did. -/
def takeTokens (s : State) (e : Entry) (start : Nat) : List Nat → Nat → Nat → List Nat × Bool
  | [], _, _ => ([], false)
  | t :: ts, n, i =>
    let n := n + 1
    if t = e.stop && e.stop ≠ 0xFFFFFFFF || (e.maxNew ≠ 0 && n = e.maxNew) || start + i + 1 = s.maxCtx then ([t], true)
    else
      let r := takeTokens s e start ts n (i + 1)
      (t :: r.1, r.2)

/-- The image holds an OUTPUT_HEAD slot (R326). -/
def hasOutputHead (img : Image) : Bool := img.layers.any fun l => l.kind = 6

/-- The line of a DECISION(COMMIT) for a line of the length table (R254, R270, R313). -/
def decisionLine (s : State) (st : Step) (l : LenEntry) : DecRec :=
  let e := s.entry l.req
  let outs := outputsOf st l.req
  let a := if l.kind = 0 then acceptedCount (candsOf st l.req) outs else 0
  let toks := if l.kind = 0 then outs.take (a + 1) else if l.kind = 2 then outs.take 1 else []
  let first := if l.kind = 0 then l.start else l.start + l.count - 1
  let stop := (takeTokens s e first toks e.tokensOut 0).2
  let has (p : SchedMsg → Bool) : Bool := st.deferred.any fun m => p m
  let cancel := has fun m => m.cmd = 2 && m.target = l.req
  let disable := has fun m => (m.cmd = 5 && m.target = e.burgee) || (m.cmd = 6 && m.target = e.context)
  let dip := has fun m => m.cmd = 3 && m.target = l.req
  let mark := b2n stop + 2 * b2n (st.leftOut.contains l.req) + 4 * b2n (stop && cancel) + 8 * b2n (!stop && cancel)
    + 16 * b2n disable + 32 * b2n dip
  ⟨l.req, a, mark⟩

/-- Members that the tail holds acknowledged, itself included once its own work is done (R335). -/
def ackedCount (st : Step) : Nat := (if st.workDone then 1 else 0) + st.childAcks.foldl (fun n c => n + c.2) 0

/-- A DECISION sent by the tail with its commit beat (R336, R313). -/
def sendDecision (outcome c : Nat) (recs : List DecRec) (s : State) : State :=
  match s.fab.step with
  | none => s
  | some st =>
    let d : DecMsg := ⟨st.num, st.run, outcome, c, recs⟩
    let s := s.modStep fun st => { st with decided := true, decision := some d }
    sendHeld (.decision d) (c - s.legBeats) s.members s

/-- The entries that the STEP_DISCARDs of reason POOL name, with MARK bit 6 (R545). -/
def poolRecs (st : Step) : List DecRec :=
  (((st.discards.filter fun d => d.1 = 2).flatMap (·.2)).eraseDups).map fun q => ⟨q, 0, 64⟩

/-- The outcome of a DISCARD (R545). -/
def discardOutcome (st : Step) : Nat :=
  if st.discards.any fun d => d.1 = 1 then 2 else if st.discards.isEmpty then 0 else 3

/-- The tail decides as soon as it holds every acknowledgement, or a discard (R336). -/
def tryDecide (s : State) : State :=
  match s.fab.step with
  | none => s
  | some st =>
    let cn := s.commitDeadlineOf st.frame
    let c := s.beat + s.commitLead
    if !s.isTail || st.decided || st.resolved || cn < c then s
    else if !st.discards.isEmpty then sendDecision (discardOutcome st) c (poolRecs st) s
    else if ackedCount st = s.memberCount && st.workDone && s.inService then
      sendDecision 1 c (st.len.map (decisionLine s st)) s
    else s

/-- Some strip in service has lost every array with its die and waits for its move (R193). -/
def State.stripLost (s : State) : Bool :=
  s.img.isSome && s.arrays.any fun x =>
    match x.2.place with
    | none => false
    | some p => (s.die (dieOf x.1)).lost && s.arrays.all fun y =>
        match y.2.place with
        | none => true
        | some q => q.mat ≠ p.mat || q.cb ≠ p.cb || q.strip ≠ p.strip || (s.die (dieOf y.1)).lost

/-- A member sends its STEP_ACK once its work is done and every child has acknowledged; the tail decides instead (R335). -/
def tryAck (s : State) : State :=
  match s.fab.step with
  | none => s
  | some st =>
    let kids := s.tailChildren
    let all := kids.all fun c => st.childAcks.any fun a => a.1 = c
    if !st.workDone || !all || st.ackSent || st.discardSent || st.resolved || s.fab.inDoubt.isSome || !s.inService
        || s.load.refetch.isSome || s.stripLost then s
    else
      let s := s.modStep fun st => { st with ackSent := true }
      if s.isTail then tryDecide s
      else s.send (.packet 0 0x02 s.tailParent st.num [st.num, st.run, ackedCount st])

/-! ## Commit and discard at a member (R270, R286 to R289, R337, R451) -/

/-- The first frame boundary at or after a beat. -/
def State.boundaryFrom (s : State) (b : Nat) : Nat := ceilDiv b s.frameLen * s.frameLen

/-- The entry becomes DIPPED now, with its Reserve lease (R289). -/
def dipNow (q ttl : Nat) (s : State) : State :=
  s.modEntry q fun e => { e with
    dipfrom := if e.state = 3 then 1 else 0
    state := 4
    ttlEnd := s.boundaryFrom s.beat + ttl * s.frameLen }

/-- Strip flags of the delivered rows of a line (R281). -/
def lineFlags (s : State) (first n : Nat) : Nat :=
  (List.range n).foldl (fun f i => f ||| sget 0 (first + i) s.work.flagWords) 0

/-- The commit's effect on one line of the length table. -/
def commitLine (st : Step) (d : DecMsg) (s : State) (l : LenEntry) : State :=
  let e := s.entry l.req
  let mark := match d.recs.find? fun r => r.entry = l.req with | some r => r.mark | none => 0
  let acc := match d.recs.find? fun r => r.entry = l.req with | some r => r.accept | none => 0
  if st.leftOut.contains l.req || bitOf mark 1 || e.state = 0 || e.state = 5 || e.state = 6 then s
  else
    let mine (p : SchedMsg → Bool) : Option SchedMsg := st.deferred.find? fun m => p m
    let cancel := mine fun m => m.cmd = 2 && m.target = l.req
    let dip := mine fun m => m.cmd = 3 && m.target = l.req
    let disabled := bitOf mark 4 || (mine fun m => (m.cmd = 5 && m.target = e.burgee) || (m.cmd = 6 && m.target = e.context)).isSome
    let cancelled := bitOf mark 3 || bitOf mark 2 || cancel.isSome
    let adv := if l.kind = 0 then 1 + acc else l.count
    let ends := bitOf mark 0 || (l.kind = 2 && (hasEncoder s.image || !hasOutputHead s.image))
    let outs := outputsOf st l.req
    let toks := if l.kind = 0 then outs.take (acc + 1) else if l.kind = 2 && !hasEncoder s.image then outs.take 1 else []
    let first := if l.kind = 0 then l.start else l.start + l.count - 1
    let firstTok := if l.kind = 0 then l.tokbase else l.tokbase + l.count - 1
    let given := (takeTokens s e first toks e.tokensOut 0).1
    let flags := lineFlags s firstTok given.length
    let status := if ends then 1 else if cancelled then 3 else 0
    let fin := ends || cancelled
    let fl := (if fin then finalFlags s e flags else flags) ||| (if ends && cancelled then 256 else 0)
    let s := s.putEntry l.req { e with
      committed := e.committed + adv
      commits := e.commits + 1
      state := if l.kind = 1 then 2 else 3
      cand := none
      tokensOut := if s.isTail then e.tokensOut + given.length else e.tokensOut
      lastToken := given.getLastD e.lastToken
      sflags := if s.isTail then e.sflags ||| flags else e.sflags }
    let s := if l.kind = 2 && s.isHead then releaseTokenStore l.req s else s
    let s := if l.kind = 0 then (s.bump 0x6002 0x01 l.spec).bump 0x6002 0x02 acc else s
    let s := if s.isTail && (!given.isEmpty || fin) then
        (s.modRing e.ring fun r => { r with toks := r.toks ++
          [⟨e.ring, 0, status, e.tag, l.req, given, 0, 0, fl, first, s.beat, fin⟩] }).bump (0x5100 + e.burgee) 0x0A given.length
      else s
    let s := match cancel with
      | some m => decideCmd m 4 (if ends then 21 else 16) s
      | none => s
    if fin then
      let s := match dip with
        | some m => decideCmd m 5 19 s
        | none => s
      endWithTokens l.req fl s
    else if disabled then finishEntry l.req 5 4 0 s
    else
      match dip with
      | some m => decideCmd m 5 16 (dipNow l.req m.ttl s)
      | none => s

/-- The discard's effect on one line: the commands that waited for the step's resolution act (R287 to R289). -/
def discardLine (st : Step) (s : State) (l : LenEntry) : State :=
  let e := s.entry l.req
  if e.state = 0 || e.state = 5 || e.state = 6 then s
  else
    let mine (p : SchedMsg → Bool) : Option SchedMsg := st.deferred.find? fun m => p m
    match mine fun m => m.cmd = 2 && m.target = l.req with
    | some m => decideCmd m 4 16 (finishEntry l.req 5 3 0 s)
    | none =>
      if (mine fun m => (m.cmd = 5 && m.target = e.burgee) || (m.cmd = 6 && m.target = e.context)).isSome then
        finishEntry l.req 5 4 0 s
      else
        match mine fun m => m.cmd = 3 && m.target = l.req with
        | some m => decideCmd m 5 16 (dipNow l.req m.ttl s)
        | none => s

/-- The pages of entries that became FREE while the step held them return at its resolution (R239). -/
def resolvePages (st : Step) (s : State) : State :=
  st.len.foldl (fun s l =>
    if (s.entry l.req).state = 0 then (releasePages l.req s).putEntry l.req Entry.free else s) s

/-- The step is resolved on this member. -/
def endStep (st : Step) (s : State) : State :=
  let s := s.modStep fun st => { st with resolved := true }
  let s := s.modFab fun f => { f with inDoubt := none, nextStep := max f.nextStep (st.num + 1) }
  let s := { s with faults := { s.faults with causes := s.faults.causes.filter (· ≠ 2) } }
  resolvePages st s

/-- The rerun series goes on with what halving deferred, or ends (R453). -/
def nextDeferred (r : Rerun) : Option Rerun :=
  match r.deferred with
  | [] => none
  | (len, run) :: rest => some { len := len, cands := [], run := run, missed := true, single := 0, deferred := rest }

/-- Step n commits at this member (R337). -/
def commitStep (st : Step) (d : DecMsg) (s : State) : State :=
  let s := if 2 ≤ st.run then classifyTransient s else s
  let s := st.len.foldl (commitLine st d) s
  let s := s.bump 0x3103 0x05 1
  let s := if s.isHead then
      s.modFab fun f => { f with
        rerun := f.rerun.bind nextDeferred
        reports := [] }
    else s
  endStep st s

/-- The end of a run series with a detected error in each of runs 1, 2 and 3 (R456): the head resets the contexts named, and a
device that met errors of the system alone enters half-mast. -/
def endSeries (s : State) : State :=
  let named := ((s.fab.reports.flatMap (·.2.2)).filter (· ≠ 0xFFFF)).eraseDups
  let s := if s.isHead then named.foldl (fun s c => headCommand 7 c 0 0 0 s) s else s
  let own := s.faults.seriesCtx
  let s := { s with faults := { s.faults with
    ctxResets := s.faults.ctxResets ++ (own.filter (· ≠ 0xFFFF)).eraseDups.map fun c => (c, true) } }
  if !own.isEmpty && own.all (· = 0xFFFF) && (!s.isHead || named.isEmpty) then s.halfMastCause 4 else s

/-- The rerun that the head composes after a discard (R452, R453, R545). -/
def planRerun (st : Step) (outcome : Nat) (named : List Nat) (s : State) : State :=
  let old := s.fab.rerun
  let missed := (old.map (·.missed)).getD false
  let single := (old.map (·.single)).getD 0
  let deferred := (old.map (·.deferred)).getD []
  let put (r : Option Rerun) (s : State) : State := s.modFab fun f => { f with rerun := r }
  if outcome = 2 then
    if 3 ≤ st.run then (put none s).modFab fun f => { f with reports := [] }
    else put (some ⟨st.len, st.cands, st.run + 1, missed, single, deferred.map fun d => (d.1, d.2 + 1)⟩) s
  else if outcome = 3 then
    let s := named.foldl (fun s q => s.modEntry q fun e => { e with poolWait := true }) s
    put (some ⟨st.len.filter fun l => !named.contains l.req, st.cands, st.run, missed, single, deferred⟩) s
  else if !missed then put (some ⟨st.len, st.cands, st.run, true, if st.len.length = 1 then 1 else 0, deferred⟩) s
  else if st.len.length ≤ 1 then
    let n := single + 1
    if 3 ≤ n then
      let s := put ((old.getD ⟨[], [], 1, true, 0, []⟩) |> nextDeferred) s
      st.len.foldl (fun s l => resetContextCause l.context false s) s
    else put (some ⟨st.len, st.cands, st.run, true, n, deferred⟩) s
  else
    let h := ceilDiv st.len.length 2
    put (some ⟨st.len.take h, st.cands, st.run, true, 0, (st.len.drop h, st.run) :: deferred⟩) s

/-- Step n is discarded at this member with an outcome of R545 (R337, R451). -/
def discardStep (st : Step) (outcome : Nat) (named : List Nat) (s : State) : State :=
  let s := st.len.foldl (discardLine st) s
  let s := s.bump 0x3103 0x06 1
  let s := if outcome = 2 then s.bump 0x7001 0x02 1 else s
  let s := endStep st s
  let s := if outcome = 2 && 3 ≤ st.run then endSeries s else s
  if s.isHead then planRerun st outcome named s else s

/-- The outcome that a DECISION states is applied (R337). -/
def applyDecision (st : Step) (d : DecMsg) (s : State) : State :=
  if d.outcome = 1 then commitStep st d s
  else discardStep st d.outcome ((d.recs.filter fun r => bitOf r.mark 6).map (·.entry)) s

/-- The step that a packet of step work names. -/
def stepOfAct : ActMsg → Nat
  | .activation st _ _ _ _ => st
  | .part st _ _ _ _ _ _ => st
  | .expert st _ _ _ _ => st

/-- The step's work ends; what arrived for a later step stays (R52, R451). -/
def dropWork (num : Nat) (s : State) : State :=
  { s with work := { Work.none with
      acts := s.work.acts.filter fun a => decide (num < stepOfAct a)
      dispatches := s.work.dispatches.filter fun d => decide (num < d.step) } }

/-! ## Fabric bounds (R325) -/

/-- The cost of one hop: 2 over this device's own link where it runs at the fallback rate, else 1; none where that link is not
UP. The rate of a hop between two other devices is not known here and counts as full (R325). -/
def State.hopCost (s : State) (a b : Nat) : Option Nat :=
  let other := if a = s.pos then some b else if b = s.pos then some a else none
  match other.bind fun o => s.linkToward false o with
  | some k => if !s.linkUp k then none else some (if s.rd (0x3010 + k) 0x02 = 2 then 2 else 1)
  | none => some 1

/-- The cost of a path of positions; none where a hop of it is not over an UP link. -/
def State.pathCost (s : State) : List Nat → Option Nat
  | a :: b :: l =>
    match s.hopCost a b, s.pathCost (b :: l) with
    | some x, some y => some (x + y)
    | _, _ => none
  | _ => some 0

/-- H: the largest hop count between two members that are not bypassed and that a route joins (R325). -/
def State.largestHops (s : State) : Nat :=
  let ms := s.members.filter fun p => !s.fab.bypassed.contains p
  ms.foldl (fun m a => ms.foldl (fun m b => max m ((s.pathCost (a :: s.route false a b)).getD 0)) m) 0

/-- H and the bounds that follow from it are computed and reported (R325). -/
def computeBounds (s : State) : State :=
  let h := s.largestHops
  let flb := ceilDiv (h * 250 + 512) 1024
  let l1 := ceilDiv (h * 180 + 256) 1024
  ((((s.wr 0x3102 0x01 h).wr 0x3102 0x02 l1).wr 0x3102 0x03 (3 * l1)).wr 0x3202 0x02 flb).wr 0x3202 0x03 (flb + 2)

end Sys2Proof.Machine
end

