-- ==== Sys2Proof/Machine/Compute.lean ====
section
/-! DEFINITION. From read results to outputs: the split of a matrix into strips, parts and passes (R128 to R133), the strip tree
and the block former (R129, R134), the merge of passes (R137, R139), the digital sums of the outlier path (R148 to R157), the
output of a block (R159, R160, R174), row reductions (R140 to R142), and the vector functions of a layer (R251, R252). -/

namespace Sys2Proof.Machine
open Sys2Proof

/-! ## Functions of the vector unit (R250, R544) -/

/-- A result beyond the binary32 range is the largest finite value (R544). -/
def saturated (x : F32) : F32 := if f32NotFinite x then f32Pack (decide (0x80000000 ≤ x.toNat)) f32MaxFinite else x

/-- exp, saturated. -/
def f32Exp (x : F32) : F32 := saturated (Config.exp x)

/-- The reciprocal square root: of zero, the largest finite value (R544). -/
def f32Rsqrt (x : F32) : F32 := if f32Abs x = f32Zero then f32Pack false f32MaxFinite else saturated (Config.rsqrt x)

/-! ## Trees (R129, R141) -/

/-- A node: two operands, one passed on unchanged, or none. -/
def treeNode {α : Type} (f : α → α → α) : Option α → Option α → Option α
  | some a, some b => some (f a b)
  | some a, none => some a
  | none, b => b

/-- One level of a tree. -/
def treeLevel {α : Type} (f : α → α → α) : List (Option α) → List (Option α)
  | a :: b :: l => treeNode f a b :: treeLevel f l
  | [a] => [a]
  | [] => []

/-- A tree of n levels over 2^n leaves. -/
def treeFold {α : Type} (f : α → α → α) : Nat → List (Option α) → Option α
  | 0, l => l.head?.join
  | n + 1, l => treeFold f n (treeLevel f l)

/-- A 32-bit saturating value (R139). -/
def sat32 (v : Int) : Int := clampInt (-2147483648) 2147483647 v

/-- A 32-bit saturating addition. -/
def satAdd (a b : Int) : Int := sat32 (a + b)

/-- The sum of up to 32 positions by the five-level tree in FP32; absent positions are skipped (R135, R141). -/
def sum32 (l : List (Option F32)) : F32 := (treeFold f32Add 5 l).getD f32Zero

/-- n leaves with the absent ones at the end. -/
def padTo {α : Type} (n : Nat) (l : List α) : List (Option α) := l.map some ++ List.replicate (n - l.length) none

/-- A list cut into blocks of 32. -/
def chunks32 {α : Type} : Nat → List α → List (List α)
  | 0, _ => []
  | n + 1, l => if l.isEmpty then [] else l.take 32 :: chunks32 n (l.drop 32)

/-- A row summed as R141 sums it: blocks of 32 in ascending order from +0. -/
def rowSum (l : List F32) : F32 := (chunks32 l.length l).foldl (fun t b => f32Add t (sum32 (padTo 32 b))) f32Zero

/-! ## Strips, parts and passes (R128, R131 to R133) -/

/-- Row blocks of a matrix of K rows. -/
def rowBlocks (k : Nat) : Nat := ceilDiv k 1024

/-- The strips of a column block, as (first row block, row blocks): S = ⌈B/16⌉, the first B mod S one longer (R132). -/
def stripsOf (k : Nat) : List (Nat × Nat) :=
  let b := rowBlocks k
  let n := ceilDiv b 16
  (List.range n).map fun t => (t * (b / n) + min t (b % n), b / n + (if t < b % n then 1 else 0))

/-- The arrays of a matrix's column block at the step's start beat, with their places. -/
def State.arraysAt (s : State) (mat cb : Nat) : List (Nat × Place) :=
  s.work.snap.places.filter fun x => x.2.mat = mat && x.2.cb = cb

/-- The passes of a column block in ascending order of their lowest row block (R131, R133), each with its die (none for a
part that another device holds) and its row blocks. -/
def State.passes (s : State) (mat cb : Nat) (m : MatEntry) : List (Nat × Option Nat × List Nat) :=
  let arrs := s.arraysAt mat cb
  let dieAt (rb : Nat) : Option Nat := (arrs.find? fun x => x.2.rb = rb).map fun x => dieOf x.1
  let lo := m.rbFirst
  let hi := m.rbFirst + m.rbCount
  (stripsOf m.k).flatMap fun st =>
    let rbs := (List.range st.2).map (st.1 + ·)
    let below := rbs.filter fun r => decide (r < lo)
    let held := rbs.filter fun r => decide (lo ≤ r) && decide (r < hi)
    let above := rbs.filter fun r => decide (hi ≤ r)
    let dies := (held.map dieAt).eraseDups
    let parts := (dies.map fun d => (d, held.filter fun r => dieAt r = d)) ++
      (if below.isEmpty then [] else [(none, below)]) ++ (if above.isEmpty then [] else [(none, above)])
    sortBy (fun a b => decide (a.1 ≤ b.1)) (parts.map fun p => (p.2.headD 0, p.1, p.2))

/-- The read of an array for a token, once its group is delivered. -/
def State.delivered (s : State) (a token : Nat) : Option ReadRec :=
  s.work.reads.find? fun r => r.arr = a && r.token = token && (r.phase = .done || r.phase = .idle)

/-! ## The block former (R134, R136) -/

/-- The smallest exponent for which every rounded value fits 16 bits. -/
def blockExp (vals : List Int) : Nat → Nat → Nat
  | 0, e => e
  | fuel + 1, e =>
    if vals.all fun v => decide (-32768 ≤ divEvenInt v (2 ^ e)) && decide (divEvenInt v (2 ^ e) ≤ 32767) then e
    else blockExp vals fuel (e + 1)

/-- A block in block form. -/
def formBlock (b : Block) : Block :=
  let e := blockExp b.vals 17 0
  { b with pass := 0, form := 0, exp := e, vals := b.vals.map fun v => divEvenInt v (2 ^ e) }

/-- Output blocks of a matrix. -/
def outBlocks (n : Nat) : Nat := ceilDiv n 32

/-- The flags that the sequencer sets on a strip result: QMON and DEGRADED (R110, R118). -/
def State.stripFlags (s : State) (slot mat cb strip token : Nat) : Nat :=
  let clsB := ((s.lineOf token).map (·.cls)).getD 0 = 1
  flagWord [(flagQmon, s.work.snap.qmon.contains slot), (flagDegraded, clsB && s.stripB mat cb strip = some 0)]

/-- STRIP_TREE (R127 to R136): once every leaf of the part on the die is present, the tree sums them; an undivided strip of a
matrix of one strip leaves in block form, every other as a 32-bit partial with its pass number. -/
def stripTree (mat token cb strip die : Nat) (hw : HwCheck) (s : State) : State :=
  match s.mat? mat with
  | none => s
  | some m =>
    let slot := s.slotOfMat mat
    let ps := s.passes mat cb m
    match (stripsOf m.k)[strip]? with
    | none => s
    | some (first, count) =>
      let inStrip (r : Nat) : Bool := decide (first ≤ r) && decide (r < first + count)
      let idx := ps.findIdx fun p => p.2.1 = some die && inStrip p.1
      match ps[idx]? with
      | none => s
      | some (_, _, rbs) =>
        let arrs := (s.arraysAt mat cb).filter fun x => rbs.contains x.2.rb
        let recs := arrs.filterMap fun x => (s.delivered x.1 token).map fun r => (x.2.rb, r)
        let whole := ps.length = 1
        let seen := if whole then s.work.merged.any fun b => b.mat = mat && b.token = token && b.block / 16 = cb
          else s.work.blocks.any fun b => b.mat = mat && b.token = token && b.block / 16 = cb && b.pass = idx
        if !s.working || recs.length ≠ rbs.length || seen then s
        else
          let k := accumCheck hw slot 8 die s
          if !k.1 then k.2
          else
            let s := k.2
            let leaf (col lf : Nat) : Option Int :=
              (recs.find? fun x => x.1 = first + lf).map fun x => x.2.leaf.getD col 0
            let sum (col : Nat) : Int := (treeFold satAdd 4 ((List.range 16).map (leaf col))).getD 0
            let low := recs.any fun x => x.2.lowconf
            let seq := s.stripFlags slot mat cb strip token
            let blks := (List.range 16).filter fun i => decide (16 * cb + i < outBlocks m.n)
            let mk (i : Nat) : Block :=
              let sat := (List.range 32).any fun j => decide (512 * cb + 32 * i + j < m.n) &&
                recs.any fun x => x.2.sat.getD (32 * i + j) false
              { mat := mat, token := token, block := 16 * cb + i, pass := idx, form := 1, exp := 0
                vals := (List.range 32).map fun j => if 512 * cb + 32 * i + j < m.n then sum (32 * i + j) else 0
                flags := flagWord [(flagSat, sat), (flagLowconf, low)] ||| seq }
            let out := blks.map mk
            let s := if bitOf seq flagDegraded then (s.bumpSlot slot 0x1E 1).flag (0x4100 + slot) 0x1C 1 else s
            if whole then s.modWork fun w => { w with merged := w.merged ++ out.map formBlock }
            else s.modWork fun w => { w with blocks := w.blocks ++ out }

/-- The meaning of STRIP_TREE. -/
def execStripTree (mat token cb strip die : Nat) (hw : HwCheck) (s : State) : Res :=
  doneQuiet s (stripTree mat token cb strip die hw s)

/-! ## Merging passes (R137 to R139) -/

/-- A pass that waits for its block: from a die of this device, or held since its arrival from another. -/
def State.passBlock (s : State) (mat token block pass : Nat) : Option (List Int × Nat) :=
  match s.work.blocks.find? fun b => b.mat = mat && b.token = token && b.block = block && b.pass = pass with
  | some b => some (b.vals, b.flags)
  | none =>
    let num := (s.fab.step.map (·.num)).getD 0
    s.work.acts.findSome? fun a =>
      match a with
      | .part st m t b p f v => if st = num && m = mat && t = token && b = block && p = pass then some (v, f) else none
      | _ => none

/-- PARTIAL_MERGE (R137): the next pass of a block is merged in pass order; after the last one the block is formed. A block
whose merged form is 1 is a buffer that has taken `pass` passes. -/
def partialMerge (mat token block : Nat) (hw : HwCheck) (s : State) : State :=
  match s.mat? mat with
  | none => s
  | some m =>
    let slot := s.slotOfMat mat
    let total := (s.passes mat (block / 16) m).length
    let mine (b : Block) : Bool := b.mat = mat && b.token = token && b.block = block
    let buf := s.work.merged.find? mine
    let taken := match buf with
      | some b => if b.form = 1 then b.pass else total
      | none => 0
    if !s.working || total ≤ 1 || total ≤ taken then s
    else
      match s.passBlock mat token block taken with
      | none => s
      | some (v, f) =>
        let k := match hw with
          | .residue e => (false, layerError 9 5 e 0 0 slot (s.bumpSlot slot 0x22 1))
          | h => engineCheck h slot mat s
        if !k.1 then k.2
        else
          let s := k.2
          let nxt : Block := match buf with
            | none => ⟨mat, token, block, 1, 1, 0, v, f⟩
            | some b =>
              let sums := List.zipWith (· + ·) b.vals v
              let clip := sums.any fun x => sat32 x ≠ x
              { b with pass := b.pass + 1, vals := sums.map sat32, flags := b.flags ||| f ||| flagWord [(flagAsat, clip)] }
          let last := nxt.pass = total
          let out := if last then formBlock nxt else nxt
          let s := if buf.isSome then s.bumpSlot slot 0x23 1 else s
          let s := if last && bitOf out.flags flagAsat then s.bumpSlot slot 0x21 1 else s
          s.modWork fun w => { w with merged := (w.merged.filter fun b => !mine b) ++ [out] }

/-- The meaning of PARTIAL_MERGE. -/
def execPartialMerge (mat token block : Nat) (hw : HwCheck) (s : State) : Res :=
  doneQuiet s (partialMerge mat token block hw s)

/-! ## The outlier path (R148 to R157) -/

/-- The stored code of a weight in the shadow, keyed by directory index, row and column (R178). -/
def codeKey (mat row col : Nat) : Nat := (mat * 1048576 + row) * 1048576 + col

/-- The level in u of a stored code of a format (R57). -/
def codeLevel (fmt code : Nat) : Int :=
  if fmt = 0 then [0, 3, 0, -3].getD code 0 else [-3, -1, 1, 3].getD code 0

/-- c_ij of the shadow: columns beyond N and rows beyond K hold no level. -/
def shadowLevel (img : Image) (m : MatEntry) (mat row col : Nat) : Int :=
  if row < m.k && col < m.n then codeLevel m.fmt (sget 0 (codeKey mat row col) img.codes) else 0

/-- The column scale byte σ_j (R153, R177). -/
def sigmaByte (img : Image) (mat col : Nat) : Nat := sget 0 (mat * 1048576 + col) img.scales

/-- s_j: fp32(f · σ_j), f ½ for W2 and ⅓ for T1 (R69, R160). -/
def colScale (img : Image) (m : MatEntry) (mat col : Nat) : F32 :=
  let sg := f32OfE4m3 (sigmaByte img mat col)
  f32Div sg (f32OfInt (if m.fmt = 0 then 3 else 2))

/-- The outlier record of a row block (R154). -/
def outRec? (img : Image) (mat rb : Nat) : Option OutRec := img.outl.find? fun o => o.mat = mat && o.rb = rb

/-- The static rows of a row block that the digital path handles: STATIC_INT8 always, STATIC_CODE while object 0x41nn:0A is
TRUE (R149). -/
def staticRows (img : Image) (mat rb : Nat) (codeDigital : Bool) : List (Nat × Bool) :=
  ((outRec? img mat rb).map (·.rows)).getD [] |>.filter fun r => r.2 || codeDigital

/-- The candidates of a row block by rank: |x| above θ, largest first, then ascending row (R150). -/
def outlierCandidates (x : List Int) (static : List (Nat × Bool)) (theta : Nat) : List Nat :=
  let rows := (driveRows x).filter fun r => decide (theta < r.2.natAbs) && !(static.any fun q => q.1 = r.1)
  (sortBy (fun a b => decide (b.2.natAbs < a.2.natAbs) || (a.2.natAbs = b.2.natAbs && decide (a.1 ≤ b.1))) rows).map (·.1)

/-- The sign of an activation. -/
def signOf (x : Int) : Int := if x < 0 then -1 else if x = 0 then 0 else 1

/-- The drive vector after the tiers (R148, R155): static, first- and second-pass rows at zero, clipped rows at sign(x) · θ. -/
def driveOf (x : List Int) (static : List (Nat × Bool)) (t : Tier) (theta : Nat) : List Int :=
  (driveRows x).map fun r =>
    if static.any (fun q => q.1 = r.1) || t.first.contains r.1 || t.second.contains r.1 then 0
    else if t.clipped.contains r.1 then signOf r.2 * theta else r.2

/-- The tiers of a row block for a token (R155). -/
def tiersOf (mat rb token : Nat) (x : List Int) (cands : List Nat) (c : Nat) : Tier where
  mat := mat
  rb := rb
  token := token
  x := x
  first := cands.take c
  second := (cands.drop c).take c
  clipped := cands.drop (2 * c)
  flags := flagWord [(flagOvf, decide (c < cands.length)), (flagOclip, decide (2 * c < cands.length))]
  secondDone := decide (cands.length ≤ c)
  clippedLate := []

/-- A tier record of the step. -/
def State.tier? (s : State) (mat rb token : Nat) : Option Tier :=
  s.work.tiers.find? fun t => t.mat = mat && t.rb = rb && t.token = token

/-- The exact code sum of a row block for a column: STATIC_CODE, first- and second-pass rows at x, and rows that R157 clipped at
sign(x) · θ (R156, R157). -/
def codeSum (img : Image) (m : MatEntry) (codeDigital : Bool) (theta : Nat) (t : Tier) (col : Nat) : Int :=
  let st := (staticRows img t.mat t.rb codeDigital).filterMap fun r => if r.2 then none else some r.1
  let lv (row : Nat) : Int := shadowLevel img m t.mat (1024 * t.rb + row) col
  let full := (st ++ t.first ++ t.second.filter fun r => !t.clippedLate.contains r).foldl
    (fun n r => n + t.x.getD r 0 * lv r) 0
  t.clippedLate.foldl (fun n r => n + signOf (t.x.getD r 0) * theta * lv r) full

/-- The exact INT8 sum of a row block for a column (R153, R156). -/
def int8Sum (img : Image) (t : Tier) (col : Nat) : Int :=
  match outRec? img t.mat t.rb with
  | none => 0
  | some o =>
    let rows := (o.rows.filter (·.2)).map (·.1)
    (rows.zip o.w8).foldl (fun n r => n + t.x.getD r.1 0 * r.2.getD col 0) 0

/-- The largest number of candidates seen, an U8 object (R166). -/
def noteCandidates (slot n : Nat) (s : State) : State :=
  if s.rdSlot slot 0x2A < n then s.wr (0x4100 + slot) 0x2A (min n 255) else s

/-- SECOND_PASS (R157): once the first passes of the layer are done, the second-pass rows that fit the reserve are computed in
order of token, row block and rank; the first that does not fit and every later one is clipped. `planned` is the layer's planned
time in ns at the clock in effect at the start beat; one row costs N products of 1,024 a cycle. -/
def secondPass (slot planned : Nat) (hw : HwCheck) (s : State) : State :=
  let mine (t : Tier) : Bool := s.slotOfMat t.mat = slot && !t.secondDone
  let open_ := sortBy (fun (a b : Tier) => decide (a.token < b.token) || (a.token = b.token && decide (a.rb ≤ b.rb)))
    (s.work.tiers.filter mine)
  if !s.working || open_.isEmpty then s
  else
    let k := engineCheck hw slot ((open_.head?.map (·.mat)).getD 0) s
    if !k.1 then k.2
    else
      let s := k.2
      let cycles := planned * s.work.snap.reserveClock * 12 / 100000
      let cost (t : Tier) : Nat := ((s.mat? t.mat).map (·.n)).getD 0
      let jobs := open_.flatMap fun t => t.second.map fun row => (t.mat, t.rb, t.token, row, cost t)
      let r := jobs.foldl (fun (a : Nat × Bool × List (Nat × Nat × Nat × Nat)) j =>
        let used := a.1 + j.2.2.2.2
        if !a.2.1 && ceilDiv used 1024 ≤ cycles then (used, false, a.2.2)
        else (a.1, true, a.2.2 ++ [(j.1, j.2.1, j.2.2.1, j.2.2.2.1)])) (0, false, [])
      let late := r.2.2
      let taken := jobs.length - late.length
      let s := (s.bumpSlot slot 0x25 taken).bumpSlot slot 0x28 late.length
      let s := (s.bump 0x4201 0x01 taken).bump 0x4201 0x02 late.length
      let s := s.bump 0x4201 0x03 (ceilDiv r.1 1024)
      let s := if late.isEmpty then s else s.bump 0x4201 0x04 1
      s.modWork fun w => { w with
        reserveUsed := w.reserveUsed ++ [(slot, ceilDiv r.1 1024)]
        tiers := w.tiers.map fun t =>
          if mine t then
            let mineLate := (late.filter fun j => j.1 = t.mat && j.2.1 = t.rb && j.2.2.1 = t.token).map fun j => j.2.2.2
            { t with secondDone := true, clippedLate := mineLate
                     flags := t.flags ||| flagWord [(flagOclip, !mineLate.isEmpty)] }
          else t }

/-- The meaning of SECOND_PASS. -/
def execSecondPass (slot planned : Nat) (hw : HwCheck) (s : State) : Res := doneQuiet s (secondPass slot planned hw s)

/-! ## Outputs of a block (R159, R160, R174) -/

/-- g_B of a block: the mean of the gain registers of every array that holds a row block of its K, over 4,096 (R159). -/
def State.blockGain (s : State) (mat cb : Nat) (rbs : List Nat) : F32 :=
  let regs := ((s.arraysAt mat cb).filter fun x => rbs.contains x.2.rb).map fun x => s.gainAt x.1
  f32OfScaled (divEvenInt (regs.foldl (· + ·) 0 : Nat) regs.length) (-12)

/-- The value `a` of R160 for a mantissa at an exponent. -/
def analogValue (gB scale : F32) (v : Int) (e : Nat) : F32 := f32Mul (f32Mul (f32OfScaled v e) gB) scale

/-- Requantisation (R174). -/
def requant (y rq : F32) : Int := clampInt (-128) 127 (f32ToInt (f32Mul y rq))

/-- One output of R160: its column, given the block's value, the tiers of its row blocks in ascending order. -/
def outputOf (s : State) (m : MatEntry) (mat slot : Nat) (gB : F32) (tiers : List Tier) (col : Nat) (v : Int) (e : Nat) : F32 :=
  let img := s.image
  let sc := colScale img m mat col
  let digital := s.recipe slot 0x0A = 1
  let a := analogValue gB sc v e
  let oc := f32Mul (f32OfInt (tiers.foldl (fun n t => n + codeSum img m digital (s.recipe slot 8) t col) 0)) sc
  let o8 := tiers.foldl (fun o t =>
    match outRec? img mat t.rb with
    | some r => if r.w8.isEmpty then o
        else f32Add o (f32Mul (f32OfInt (int8Sum img t col)) (f32OfE4m3 (r.lam.getD col 0)))
    | none => o) f32Zero
  f32Add (f32Add a oc) o8

/-- An output block of the step. -/
def State.out? (s : State) (mat token block : Nat) : Option OutBlk :=
  s.work.outs.find? fun o => o.mat = mat && o.token = token && o.block = block

/-- Every block of a token's row of a matrix is merged. -/
def State.rowDone (s : State) (mat token : Nat) : Bool :=
  match s.mat? mat with
  | some m => (List.range (outBlocks m.n)).all fun b => (s.out? mat token b).isSome
  | none => false

/-- A token's row of a matrix times XSCALE, once whole (R173, R240, R251). -/
def State.rowVals (s : State) (mat token : Nat) : List F32 :=
  match s.mat? mat with
  | some m => ((List.range (outBlocks m.n)).flatMap fun b => ((s.out? mat token b).map (·.passed)).getD []).take m.n
  | none => []

/-- The matrix of a role in a layer, for an expert or 0xFF. -/
def State.matOf (s : State) (l : LayerEntry) (role expert : Nat) : Option Nat :=
  ((List.range l.matCount).map (l.firstMat + ·)).find? fun i =>
    match s.mat? i with
    | some m => m.role = role && m.expert = expert
    | none => false

/-- The residual stream of a token (R251). -/
def State.residual (s : State) (token : Nat) : List F32 := sget [] token s.work.resid

/-- The residual stream of a token replaced. -/
def State.setResidual (s : State) (token : Nat) (x : List F32) : State :=
  s.modWork fun w => { w with resid := sset [] token x w.resid }

/-- Values added to the residual stream from an element on (R251). -/
def addResidual (token at_ : Nat) (v : List F32) (s : State) : State :=
  let x := s.residual token
  s.setResidual token ((List.range x.length).map fun i =>
    if at_ ≤ i && i < at_ + v.length then f32Add (x.getD i f32Zero) (v.getD (i - at_) f32Zero) else x.getD i f32Zero)

/-! ## Normalisation, activation and quantisation (R249, R251, R252) -/

/-- x := clamp(rne(v ÷ scale), −128, +127) (R249, R251, R252). -/
def quantise (v scale : F32) : Int := clampInt (-128) 127 (f32ToInt (f32Div v scale))

/-- Element i of the vectors in a BF16 tensor of the image, d values each: vector k (R251). -/
def tensorVec (img : Image) (t k d : Nat) : List F32 :=
  let b := sget [] t img.tensors
  (List.range d).map fun i => f32OfBf16 (leAt b (2 * (k * d + i)) 2)

/-- Normalisation of a token's stream: norm 0 or 1 of the layer (R251). -/
def normalise (img : Image) (l : LayerEntry) (which : Nat) (x : List F32) : List F32 :=
  let d := x.length
  let n := f32OfInt d
  if l.norm = 0 then x
  else if l.norm = 1 then
    let ms := f32Div (rowSum (x.map fun v => f32Mul v v)) n
    let r := f32Rsqrt (f32Add ms l.eps)
    if l.normTensor = 0xFFFF then x.map fun v => f32Mul v r
    else List.zipWith (fun v g => f32Mul (f32Mul v r) g) x (tensorVec img l.normTensor which d)
  else
    let mean := f32Div (rowSum x) n
    let c := x.map fun v => f32Sub v mean
    let var := f32Div (rowSum (c.map fun v => f32Mul v v)) n
    let r := f32Rsqrt (f32Add var l.eps)
    if l.normTensor = 0xFFFF then c.map fun v => f32Mul v r
    else
      let y := List.zipWith (fun v g => f32Mul (f32Mul v r) g) c (tensorVec img l.normTensor (2 * which) d)
      List.zipWith f32Add y (tensorVec img l.normTensor (2 * which + 1) d)

/-- GELU in its tanh form (R252). -/
def gelu (a : F32) : F32 :=
  let c := f32Mul (f32Mul a a) a
  let t := Config.tanh (f32Mul (f32OfRatio 7978846 10000000) (f32Add a (f32Mul (f32OfRatio 44715 1000000) c)))
  f32Mul (f32Mul (f32OfRatio 1 2) a) (f32Add f32One t)

/-- ACT of a layer on GATE and UP (R252). -/
def activate (act : Nat) (gate up : F32) : F32 :=
  if act = 1 then f32Mul (f32Div gate (f32Add f32One (f32Exp (f32Neg gate)))) up
  else if act = 2 then f32Mul (gelu gate) up
  else if act = 3 then gelu up
  else up

end Sys2Proof.Machine
end

