-- ==== Sys2Proof/Machine/Layer.lean ====
section
/-! DEFINITION. The work of a layer slot on a token: the input vector of each matrix (R245, R249, R251, R252), the broadcast of
a drive vector (R85, R148 to R155), the merge of an output block with the KV append (R240, R241, R234), the residual stream,
expert routing, dispatch and return (R260 to R263), and row reductions (R140 to R142). -/

namespace Sys2Proof.Machine
open Sys2Proof

/-! ## Inputs -/

/-- The layer slots of the image in ascending order; the one before a slot. -/
def prevSlot (img : Image) (slot : Nat) : Option LayerEntry :=
  ((sortBy (fun (a b : LayerEntry) => decide (a.slot ≤ b.slot)) img.layers).filter fun l => decide (l.slot < slot)).getLast?

/-- The routing of a token in a slot. -/
def State.route? (s : State) (slot token : Nat) : Option Route :=
  s.work.routes.find? fun r => r.slot = slot && r.token = token

/-- A layer has given its output to a token's stream: the row of its DOWN matrix is merged, or every expert has returned. -/
def State.slotClosed (s : State) (l : LayerEntry) (token : Nat) : Bool :=
  if l.kind = 2 then
    match s.route? l.slot token with
    | some r => r.experts.all fun e => r.returns.any fun x => x.1 = e
    | none => false
  else if l.kind = 1 || l.kind = 3 then
    match s.matOf l 6 0xFF with
    | some m => s.rowDone m token
    | none => false
  else false

/-- The stream that enters a slot is present: it came from another device, or the slot before it on this one has closed. -/
def State.streamReady (s : State) (slot token : Nat) : Bool :=
  s.work.arrived.contains (slot, token) ||
    (match prevSlot s.image slot with
    | some p => s.slotClosed p token && !(s.residual token).isEmpty
    | none => false)

/-- An activation that another device sent for a slot and token of the step, taken out of what is held (R52). -/
def takeArrival (slot token : Nat) (s : State) : State :=
  let num := (s.fab.step.map (·.num)).getD 0
  let hit (a : ActMsg) : Bool :=
    match a with
    | .activation st sl t _ _ => st = num && sl = slot && t = token
    | _ => false
  match s.work.acts.find? hit with
  | some (.activation _ _ _ f x) =>
    orFlags token f ((s.setResidual token x).modWork fun w => { w with
      acts := w.acts.filter fun a => !hit a, arrived := w.arrived ++ [(slot, token)] })
  | _ => s

/-- Key of an attention output: slot, token, head. -/
def attnKey (slot token head : Nat) : Nat := (slot * 65536 + token) * 65536 + head

/-- The O matrix's input: the outputs of every head in order (R249); empty until all are present. -/
def State.attnInput (s : State) (l : LayerEntry) (token : Nat) : List F32 :=
  let parts := (List.range l.heads).map fun h => sget [] (attnKey l.slot token h) s.work.attn
  if parts.any (·.isEmpty) then [] else parts.flatten

/-- An expert dispatch that reached this device for a slot, token and expert (R262). -/
def State.dispatched (s : State) (slot token expert : Nat) : Option (Nat × Routed) :=
  let num := (s.fab.step.map (·.num)).getD 0
  s.work.dispatches.findSome? fun d =>
    if d.step = num && d.slot = slot then
      (d.items.find? fun i => i.token = token && i.experts.contains expert).map fun i => (d.home, i)
    else none

/-- h of an expert or of the dense network of a layer (R252); empty until the rows it needs are present. -/
def State.ffnHidden (s : State) (l : LayerEntry) (expert token : Nat) : List F32 :=
  match s.matOf l 5 expert with
  | none => []
  | some u =>
    if !s.rowDone u token then []
    else
      let up := s.rowVals u token
      if l.act = 3 || l.act = 0 then up.map fun v => activate l.act f32Zero v
      else
        match s.matOf l 4 expert with
        | some g => if s.rowDone g token then List.zipWith (activate l.act) (s.rowVals g token) up else []
        | none => []

/-- A list that is not empty. -/
def someOf {α : Type} (l : List α) : Option (List α) := if l.isEmpty then none else some l

/-- The INT8 input vector of a matrix for a token, where the manual says how it is formed: the order of a DECODER, DECODER_MOE or
ENCODER layer and of an OUTPUT_HEAD (R251), the attention output (R249) and the network's hidden values (R252). For matrices of
roles SSM_IN, SSM_OUT and OTHER and for recurrent layers it states none: `x` is what the step's plan supplies. -/
def State.inputOf (s : State) (m : MatEntry) (l : LayerEntry) (token : Nat) (x : List Int) : Option (List Int) :=
  let q (v : List F32) : Option (List Int) := (someOf v).map fun v => v.map fun e => quantise e m.xscale
  let norm (k : Nat) : Option (List Int) := q (normalise s.image l k (s.residual token))
  let afterO : Bool := match s.matOf l 3 0xFF with
    | some o => s.rowDone o token
    | none => s.streamReady l.slot token
  if m.role = 9 || m.role = 10 || m.role = 11 || l.kind = 4 || l.kind = 5 then some x
  else if m.role = 0 || m.role = 1 || m.role = 2 || m.role = 8 then
    if s.streamReady l.slot token then norm 0 else none
  else if m.role = 3 then q (s.attnInput l token)
  else if m.role = 6 then q (s.ffnHidden l m.expert token)
  else if m.role = 7 || m.expert = 0xFF then if afterO then norm 1 else none
  else
    match s.route? l.slot token with
    | some r => if r.experts.contains m.expert then norm 1 else none
    | none => (s.dispatched l.slot token m.expert).map fun d => d.2.x

/-! ## The broadcast (R85, R150 to R156) -/

/-- The token drives the matrix: it is a token of the step, and for the output head a row that the head runs (R245). -/
def State.drivesMat (s : State) (m : MatEntry) (token : Nat) : Bool :=
  match s.lineOf token with
  | some l => if m.role = 8 then headToken l token else true
  | none => (s.work.dispatches.any fun d => d.items.any fun i => i.token = token) && m.expert ≠ 0xFF

/-- The read threshold and repeat count of a token's strip, with whether it runs in class B (R87, R111). -/
def State.readSetting (s : State) (mat cb strip slot token : Nat) : Nat × Nat × Bool :=
  let rep := s.recipe slot 5
  let clsB := ((s.lineOf token).map (·.cls)).getD 0 = 1
  match if clsB then s.stripB mat cb strip else none with
  | some tau => if tau = 0 then (s.recipe slot 4, rep, false) else (tau, if rep = 4 then 4 else 2, true)
  | none => (s.recipe slot 4, rep, false)

/-- The read records that a drive vector makes, one for every array that holds the row block on a die whose links stand; an
all-zero vector issues no read and its leaves are zero (R86, R127). -/
def newReads (s : State) (mat rb token slot : Nat) (drive : List Int) : List ReadRec :=
  let arrs := s.work.snap.places.filter fun x => x.2.mat = mat && x.2.rb = rb && !(s.die (dieOf x.1)).lost
  let zero := drive.all (· = 0)
  (arrs.zip (List.range arrs.length)).map fun xi =>
    let set := s.readSetting mat xi.1.2.cb xi.1.2.strip slot token
    { rid := s.nextRid + xi.2, arr := xi.1.1, mat := mat, rb := rb, cb := xi.1.2.cb, slot := slot, token := token
      step := (s.fab.step.map (·.num)).getD 0, classB := set.2.2, drive := drive
      rprod := (List.range 16).map (refProduct drive), asum := driveSum drive, reads := [], tau := set.1
      repeats := set.2.1, gtRead := s.gtAt xi.1.1, subphases := 0, took := 0
      phase := if zero then .done else .driven
      leaf := if zero then List.replicate 512 0 else [], sat := List.replicate 512 false, lowconf := false }

/-- DRIVE_VECTOR_BROADCAST (R67, R85, R150 to R156): the tiers of a row block of a token's vector are chosen, and the drive
vector goes to every array that holds the row block. -/
def driveVectorBroadcast (mat rb token : Nat) (x : List Int) (hw : HwCheck) (s : State) : State :=
  match s.mat? mat, s.layerOf? mat with
  | some m, some l =>
    if !s.working || rb < m.rbFirst || m.rbFirst + m.rbCount ≤ rb || !s.drivesMat m token || (s.tier? mat rb token).isSome then s
    else
      let s := takeArrival l.slot token s
      match s.inputOf m l token x with
      | none => s
      | some v =>
        let k := engineCheck hw l.slot mat s
        if !k.1 then k.2
        else
          let s := k.2
          let part := ((v.drop (1024 * rb)).take (blockRows m rb)).map (clampInt (-128) 127)
          let vec := part ++ List.replicate (blockRows m rb - part.length) 0
          let theta := s.recipe l.slot 8
          let static := staticRows s.image mat rb (s.recipe l.slot 0x0A = 1)
          let cap := s.recipe l.slot 9
          let cands := if cap = 0 then [] else outlierCandidates vec static theta
          let t := tiersOf mat rb token vec cands cap
          let reads := newReads s mat rb token l.slot (driveOf vec static t theta)
          let s := (s.bumpSlot l.slot 0x24 t.first.length).bumpSlot l.slot 0x27 t.clipped.length
          let s := (s.bump 0x4201 0x01 t.first.length).bump 0x4201 0x02 t.clipped.length
          let s := noteCandidates l.slot cands.length s
          { (s.modWork fun w => { w with tiers := w.tiers ++ [t], reads := w.reads ++ reads }) with
            nextRid := s.nextRid + reads.length }
  | _, _ => s

/-- The meaning of DRIVE_VECTOR_BROADCAST. -/
def execDriveVectorBroadcast (mat rb token : Nat) (x : List Int) (hw : HwCheck) (s : State) : Res :=
  doneQuiet s (driveVectorBroadcast mat rb token x hw s)

/-! ## The KV append (R234, R240, R241) -/

/-- The rotary width of a layer (R266). -/
def State.rotWidth (s : State) (headDim : Nat) : Nat :=
  let r := s.rd 0x6000 0x04
  if r = 0 then headDim else min r headDim

/-- The rotation of a run of elements of a head at a position, the run starting at an even element (R241). -/
def State.rotate (s : State) (headDim pos at_ : Nat) (v : List F32) : List F32 :=
  let b := BitVec.ofNat 32 (s.rd 0x6000 0x03)
  let rot := s.rotWidth headDim
  if f32Abs b = f32Zero then v
  else
    (List.range v.length).map fun i =>
      let e := at_ + i
      if rot / 2 ≤ e / 2 then v.getD i f32Zero
      else
        let ang := f32Mul (f32OfInt pos) (Config.rotaryFreq b (e / 2) rot)
        let c := Config.cos ang
        let n := Config.sin ang
        if e % 2 = 0 then f32Sub (f32Mul (v.getD i f32Zero) c) (f32Mul (v.getD (i + 1) f32Zero) n)
        else f32Add (f32Mul (v.getD (i - 1) f32Zero) n) (f32Mul (v.getD i f32Zero) c)

/-- A group of 32 quantised: its E4M3 scale byte and integers, for a largest integer of 7 or 127 (R234). -/
def quantGroup (lim : Nat) (v : List F32) : Nat × List Int :=
  let amax := v.foldl (fun m e => f32Max m (f32Abs e)) f32Zero
  let sc := e4m3OfF32 (f32Div amax (f32OfInt lim)) 0 126
  (sc, v.map fun e => if sc = 0 then 0 else clampInt (-lim) lim (f32ToInt (f32Div e (f32OfE4m3 sc))))

/-- The data bytes of a group: two 4-bit values a byte, or one byte each (R233). -/
def packGroup (int4 : Bool) (q : List Int) : Bytes :=
  if int4 then (List.range (q.length / 2)).map fun i =>
      BitVec.ofNat 8 (intBits 4 (q.getD (2 * i) 0) + 16 * intBits 4 (q.getD (2 * i + 1) 0))
  else q.map fun v => BitVec.ofNat 8 (intBits 8 v)

/-- An output block of a K or V matrix, one group of 32 of one KV head, written at its token's position (R240). -/
def appendKv (l : LayerEntry) (isV : Bool) (token block : Nat) (vals : List F32) (s : State) : State :=
  match s.lineOf token with
  | none => s
  | some ln =>
    let pos := positionOf ln token
    let col := 32 * block
    let head := col / l.headDim
    let off := col % l.headDim
    let lane := laneOf s.image l isV head
    let t := s.kvT
    match backedPage (s.entry ln.req) lane (pos / t) with
    | none => s
    | some page =>
      let int4 := s.rd 0x6000 0x01 = 0
      let v := if isV then vals else s.rotate l.headDim pos off vals
      let g := quantGroup (if int4 then 7 else 127) v
      let base := page * 65536
      let e := s.kvData l.headDim
      let data := base + 256 + pos % t * e + off / 32 * (if int4 then 16 else 32)
      let scale := base + 256 + t * e + pos % t * kvScales l.headDim + off / 32
      { s with mem := memWriteN scale [BitVec.ofNat 8 g.1] (memWriteN data (packGroup int4 g.2) s.mem) }

/-! ## Experts (R260 to R263) -/

/-- The experts a router selects, best first, equal logits to the lower number (R260). -/
def topExperts (k : Nat) (z : List F32) : List (Nat × F32) :=
  let l := (List.range z.length).zip z
  (sortBy (fun a b => f32Lt b.2 a.2 || (!f32Lt a.2 b.2 && decide (a.1 ≤ b.1))) l).take k

/-- Weights of the selected experts in rank order (R260). -/
def expertWeights (sel : List (Nat × F32)) : List F32 :=
  match sel with
  | [] => []
  | (_, z1) :: _ =>
    let e := sel.map fun x => f32Exp (f32Sub x.2 z1)
    let d := e.foldl f32Add f32Zero
    e.map fun v => f32Div v d

/-- The member that holds an expert of a slot (R261), this device where no list names one. -/
def State.expertHome (s : State) (slot expert : Nat) : Nat :=
  ((s.fab.expertLists.find? fun x => x.2.1 = slot && x.2.2.contains expert).map (·.1)).getD s.pos

/-- The remote devices of a token's experts, ascending. -/
def State.remoteSet (s : State) (r : Route) : List Nat :=
  sortBy (fun a b => decide (a ≤ b)) (((r.experts.map (s.expertHome r.slot)).filter (· ≠ s.pos)).eraseDups)

/-- Once every token of the step is routed in a slot, the tokens go out grouped by their set of remote devices (R262). -/
def dispatchExperts (l : LayerEntry) (s : State) : State :=
  let rs := s.work.routes.filter fun r => r.slot = l.slot
  if rs.length < s.tokenCount then s
  else
    let num := (s.fab.step.map (·.num)).getD 0
    let xs := match s.matOf l 7 0xFF with
      | some r => (s.mat? r).getD default
      | none => default
    let gate := (((List.range l.matCount).map (l.firstMat + ·)).findSome? fun i =>
      (s.mat? i).bind fun m => if m.role = 5 then some m.xscale else none).getD xs.xscale
    let sets := ((rs.map s.remoteSet).filter (!·.isEmpty)).eraseDups
    sets.foldl (fun s set =>
      let items := (rs.filter fun r => s.remoteSet r = set).map fun r =>
        (⟨r.token, (normalise s.image l 1 (s.residual r.token)).map fun e => quantise e gate, r.experts, r.weights⟩ : Routed)
      let body := McBody.mcdata ⟨num, l.slot, s.pos, items⟩
      let s := s.bump 0x6002 0x04 1
      sendHeld body (s.beat + s.rd 0x3102 0x04) (if set.length ≤ 16 then set else s.members) s) s

/-- A token routed: its experts and weights, then the dispatch of the slot (R260, R262). -/
def routeToken (l : LayerEntry) (mat token : Nat) (s : State) : State :=
  let sel := topExperts l.topK (s.rowVals mat token)
  let s := s.modWork fun w => { w with
    routes := w.routes ++ [⟨l.slot, token, sel.map (·.1), expertWeights sel, []⟩] }
  dispatchExperts l s

/-- An expert's output reaches the home device; once all are there, f := Σ w_r · y_r joins the stream (R263). -/
def expertReturn (slot token expert : Nat) (y : List F32) (s : State) : State :=
  match s.route? slot token with
  | none => s
  | some r =>
    if !r.experts.contains expert || r.returns.any (fun x => x.1 = expert) then s
    else
      let rets := r.returns ++ [(expert, y)]
      let s := s.modWork fun w => { w with
        routes := w.routes.map fun q => if q.slot = slot && q.token = token then { q with returns := rets } else q }
      if r.experts.all fun e => rets.any fun x => x.1 = e then
        let parts := List.zipWith (fun e w =>
          (((rets.find? fun x => x.1 = e).map (·.2)).getD []).map fun v => f32Mul w v) r.experts r.weights
        match parts with
        | [] => s
        | p :: ps => addResidual token 0 (ps.foldl (List.zipWith f32Add) p) s
      else s

/-- The row of an expert's DOWN matrix is whole: it joins the sum here or goes back to the home device (R263). -/
def finishExpert (l : LayerEntry) (mat expert token : Nat) (s : State) : State :=
  let y := s.rowVals mat token
  match s.route? l.slot token with
  | some _ => expertReturn l.slot token expert y s
  | none =>
    match s.dispatched l.slot token expert with
    | some (home, _) => s.send (.act home (.expert ((s.fab.step.map (·.num)).getD 0) l.slot token expert y))
    | none => s

/-! ## Row reductions (R140 to R142) -/

/-- The reduction of a row with one more block (R141). -/
def reduceBlock (squares : Bool) (r : RowRed) (o : OutBlk) : RowRed :=
  let cols := (List.range o.y.length).zip o.y
  let mx := cols.foldl (fun (a : Option (F32 × Nat)) c =>
    match a with
    | none => some (c.2, 32 * o.block + c.1)
    | some b => if f32Lt b.1 c.2 then some (c.2, 32 * o.block + c.1) else a)
    (if r.count = 0 then none else some (r.max, r.argmax))
  { r with
    next := r.next + 1
    max := (mx.map (·.1)).getD r.max
    argmax := (mx.map (·.2)).getD r.argmax
    sum := f32Add r.sum (sum32 (padTo 32 (if squares then o.y.map fun v => f32Mul v v else o.y)))
    count := r.count + o.y.length
    flags := r.flags ||| o.flags % 128 }

/-- The reduction record of a row. -/
def State.rowRed (s : State) (mat token : Nat) : RowRed :=
  (s.work.rows.find? fun r => r.mat = mat && r.token = token).getD ⟨mat, token, 0, f32Zero, 0, f32Zero, 0, 0⟩

/-- Blocks enter a row's total in ascending order; one that is ready out of order waits (R141). -/
def advanceRow (m : MatEntry) (mat token : Nat) : Nat → State → State
  | 0, s => s
  | fuel + 1, s =>
    let r := s.rowRed mat token
    match s.out? mat token r.next with
    | none => s
    | some o =>
      let r' := reduceBlock (bitOf m.red 2) r o
      advanceRow m mat token fuel (s.modWork fun w => { w with
        rows := (w.rows.filter fun x => !(x.mat = mat && x.token = token)) ++ [r']
        outs := w.outs.map fun x => if x.mat = mat && x.token = token && x.block = o.block then { x with reduced := true } else x })

/-- The delivered outputs of each line of the step as far as they are known in row order (R245, R254). -/
def headOutputs (s : State) : List (Nat × List Nat) :=
  s.lenTable.filterMap fun l =>
    let toks := if l.kind = 0 then (List.range l.count).map (l.tokbase + ·) else if l.kind = 2 then [l.tokbase + l.count - 1] else []
    let got := (toks.map fun t => sget 0 t s.work.heads).takeWhile (· ≠ 0)
    if got.isEmpty then none else some (l.req, got.map (· - 1))

/-- ROW_REDUCTION_RECORD (R142): once the row's last block has entered, its 16-byte record is written at the place that the
step's buffer plan gives it. A field that the matrix does not request holds its default; MAX has none and is left open. -/
def rowReductionRecord (mat token addr : Nat) (hw : HwCheck) (s : State) : State :=
  match s.mat? mat with
  | none => s
  | some m =>
    let r := s.rowRed mat token
    if !s.working || m.red % 8 = 0 || r.next < outBlocks m.n then s
    else
      let slot := s.slotOfMat mat
      let k := match hw with
        | .residue e => (false, layerError 10 5 e 0 0 slot (s.bumpSlot slot 0x22 1))
        | h => engineCheck h slot mat s
      if !k.1 then k.2
      else
        let s := k.2
        let wantsMax := bitOf m.red 0
        let d := s.draw
        let mx := if wantsMax then r.max.toNat else Config.freeValue d.1 % 2 ^ 32
        let s := if wantsMax then s else d.2
        let sum := if bitOf m.red 1 || bitOf m.red 2 then r.sum.toNat else 0
        let arg := if wantsMax then r.argmax else 0
        let rec_ := r.flags * 2 ^ 120 + r.count % 2 ^ 24 * 2 ^ 96 + arg * 2 ^ 64 + sum * 2 ^ 32 + mx
        let s := { s with mem := memWriteN addr (leBytes 16 rec_) s.mem }
        if m.role = 8 && wantsMax then
          let s := s.modWork fun w => { w with heads := sset 0 token (r.argmax + 1) w.heads }
          s.modStep fun st => { st with tokens := headOutputs s }
        else s

/-- The meaning of ROW_REDUCTION_RECORD. -/
def execRowReductionRecord (mat token addr : Nat) (hw : HwCheck) (s : State) : Res :=
  done s (rowReductionRecord mat token addr hw s)

/-! ## The merge of a block (R160, R161, R174) -/

/-- What a merged block does by its matrix's role. -/
def blockEffect (l : LayerEntry) (m : MatEntry) (mat token block : Nat) (passed : List F32) (s : State) : State :=
  if l.kind = 4 || l.kind = 5 then s
  else if m.role = 1 || m.role = 2 then appendKv l (m.role = 2) token block passed s
  else if m.role = 3 || (m.role = 6 && m.expert = 0xFF) then addResidual token (32 * block) passed s
  else if m.role = 6 then if s.rowDone mat token then finishExpert l mat m.expert token s else s
  else if m.role = 7 then if s.rowDone mat token then routeToken l mat token s else s
  else s

/-- BLOCK_MERGE (R160, R161): once a block's strip result and its token's digital sums are present, its outputs are formed,
reduced, requantised, and used by the layer. -/
def blockMerge (mat token block : Nat) (hw : HwCheck) (s : State) : State :=
  match s.mat? mat, s.layerOf? mat with
  | some m, some l =>
    let rbs := (List.range m.rbCount).map (m.rbFirst + ·)
    let tiers := rbs.filterMap fun r => s.tier? mat r token
    match s.work.merged.find? fun b => b.mat = mat && b.token = token && b.block = block && b.form = 0 with
    | none => s
    | some b =>
      if !s.working || tiers.length ≠ rbs.length || !(tiers.all (·.secondDone)) || (s.out? mat token block).isSome then s
      else
        let k := engineCheck hw l.slot mat s
        if !k.1 then k.2
        else
          let s := k.2
          let gB := s.blockGain mat (block / 16) rbs
          let cols := (List.range 32).filter fun j => decide (32 * block + j < m.n)
          let y := cols.map fun j => outputOf s m mat l.slot gB tiers (32 * block + j) (b.vals.getD j 0) b.exp
          let flags := tiers.foldl (fun f t => f ||| t.flags) b.flags
          let passed := y.map fun v => f32Mul v m.xscale
          let s := if bitOf flags flagOvf then s.bumpSlot l.slot 0x26 1 else s
          let s := if bitOf flags flagOclip then s.bumpSlot l.slot 0x2C 1 else s
          let o : OutBlk := ⟨mat, token, block, y, if m.req = 1 then y.map fun v => requant v m.rq else [], passed, flags, false⟩
          let s := orFlags token flags (s.modWork fun w => { w with outs := w.outs ++ [o] })
          let s := if m.red % 8 = 0 then s else advanceRow m mat token (outBlocks m.n) s
          blockEffect l m mat token block passed s
  | _, _ => s

/-- The meaning of BLOCK_MERGE. -/
def execBlockMerge (mat token block : Nat) (hw : HwCheck) (s : State) : Res := done s (blockMerge mat token block hw s)

/-! ## Arrivals (R52, R137, R263) -/

/-- ACT_ARRIVAL (R52, R137, R263): what arrives for the step in flight or a later one is held until it is used; an expert's
return joins its token's sum. -/
def actArrival (m : ActMsg) (s : State) : State :=
  let now := (s.fab.step.map (·.num)).getD s.fab.nextStep
  if stepOfAct m < now then s
  else
    match m with
    | .expert st slot token expert y =>
      if s.working && st = now then expertReturn slot token expert y s
      else s.modWork fun w => { w with acts := w.acts ++ [m] }
    | _ => s.modWork fun w => { w with acts := w.acts ++ [m] }

/-- The meaning of ACT_ARRIVAL. -/
def execActArrival (m : ActMsg) (s : State) : Res := doneQuiet s (actArrival m s)

end Sys2Proof.Machine
end

