-- ==== Sys2Proof/Machine/Attention.lean ====
section
/-! DEFINITION. Attention (R232, R233, R246 to R249, R265): the query of a head, scores over the visible positions of a span, the
two passes of a span, and the merge of the spans of a head. -/

namespace Sys2Proof.Machine
open Sys2Proof

/-- The first position beyond those that a query sees (R246). -/
def visibleEnd (l : LayerEntry) (ln : LenEntry) (token : Nat) : Nat :=
  if l.kind = 3 then ln.start + ln.count else positionOf ln token + 1

/-- The KV head of a query head (R246). -/
def kvHeadOf (l : LayerEntry) (head : Nat) : Nat := head / (l.heads / max 1 l.kvHeads)

/-- A page's header matches the address it was derived from (R232). -/
def headerOk (s : State) (page q lane chunk : Nat) : Bool := memReadN s.mem (page * 65536) 8 = pageHeader q lane chunk

/-- The integers and group scales of the entry of a position in a lane, by its page (R231, R233). -/
def kvEntry (s : State) (headDim page pos : Nat) : List Int × List F32 :=
  let int4 := s.rd 0x6000 0x01 = 0
  let t := s.kvT
  let base := page * 65536
  let data := memReadN s.mem (base + 256 + pos % t * s.kvData headDim) (s.kvData headDim)
  let scales := memReadN s.mem (base + 256 + t * s.kvData headDim + pos % t * kvScales headDim) (kvScales headDim)
  let ints := if int4 then data.flatMap fun b => [bitsInt 4 (b.toNat % 16), bitsInt 4 (b.toNat / 16)]
    else data.map int8OfByte
  (ints, scales.map fun b => f32OfE4m3 b.toNat)

/-- The query of a head: its integers and group scales (R247). -/
def State.query (s : State) (l : LayerEntry) (ln : LenEntry) (token head qmat : Nat) : List (Nat × List Int) :=
  let row := (s.rowVals qmat token).drop (head * l.headDim) |>.take l.headDim
  let v := s.rotate l.headDim (positionOf ln token) 0 row
  (chunks32 v.length v).map (quantGroup 127)

/-- The score of a key (R247). -/
def scoreOf (headDim : Nat) (q : List (Nat × List Int)) (k : List Int × List F32) : F32 :=
  let groups := q.zip (List.range q.length)
  let sum := groups.foldl (fun a g =>
    let kk := (k.1.drop (32 * g.2)).take 32
    let d := (g.1.2.zip kk).foldl (fun n p => n + p.1 * p.2) 0
    f32Add a (f32Mul (f32OfInt d) (f32Mul (f32OfE4m3 g.1.1) (k.2.getD g.2 f32Zero)))) f32Zero
  f32Mul sum (f32InvSqrt headDim)

/-- The value elements of a position (R233). -/
def valueOf (v : List Int × List F32) : List F32 :=
  (v.1.zip (List.range v.1.length)).map fun e => f32Mul (f32OfInt e.1) (v.2.getD (e.2 / 32) f32Zero)

/-- The largest of a list. -/
def maxOf (l : List F32) : F32 :=
  match l with
  | [] => f32Zero
  | x :: xs => xs.foldl f32Max x

/-- The K and V entries of every token of a line are written in the slot (R242). -/
def State.kvWritten (s : State) (l : LayerEntry) (ln : LenEntry) : Bool :=
  match s.matOf l 1 0xFF, s.matOf l 2 0xFF with
  | some k, some v => (List.range ln.count).all fun i => s.rowDone k (ln.tokbase + i) && s.rowDone v (ln.tokbase + i)
  | _, _ => false

/-- The layer of a slot. -/
def State.layer? (s : State) (slot : Nat) : Option LayerEntry := s.image.layers.find? fun l => l.slot = slot

/-- ATTENTION_SPAN (R248): the two passes of one span of 2,048 positions for a query head. A header that does not match, or an
uncorrectable word, is a detected error (R265). -/
def attentionSpan (slot token head span : Nat) (hw : HwCheck) (s : State) : State :=
  match s.layer? slot, s.lineOf token with
  | some l, some ln =>
    match s.matOf l 0 0xFF with
    | none => s
    | some qmat =>
      let last := visibleEnd l ln token
      let lo := 2048 * span
      let seen := s.work.spans.any fun x => x.slot = slot && x.token = token && x.head = head && x.span = span
      if !s.working || last ≤ lo || l.heads ≤ head || seen || !s.rowDone qmat token || !s.kvWritten l ln then s
      else
        let k := kvCheck hw slot ln.req s
        if !k.1 then k.2
        else
          let s := k.2
          let e := s.entry ln.req
          let t := s.kvT
          let kh := kvHeadOf l head
          let kl := laneOf s.image l false kh
          let vl := laneOf s.image l true kh
          let poss := (List.range (min 2048 (last - lo))).map (lo + ·)
          let pages := (poss.map (· / t)).eraseDups.flatMap fun c => [(kl, c), (vl, c)]
          let page (lane c : Nat) : Nat := (backedPage e lane c).getD 0
          match pages.find? fun x => !headerOk s (page x.1 x.2) ln.req x.1 x.2 with
          | some x =>
            stepError ⟨12, 3, page x.1 x.2 % 65536, 1, page x.1 x.2 * 65536, e.context, ln.req, slot⟩ (s.bump 0x6001 0x08 1)
          | none =>
            let q := s.query l ln token head qmat
            let sc := poss.map fun p => scoreOf l.headDim q (kvEntry s l.headDim (page kl (p / t)) p)
            let m := maxOf sc
            let ex := sc.map fun v => f32Exp (f32Sub v m)
            let vals := poss.map fun p => valueOf (kvEntry s l.headDim (page vl (p / t)) p)
            let u := (List.range l.headDim).map fun d =>
              rowSum (List.zipWith (fun w v => f32Mul w (v.getD d f32Zero)) ex vals)
            s.modWork fun w => { w with spans := w.spans ++ [⟨slot, token, head, span, m, rowSum ex, u⟩] }
  | _, _ => s

/-- The meaning of ATTENTION_SPAN. -/
def execAttentionSpan (slot token head span : Nat) (hw : HwCheck) (s : State) : Res :=
  doneQuiet s (attentionSpan slot token head span hw s)

/-- The spans of a head merged in ascending order (R249). -/
def mergeSpans : List SpanOut → List F32
  | [] => []
  | x :: xs =>
    let r := xs.foldl (fun (a : F32 × F32 × List F32) y =>
      let m := f32Max a.1 y.m
      let c0 := f32Exp (f32Sub a.1 m)
      let c1 := f32Exp (f32Sub y.m m)
      (m, f32Add (f32Mul a.2.1 c0) (f32Mul y.l c1),
        List.zipWith (fun p q => f32Add (f32Mul p c0) (f32Mul q c1)) a.2.2 y.u)) (x.m, x.l, x.u)
    r.2.2.map fun v => f32Div v r.2.1

/-- SPAN_MERGE (R249): once every span of a query head is present they merge in ascending order, and the head's part of the O
matrix's input is formed. -/
def spanMerge (slot token head : Nat) (hw : HwCheck) (s : State) : State :=
  match s.layer? slot, s.lineOf token with
  | some l, some ln =>
    let n := ceilDiv (visibleEnd l ln token) 2048
    let got := (List.range n).filterMap fun t =>
      s.work.spans.find? fun x => x.slot = slot && x.token = token && x.head = head && x.span = t
    let key := attnKey slot token head
    if !s.working || got.length ≠ n || !(sget [] key s.work.attn).isEmpty then s
    else
      let k := engineCheck hw slot l.firstMat s
      if !k.1 then k.2
      else k.2.modWork fun w => { w with attn := sset [] key (mergeSpans got) w.attn }
  | _, _ => s

/-- The meaning of SPAN_MERGE. -/
def execSpanMerge (slot token head : Nat) (hw : HwCheck) (s : State) : Res := doneQuiet s (spanMerge slot token head hw s)

end Sys2Proof.Machine
end

