-- ==== Sys2Proof/Machine/Effects.lean ====
section
/-! DEFINITION. The effects of scheduled commands at their effect beat e (R278, R284 to R292), and the Reserve tier's moves,
restorations and expiry. The effect of CONTEXT_RESET stands with the windows it closes. -/

namespace Sys2Proof.Machine
open Sys2Proof

/-- The held copy of a scheduled command that is due now: taken once for its message number, and acknowledged (R334). -/
def takeSched (msgnum cmd : Nat) (s : State) : Option (SchedMsg × State) :=
  match s.fab.scheds.find? fun m => m.msgnum = msgnum && m.cmd = cmd && m.effect = s.beat with
  | none => none
  | some m =>
    let s := s.modFab fun f => { f with
      scheds := f.scheds.filter fun x => x.msgnum ≠ msgnum
      acted := (f.acted ++ [msgnum]).drop (f.acted.length - 1023) }
    some (m, if s.isHead || !s.hasRegion then s else s.send (.packet 1 0x10 (s.treeParent s.headPos s.pos) m.mcnum [m.mcnum, 1]))

/-- The request that a command names is over, or is another request, at e (R286, R287). -/
def overFor (e : Entry) (m : SchedMsg) : Bool := e.state = 0 || e.state = 5 || e.state = 6 || e.tag ≠ m.tag

/-- ABORT_EFFECT (R286): too late where the request is over; otherwise DONE ABORTED, and a step in flight leaves it out. -/
def abortEffect (msgnum : Nat) (s : State) : State :=
  match takeSched msgnum 1 s with
  | none => s
  | some (m, s) =>
    if overFor (s.entry m.target) m then decideCmd m 3 20 s
    else decideCmd m 3 16 (finishEntry m.target 5 2 0 (leaveOut m.target s))

/-- The meaning of ABORT_EFFECT. -/
def execAbortEffect (msgnum : Nat) (s : State) : Res := doneQuiet s (abortEffect msgnum s)

/-- A command that waits for the resolution of the step in flight (R287 to R289). -/
def deferCmd (m : SchedMsg) (s : State) : State := s.modStep fun st => { st with deferred := st.deferred ++ [m] }

/-- CANCEL_EFFECT (R287). -/
def cancelEffect (msgnum : Nat) (s : State) : State :=
  match takeSched msgnum 2 s with
  | none => s
  | some (m, s) =>
    if overFor (s.entry m.target) m then decideCmd m 4 21 s
    else if s.inFlight m.target then deferCmd m s
    else decideCmd m 4 16 (finishEntry m.target 5 3 0 s)

/-- The meaning of CANCEL_EFFECT. -/
def execCancelEffect (msgnum : Nat) (s : State) : Res := doneQuiet s (cancelEffect msgnum s)

/-- DIP_EFFECT (R289). -/
def dipEffect (msgnum : Nat) (s : State) : State :=
  match takeSched msgnum 3 s with
  | none => s
  | some (m, s) =>
    let e := s.entry m.target
    if e.tag ≠ m.tag || !(e.state = 2 || e.state = 3) then decideCmd m 5 19 s
    else if s.inFlight m.target then deferCmd m s
    else decideCmd m 5 16 (dipNow m.target m.ttl s)

/-- The meaning of DIP_EFFECT. -/
def execDipEffect (msgnum : Nat) (s : State) : Res := doneQuiet s (dipEffect msgnum s)

/-- An entry has a page in the Reserve tier. -/
def hasReserve (e : Entry) : Bool := (e.pages.map (·.page) ++ e.statePages).any fun p => decide (0x400000 ≤ p)

/-- A member whose pages of a resumed entry are all restored says so: the head counts itself, another member reports on VC7
(R292). -/
def reportRestored (q : Nat) (s : State) : State :=
  if hasReserve (s.entry q) then s
  else if s.isHead then s.modEntry q fun e => { e with awaiting := e.awaiting.filter (· ≠ s.pos) }
  else sendVc7 s.headPos [1, q] s

/-- RESUME_EFFECT (R292): a DIPPED entry returns to DIPFROM with RESTORING set on the head, and its lease is released. -/
def resumeEffect (msgnum : Nat) (s : State) : State :=
  match takeSched msgnum 4 s with
  | none => s
  | some (m, s) =>
    let e := s.entry m.target
    if e.tag ≠ m.tag || e.state ≠ 4 then decideCmd m 6 19 s
    else
      let s := s.putEntry m.target { e with
        state := if e.dipfrom = 1 then 3 else 2
        restoring := s.isHead
        awaiting := if s.isHead then s.members else e.awaiting
        ttlEnd := 0 }
      decideCmd m 6 16 (reportRestored m.target s)

/-- The meaning of RESUME_EFFECT. -/
def execResumeEffect (msgnum : Nat) (s : State) : Res := doneQuiet s (resumeEffect msgnum s)

/-- A disable of entries at e (R288): those of a step in flight wait for its resolution, the others become DONE DISABLED. -/
def disableEntries (m : SchedMsg) (mine : Entry → Bool) (s : State) : State :=
  let qs := s.entriesWhere fun e => live e && e.state ≠ 5 && e.state ≠ 6 && mine e
  let s := if qs.any s.inFlight then deferCmd m s else s
  qs.foldl (fun s q => if s.inFlight q then s
    else
      let s := if (s.entry q).state = 4 then releasePages q s else s
      finishEntry q 5 4 0 s) s

/-- DISABLE_BURGEE (R288). -/
def disableBurgee (msgnum : Nat) (s : State) : State :=
  match takeSched msgnum 5 s with
  | none => s
  | some (m, s) => disableEntries m (fun e => e.burgee = m.target) s

/-- The meaning of DISABLE_BURGEE. -/
def execDisableBurgee (msgnum : Nat) (s : State) : Res := doneQuiet s (disableBurgee msgnum s)

/-- DISABLE_CONTEXT (R288). -/
def disableContext (msgnum : Nat) (s : State) : State :=
  match takeSched msgnum 6 s with
  | none => s
  | some (m, s) => disableEntries m (fun e => e.context = m.target) s

/-- The meaning of DISABLE_CONTEXT. -/
def execDisableContext (msgnum : Nat) (s : State) : Res := doneQuiet s (disableContext msgnum s)

/-- LIMIT_END (R278): a stranded QUEUED ENCODER entry becomes DONE ABORTED with flag LIMIT. -/
def limitEnd (msgnum : Nat) (s : State) : State :=
  match takeSched msgnum 8 s with
  | none => s
  | some (m, s) =>
    if (s.entry m.target).state ≠ 1 then s else finishEntry m.target 5 2 1024 (leaveOut m.target s)

/-- The meaning of LIMIT_END. -/
def execLimitEnd (msgnum : Nat) (s : State) : Res := doneQuiet s (limitEnd msgnum s)

/-! ## The Reserve tier (R290 to R292) -/

/-- A page copied: the listed bytes of the source page at the destination, whose bytes were zero (R290). -/
def copyPage (src dst : Nat) (m : List Host.Cell) : List Host.Cell :=
  let cells := m.filter fun c => decide (src * 65536 ≤ c.1) && decide (c.1 < (src + 1) * 65536)
  cells.foldl (fun m c => memWrite (dst * 65536 + (c.1 - src * 65536)) c.2 m) (memZero (dst * 65536) 65536 m)

/-- The page of a lane and chunk, or of state page lane − L, that a move or restoration names. -/
def State.movePage (s : State) (q lane chunk : Nat) : Option Nat :=
  let e := s.entry q
  let l := laneCount s.image
  if lane < l then backedPage e lane chunk else e.statePages[lane - l]?

/-- The half of a lane's pages. -/
def State.laneHalf (s : State) (lane : Nat) : Nat :=
  match laneLayer s.image lane with
  | some l => layerHalf l
  | none => 0

/-- The entry's record of a page rewritten (R290, R292). -/
def rehome (q lane chunk page : Nat) (s : State) : State :=
  let l := laneCount s.image
  s.modEntry q fun e =>
    if lane < l then
      { e with pages := e.pages.map fun p => if p.lane = lane && p.chunk = chunk then { p with page := page } else p }
    else { e with statePages := e.statePages.set (lane - l) page }

/-- RESERVE_MOVE (R290): a page of a DIPPED entry goes to a free Reserve page of its half, its record is rewritten and its
HBM4 page returns; without a free Reserve page it stays and is counted. -/
def reserveMove (q lane chunk : Nat) (s : State) : State :=
  match s.movePage q lane chunk with
  | none => s
  | some p =>
    if (s.entry q).state ≠ 4 || 0x400000 ≤ p then s
    else
      match s.takeReserve (s.laneHalf lane) with
      | none => s.bump 0x6003 0x06 1
      | some (r, s) =>
        let s := { s with mem := copyPage p r s.mem }
        ((rehome q lane chunk r s).returnPages [p]).bump 0x6003 0x04 1

/-- The meaning of RESERVE_MOVE. -/
def execReserveMove (entry lane chunk : Nat) (s : State) : Res := done s (reserveMove entry lane chunk s)

/-- RESERVE_EXPIRY (R291): at TTL_END the entry's pages are freed and it becomes DONE EXPIRED. -/
def reserveExpiry (q : Nat) (s : State) : State :=
  let e := s.entry q
  if e.state ≠ 4 || s.beat < e.ttlEnd then s
  else
    let s := forfeit false e.context ((s.late e.ttlEnd).bump 0x6003 0x07 1)
    finishEntry q 5 5 0 (releasePages q s)

/-- The meaning of RESERVE_EXPIRY. -/
def execReserveExpiry (entry : Nat) (s : State) : Res := doneQuiet s (reserveExpiry entry s)

/-- RESTORE_PAGE (R292): a Reserve page of a resumed entry is copied into a pool page of its half and its header is checked;
a mismatch is a detected error (R265). -/
def restorePage (q lane chunk : Nat) (s : State) : State :=
  match s.movePage q lane chunk with
  | none => s
  | some r =>
    let e := s.entry q
    if !(e.state = 2 || e.state = 3) || r < 0x400000 then s
    else
      match s.takePage (s.laneHalf lane) with
      | none => s
      | some (p, s) =>
        let s := { s with mem := copyPage r p s.mem }
        let s := rehome q lane chunk p s
        let s := { s with pool := { s.pool with
          resUsed := s.pool.resUsed.filter (· ≠ r), resZeroing := s.pool.resZeroing ++ [r] } }
        let s := s.bump 0x6003 0x05 1
        let bad := decide (lane < laneCount s.image) && decide (memReadN s.mem (p * 65536) 8 ≠ pageHeader q lane chunk)
        let s := if bad then
            detectError ⟨12, 3, 0, 1, p * 65536, e.context, q, 0xFF⟩ (s.bump 0x6001 0x08 1)
          else s
        reportRestored q s

/-- The meaning of RESTORE_PAGE. -/
def execRestorePage (entry lane chunk : Nat) (s : State) : Res := done s (restorePage entry lane chunk s)

/-- RESTORE_REPORT (R292): a member's report that every page of the entry is restored reaches the head. -/
def restoreReport (q member : Nat) (s : State) : State :=
  let s := takeMgmt s
  if !s.isHead || !(s.entry q).restoring then s
  else s.modEntry q fun e => { e with awaiting := e.awaiting.filter (· ≠ member) }

/-- The meaning of RESTORE_REPORT. -/
def execRestoreReport (entry member : Nat) (s : State) : Res := doneQuiet s (restoreReport entry member s)

/-- PAGE_ZERO (R239, R290): a page that waits for zeroing is written with zero and is free again. -/
def pageZero (page : Nat) (s : State) : State :=
  if s.pool.zeroing.contains page then
    let s := { s with mem := memZero (page * 65536) 65536 s.mem, pool := { s.pool with zeroing := s.pool.zeroing.filter (· ≠ page) } }
    s.bump 0x6001 0x06 1
  else if s.pool.resZeroing.contains page then
    { s with mem := memZero (page * 65536) 65536 s.mem, pool := { s.pool with resZeroing := s.pool.resZeroing.filter (· ≠ page) } }
  else s

/-- The meaning of PAGE_ZERO. -/
def execPageZero (page : Nat) (s : State) : Res := done s (pageZero page s)

end Sys2Proof.Machine
end

