-- ==== Sys2Proof/Machine/Operands.lean ====
section
/-! DEFINITION. Structures that the device stores or is handed, byte for byte: the request entry of R268, the descriptor of
R213, the window request of R218, the completion record of R216, the message records of R226 and the samples of R473; and the
device address map of R200 with the buffers that lie in it. -/

namespace Sys2Proof.Machine
open Sys2Proof

/-! ## The device address map (R200 to R204) -/

/-- The ranges of R200 as (kind, base, size): kind 0 and 1 the scratchpads of Hoist and Fly, 2 + n the staging buffer of Greund
die n, 10 and 11 HBM4, 12 and 13 LPDDR5X. -/
def devRanges : List (Nat × Nat × Nat) :=
  [(0, 0, 0xA000000), (1, 0x10000000, 0xA000000)] ++
  (List.range 8).map (fun n => (2 + n, 0x20000000 + n * 0x2000000, 0x1800000)) ++
  [(10, 0x1000000000, 0x1800000000), (11, 0x2800000000, 0x1800000000), (12, 0x4000000000, 0x2000000000),
   (13, 0x6000000000, 0x2000000000)]

/-- The kind of the range that holds n bytes from an address whole; none for a reserved address or one range left for another. -/
def rangeOf (a n : Nat) : Option Nat :=
  (devRanges.find? fun r => decide (r.2.1 ≤ a) && decide (a + n ≤ r.2.1 + r.2.2)).map (·.1)

/-- The first address of a granule: numbers 0 to 2,559 on Hoist, then Fly (R202, R471). -/
def granuleAddr (g : Nat) : Nat := 0x10000000 * (g / 2560) + 65536 * (g % 2560)

/-- The granule of a scratchpad address. -/
def granuleOf (a : Nat) : Nat := 2560 * (a / 0x10000000) + a % 0x10000000 / 65536

/-- The granules of a buffer. -/
def Buf.granules (b : Buf) : List Nat := (List.range (b.len / 65536)).map (granuleOf b.base + ·)

/-- The granules that are not free: in a buffer, waiting for zeroing, or retired. -/
def State.takenGranules (s : State) : List Nat :=
  s.bufs.flatMap Buf.granules ++ s.granZero ++ (s.faults.retiredUnits.filter (·.1 = 1)).map (·.2)

/-- A granule is not free. -/
def State.granuleTaken (s : State) (g : Nat) : Bool := s.takenGranules.contains g

/-- Free granules of a half (R228). -/
def State.freeGranules (s : State) (half : Nat) : Nat := 2560 - (s.takenGranules.eraseDups.filter fun g => g / 2560 = half).length

/-- The end of what the buffers of a context hold from an address on, without a gap. -/
def State.coverEnd (s : State) (ctx : Nat) : Nat → Nat → Nat
  | 0, a => a
  | fuel + 1, a =>
    match s.bufs.find? fun b => b.ctx = ctx && decide (b.base ≤ a) && decide (a < b.base + b.len) with
    | some b => s.coverEnd ctx fuel (b.base + b.len)
    | none => a

/-- n bytes from an address lie in the context's buffers (R214). -/
def State.inBuffers (s : State) (ctx a n : Nat) : Bool := decide (a + n ≤ s.coverEnd ctx (s.bufs.length + 1) a)

/-- n bytes from an address lie within one buffer of the context that no reset waits to free (R218, R226). -/
def State.inOneBuffer (s : State) (ctx a n : Nat) : Bool :=
  s.bufs.any fun b => b.ctx = ctx && !b.freeing && decide (b.base ≤ a) && decide (a + n ≤ b.base + b.len)

/-! ## The request entry (R268) -/

/-- PAGELIST: the device address of an entry's directory (R235). -/
def State.directory (s : State) (q : Nat) : Nat := Config.directoryBase s.maxChunk + q * s.directoryBytes

/-- The 512 bits of a request entry; fields kept on the head or the tail alone read 0 elsewhere. -/
def State.entryNumber (s : State) (q : Nat) : Nat :=
  let e := s.entry q
  let head (v : Nat) : Nat := if s.isHead then v else 0
  let tail (v : Nat) : Nat := if s.isTail then v else 0
  let store := match e.tokPages with | p :: _ => p * 65536 | [] => 0
  head e.deadline * 2 ^ 448 + e.ttlEnd * 2 ^ 384 + s.directory q % 2 ^ 40 * 2 ^ 320 + head store * 2 ^ 256 +
  e.tag * 2 ^ 224 + tail e.tokensOut * 2 ^ 192 + e.maxNew * 2 ^ 160 + e.stop * 2 ^ 128 + e.promptLen * 2 ^ 96 +
  e.committed * 2 ^ 64 + e.state * 2 ^ 61 + e.cls * 2 ^ 60 + head e.prio * 2 ^ 58 + e.spec * 2 ^ 54 + e.dipfrom * 2 ^ 53 +
  head (b2n e.restoring) * 2 ^ 52 + b2n e.held * 2 ^ 51 + e.context * 2 ^ 38 + e.burgee * 2 ^ 30 + tail e.sflags * 2 ^ 23

/-- The 64 bytes of a request entry. -/
def State.entryBytes (s : State) (q : Nat) : Bytes := leBytes 64 (s.entryNumber q)

/-! ## Descriptors (R213, R216) -/

/-- A descriptor from its 32 bytes. -/
def parseDesc (seq : Nat) (data : Bytes) : Desc :=
  let v := leNat data
  { seq := seq, op := bits v 255 252, transpose := bitOf v 251, fence := bitOf v 250, rows := bits v 247 232
    ctx := bits v 231 216, window := bits v 215 200, target := bits v 199 176, length := bits v 175 160
    sstride := bits v 159 144, dstride := bits v 143 128, src := bits v 127 88, dst := bits v 87 48, compl := bits v 47 8
    complEn := bitOf v 0, aborted := false }

/-- The source address of a row. -/
def Desc.srcRow (d : Desc) (r : Nat) : Nat := d.src + 64 * d.sstride * r

/-- The destination address of a row, or its offset in a window. -/
def Desc.dstRow (d : Desc) (r : Nat) : Nat := d.dst + 64 * d.dstride * r

/-- The device addresses of a descriptor's rows: those it reads, unless it fills, and those it writes on this device. -/
def Desc.rowAddrs (d : Desc) : List Nat :=
  (if d.op = 1 then [] else (List.range d.rows).map d.srcRow) ++ (if d.op ≤ 1 then (List.range d.rows).map d.dstRow else [])

/-- The completion record (R216). -/
def completionRecord (d : Desc) (status bytes : Nat) : Bytes :=
  leBytes 4 status ++ leBytes 4 d.seq ++ leBytes 8 bytes

/-! ## Windows and messages (R218, R219, R226) -/

/-- A window request. -/
structure WinReq where
  ctx : Nat
  len : Nat
  base : Nat
  expiry : Nat
  devices : List Nat
  deriving DecidableEq, Repr

/-- A window request from its 64 bytes. -/
def parseWinReq (data : Bytes) : WinReq :=
  ⟨leAt data 0 2, leAt data 4 4, leAt data 8 8, leAt data 16 8, (List.range 16).map fun i => leAt data (24 + 2 * i) 2⟩

/-- A window identifier: GEN[15:8], SLOT[6:0] (R219). -/
def windowId (gen slot : Nat) : Nat := 256 * gen + slot

/-- Bytes that the record of a message of n bytes occupies (R226). -/
def recordBytes (n : Nat) : Nat := 64 * ceilDiv (16 + n) 64

/-- The record of a message (R226). -/
def messageRecord (m : MsgIn) (beat : Nat) : Bytes :=
  leBytes 2 m.data.length ++ zeros 2 ++ leBytes 4 m.sender ++ leBytes 8 beat ++ m.data

/-! ## Samples (R463, R473) -/

/-- A list cut into pieces of n. -/
def pieces {α : Type} (n : Nat) : Nat → List α → List (List α)
  | 0, _ => []
  | fuel + 1, l => if l.isEmpty then [] else l.take n :: pieces n fuel (l.drop n)

/-- The block of one buffer in a sample. -/
def bufferBlock (s : State) (b : Buf) : Bytes :=
  let n := min 4096 b.len
  leBytes 8 b.base ++ leBytes 4 n ++ zeros 4 ++ memReadN s.mem b.base n

/-- The payloads of a context's sample: up to three buffers each, then up to 240 entries each. -/
def samplePayloads (s : State) (ctx : Nat) : List Bytes :=
  let bufs := s.bufs.filter fun b => b.ctx = ctx
  let qs := s.entriesWhere fun e => live e && e.context = ctx
  (pieces 3 bufs.length bufs).map (fun p => p.flatMap (bufferBlock s)) ++
    (pieces 240 qs.length qs).map fun p => p.flatMap s.entryBytes

end Sys2Proof.Machine
end

