-- ==== Sys2Proof/Machine/Windows.lean ====
section
/-! DEFINITION. Scratchpad buffers, remote windows and messages (R202, R217 to R228), the leases on them (R464, R465), and the
reset of a context (R461 to R463). -/

namespace Sys2Proof.Machine
open Sys2Proof

/-! ## Buffers (R202) -/

/-- A descriptor in progress reads or writes the buffer on behalf of its context. -/
def touches (b : Buf) (d : Desc) : Bool :=
  d.ctx = b.ctx && d.rowAddrs.any fun a => decide (a < b.base + b.len) && decide (b.base < a + d.length)

/-- A descriptor in progress stopped with ABORTED where its status is not decided (R214, R227). -/
def abortRun (r : DescRun) : DescRun := if r.status.isSome then r else { r with status := some 5 }

/-- Descriptors in progress that a condition names are stopped at their next row. -/
def stopRuns (p : Desc → Bool) (s : State) : State :=
  { s with dma := s.dma.map fun e =>
      (e.1, { e.2 with running := e.2.running.map fun r => if p r.d then abortRun r else r }) }

/-- The message ring of a context lies in the buffer. -/
def State.ringIn (s : State) (b : Buf) : Bool :=
  let base := s.rdI 0x5021 0x04 b.ctx
  let len := s.rdI 0x5021 0x05 b.ctx
  base ≠ 0 && decide (base < b.base + b.len) && decide (b.base < base + max 1 len)

/-- A buffer freed: its granules wait to be zeroed, descriptors on it stop, and a message ring in it is gone (R202, R214, R226). -/
def freeBuf (b : Buf) (s : State) : State :=
  let s := if s.ringIn b then (s.wrI 0x5021 0x04 b.ctx 0).wrI 0x5021 0x05 b.ctx 0 else s
  stopRuns (touches b) { s with bufs := s.bufs.filter (· ≠ b), granZero := s.granZero ++ b.granules }

/-- The context has a window whose drain has not ended. -/
def State.draining (s : State) (ctx : Nat) : Bool := s.wins.any fun w => w.2.state = 2 && w.2.ctx = ctx

/-- The buffers of a reset context are freed once every drain of its windows has ended (R227). -/
def freeAfterDrain (ctx : Nat) (s : State) : State :=
  if s.draining ctx then s
  else (s.bufs.filter fun b => b.ctx = ctx && b.freeing).foldl (fun s b => freeBuf b s) s

/-- GRANULE_ZERO (R202): a freed granule is written with zero and may be allotted again. -/
def granuleZero (g : Nat) (s : State) : State :=
  if s.granZero.contains g then
    { s with mem := memZero (granuleAddr g) 65536 s.mem, granZero := s.granZero.filter (· ≠ g) }
  else s

/-- The meaning of GRANULE_ZERO. -/
def execGranuleZero (granule : Nat) (s : State) : Res := done s (granuleZero granule s)

/-- A context is live (R465): it holds a non-FREE entry, a window, a message ring or a descriptor in progress. -/
def State.contextLive (s : State) (ctx : Nat) : Bool :=
  (s.table.any fun e => live e.2 && e.2.context = ctx) || (s.wins.any fun w => w.2.state ≠ 0 && w.2.ctx = ctx) ||
    (s.rdI 0x5021 0x04 ctx ≠ 0 && s.rdI 0x5021 0x05 ctx ≠ 0) ||
    (s.dma.any fun e => e.2.running.any fun r => r.d.ctx = ctx)

/-- BUFFER_LEASE_EXPIRY (R465): 16 boundaries after the last at which its context was live, a buffer is freed and zeroed. -/
def bufferLeaseExpiry (ctx base : Nat) (s : State) : State :=
  match s.bufs.find? fun b => b.ctx = ctx && b.base = base with
  | none => s
  | some b =>
    let due := b.live + 16 * s.frameLen
    if s.beat < due then s else freeBuf b (forfeit false ctx (s.late due))

/-- The meaning of BUFFER_LEASE_EXPIRY. -/
def execBufferLeaseExpiry (ctx base : Nat) (s : State) : Res := doneQuiet s (bufferLeaseExpiry ctx base s)

/-! ## Windows (R217 to R224) -/

/-- Windows are allowed in the region (R217). -/
def State.windowsAllowed (s : State) : Bool := s.hasRegion && decide (s.memberCount ≤ 4096)

/-- A role owns a context (R217). -/
def ownsContext (s : State) (role : Role) (ctx : Nat) : Bool :=
  match role with
  | .operator => true
  | .tenant b => s.burgeeOf ctx = b
  | .observer => false

/-- The lowest FREE slot (R219). -/
def State.freeSlot (s : State) : Option Nat := (List.range 128).find? fun w => (s.win w).state = 0

/-- The reason why a window request is rejected; 0 where it is not (R218). -/
def windowReason (role : Role) (q : WinReq) (s : State) : Nat :=
  let listed := q.devices.filter (· ≠ 0xFFFF)
  if !s.windowsAllowed then 1
  else if 1023 < q.ctx || !ownsContext s role q.ctx then 2
  else if q.len < 64 || 16777216 < q.len || q.len % 64 ≠ 0 || q.base % 64 ≠ 0 || !s.inOneBuffer q.ctx q.base q.len then 3
  else if s.wins.any fun w => w.2.state ≠ 0 && w.2.ctx = q.ctx && decide (q.base < w.2.base + w.2.len)
      && decide (w.2.base < q.base + q.len) then 4
  else if s.freeSlot.isNone then 5
  else if listed.isEmpty || listed.any fun d => d ≠ 0xFFFE && decide (s.memberCount ≤ d) then 6
  else if q.expiry < s.beat + 64 then 7
  else 0

/-- The result of the latest window request of a session (R380). -/
def windowResult (c : WriteCtx) (reason : Nat) (id : Option Nat) (s : State) : State :=
  match c.session with
  | none => s
  | some i => s.modSession i fun x => { x with winReason := reason, winId := id.getD x.winId }

/-- A window opened in the lowest FREE slot (R218, R219). -/
def openWindow (c : WriteCtx) (s : State) : State :=
  let q := parseWinReq c.data
  match s.freeSlot with
  | none => s
  | some w =>
    let s := s.modWin w fun x => { x with
      state := 1, ctx := q.ctx, base := q.base, len := q.len, expiry := q.expiry, devices := q.devices, close := 0, drain := 0 }
    windowResult c 0 (some (windowId (s.win w).gen w)) s

/-- WINDOW_OPEN (R218). -/
def windowOpen (r : DictReq) (data : Bytes) (s : State) : State :=
  dictWriteElse r 0x3203 0x01 data (fun c s => windowReason c.role (parseWinReq c.data) s = 0) (fun _ c s => openWindow c s)
    (fun c s => windowResult c (windowReason c.role (parseWinReq c.data) s) none s) s

/-- The meaning of WINDOW_OPEN. -/
def execWindowOpen (r : DictReq) (data : Bytes) (s : State) : Res := doneQuiet s (windowOpen r data s)

/-- A close at the present beat: an OPEN slot is CLOSING; another is left as it is (R223). -/
def closeWin (w : Nat) (s : State) : State :=
  if (s.win w).state = 1 then s.modWin w fun x => { x with state := 2, close := s.beat, drain := s.rd 0x3202 0x03 } else s

/-- The close that a write of a window identifier requests, of a window of the writer's contexts. -/
def closeById (c : WriteCtx) (s : State) : State :=
  let w := c.value % 128
  if c.value / 128 % 2 = 0 && (s.win w).gen = c.value / 256 && ownsContext s c.role (s.win w).ctx then closeWin w s else s

/-- WINDOW_CLOSE (R223). -/
def windowClose (r : DictReq) (data : Bytes) (s : State) : State :=
  dictWrite r 0x3203 0x02 data (fun _ _ => true) (fun _ c s => closeById c s) s

/-- The meaning of WINDOW_CLOSE. -/
def execWindowClose (r : DictReq) (data : Bytes) (s : State) : Res := doneQuiet s (windowClose r data s)

/-- WINDOW_LEASE_EXPIRY (R465): at EXPIRY an OPEN window closes. -/
def windowLeaseExpiry (w : Nat) (s : State) : State :=
  let x := s.win w
  if x.state ≠ 1 || s.beat < x.expiry then s else closeWin w (forfeit false x.ctx (s.late x.expiry))

/-- The meaning of WINDOW_LEASE_EXPIRY. -/
def execWindowLeaseExpiry (slot : Nat) (s : State) : Res := doneQuiet s (windowLeaseExpiry slot s)

/-- WINDOW_FREE (R223): at beat b + D + 1 the slot is FREE under the next generation; its write counters run on. -/
def windowFree (w : Nat) (s : State) : State :=
  let x := s.win w
  if x.state ≠ 2 || s.beat < x.close + x.drain + 1 then s
  else
    let s := s.late (x.close + x.drain + 1)
    let s := s.modWin w fun x => { Win.free with gen := (x.gen + 1) % 256, accepted := x.accepted, refused := x.refused }
    freeAfterDrain x.ctx s

/-- The meaning of WINDOW_FREE. -/
def execWindowFree (slot : Nat) (s : State) : Res := doneQuiet s (windowFree slot s)

/-- WINDOW_EXPIRY_WRITE (R228, R223, R464): only a later beat, only while OPEN, and only before the beat of expiry. -/
def windowExpiryWrite (r : DictReq) (w : Nat) (data : Bytes) (s : State) : State :=
  if 128 ≤ w then s
  else
    dictWrite r (0x3280 + w) 0x06 data
      (fun c s => (s.win w).state = 1 && decide ((s.win w).expiry < c.value) && decide (s.beat < (s.win w).expiry))
      (fun _ c s => s.modWin w fun x => { x with expiry := c.value }) s

/-- The meaning of WINDOW_EXPIRY_WRITE. -/
def execWindowExpiryWrite (r : DictReq) (slot : Nat) (data : Bytes) (s : State) : Res :=
  doneQuiet s (windowExpiryWrite r slot data s)

/-- The status of an arriving remote write: the first failing test of R221. -/
def writeStatus (m : RWrite) (s : State) : Nat :=
  let x := s.win (m.window % 128)
  if m.window / 128 % 2 = 1 || x.state = 0 || x.gen ≠ m.window / 256 then 1
  else if !(x.devices.contains 0xFFFE || (x.devices.contains m.sender && m.sender ≠ 0xFFFF)) then 2
  else if x.len < m.offset + m.data.length then 3
  else if x.state = 2 && !(decide (m.issue < x.close) && decide (s.beat ≤ x.close + x.drain)) then 1
  else 0

/-- The answer to a remote write or a message, on VC1 in the beat of arrival (R221, R225). -/
def answerTo (sender engine seq status bytes : Nat) (s : State) : State :=
  s.send (.packet 1 0x11 (s.memberPos sender) seq [engine, seq, status, bytes])

/-- REMOTE_WRITE_ARRIVAL (R221): accepted whole, or dropped, counted and answered with its status. -/
def remoteWriteArrival (m : RWrite) (s : State) : State :=
  let st := writeStatus m s
  let w := m.window % 128
  let s := if st = 0 then
      let s := { s with mem := memWriteN ((s.win w).base + m.offset) m.data s.mem }
      (s.bump 0x3202 0x05 1).modWin w fun x => { x with accepted := (x.accepted + 1) % 2 ^ 64 }
    else
      let s := s.bump 0x3202 0x04 1
      if m.window / 128 % 2 = 1 then s else s.modWin w fun x => { x with refused := (x.refused + 1) % 2 ^ 64 }
  answerTo m.sender m.engine m.seq st (if st = 0 then m.data.length else 0) s

/-- The meaning of REMOTE_WRITE_ARRIVAL. -/
def execRemoteWriteArrival (w : RWrite) (s : State) : Res := done s (remoteWriteArrival w s)

/-! ## Messages (R225, R226) -/

/-- A context has a message ring: base and length, in a buffer that no reset waits to free. -/
def State.msgRing (s : State) (ctx : Nat) : Option (Nat × Nat) :=
  let base := s.rdI 0x5021 0x04 ctx
  let len := s.rdI 0x5021 0x05 ctx
  if base ≠ 0 && len ≠ 0 && s.inOneBuffer ctx base len then some (base, len) else none

/-- A field of a message ring's header. -/
def State.ringWord (s : State) (base o : Nat) : Nat := leNat (memReadN s.mem (base + o) 4)

/-- A field of a message ring's header stored. -/
def putRingWord (base o v : Nat) (s : State) : State := { s with mem := memWriteN (base + o) (leBytes 4 v) s.mem }

/-- The pad before a record that does not fit before the end of the data area (R226). -/
def padBytes (area pos n : Nat) : Nat := if area < pos + recordBytes n then area - pos else 0

/-- MESSAGE_ARRIVAL (R225, R226): appended to the context's ring, a pad record first where it would wrap; or refused with FULL. -/
def messageArrival (m : MsgIn) (s : State) : State :=
  let n := m.data.length
  let refuse (s : State) : State := answerTo m.sender m.engine m.seq 7 0 (s.bump 0x3202 0x07 1)
  match s.msgRing m.context with
  | none => refuse s
  | some (base, len) =>
    let area := len - 64
    let p := s.ringWord base 0
    let used := (p + 0x100000000 - s.ringWord base 4) % 0x100000000
    let pos := p % area
    let pad := padBytes area pos n
    if n = 0 || 4096 < n || area < used + pad + recordBytes n then
      refuse (putRingWord base 12 ((s.ringWord base 12 + 1) % 0x100000000) s)
    else
      let data := base + 64
      let s := if pad = 0 then s else { s with mem := memWriteN (data + pos) (leBytes 2 0xFFFF) s.mem }
      let at_ := if pad = 0 then pos else 0
      let s := { s with mem := memWriteN (data + at_) (messageRecord m s.beat) s.mem }
      let s := putRingWord base 0 ((p + pad + recordBytes n) % 0x100000000) s
      let s := putRingWord base 8 ((s.ringWord base 8 + 1) % 0x100000000) s
      answerTo m.sender m.engine m.seq 0 n s

/-- The meaning of MESSAGE_ARRIVAL. -/
def execMessageArrival (m : MsgIn) (s : State) : Res := done s (messageArrival m s)

/-- A message ring's base or length may take a value (R226, R293). -/
def ringValueOk (sub : Nat) (c : WriteCtx) (s : State) : Bool :=
  let base := if sub = 4 then c.value else s.rdI 0x5021 0x04 c.inst
  let len := if sub = 5 then c.value else s.rdI 0x5021 0x05 c.inst
  (base = 0 || len = 0 || s.inOneBuffer c.inst base len) &&
    (if sub = 4 then c.value = 0 || s.inOneBuffer c.inst c.value 1
     else c.value = 0 || (c.value % 4096 = 0 && decide (4096 ≤ c.value) && decide (c.value ≤ 167772160)))

/-- The header of a set ring zeroed (R226). -/
def resetRing (ctx : Nat) (s : State) : State :=
  let base := s.rdI 0x5021 0x04 ctx
  if base = 0 || s.rdI 0x5021 0x05 ctx = 0 then s else { s with mem := memZero base 64 s.mem }

/-- MESSAGE_RING_WRITE (R226): a write of 0x5021:04 or 0x5021:05. -/
def messageRingWrite (r : DictReq) (sub : Nat) (data : Bytes) (s : State) : State :=
  if sub ≠ 4 && sub ≠ 5 then s
  else dictWrite r 0x5021 sub data (ringValueOk sub) (fun row c s => resetRing c.inst (storeWrite row 0x5021 sub c s)) s

/-- The meaning of MESSAGE_RING_WRITE. -/
def execMessageRingWrite (r : DictReq) (sub : Nat) (data : Bytes) (s : State) : Res := done s (messageRingWrite r sub data s)

/-! ## Context reset (R227, R462, R463) -/

/-- The sample of a context, with its CONTEXT_RESET record before it (R463, R473). -/
def logSample (ctx : Nat) (s : State) : State :=
  let n := (s.bufs.filter fun b => b.ctx = ctx).length
  let ps := samplePayloads s ctx
  let s := s.log { newRec s 3 0 with context := ctx, detail := n }
  ps.foldl (fun s p => s.log { newRec s 4 0 with context := ctx, payload := p }) s

/-- Queued descriptors of a reset context will end with ABORTED (R227). -/
def markAborted (ctx : Nat) (s : State) : State :=
  { s with dma := s.dma.map fun (e : Nat × Dma) =>
      (e.1, { e.2 with queue := e.2.queue.map fun (d : Desc) => if d.ctx = ctx then { d with aborted := true } else d }) }

/-- Windows, descriptors and buffers at the reset of a context (R227). -/
def releaseContext (ctx : Nat) (s : State) : State :=
  let slots := (s.wins.filter fun w => w.2.state = 1 && w.2.ctx = ctx).map (·.1)
  let s := slots.foldl (fun s w => closeWin w s) s
  let s := stopRuns (fun d => d.ctx = ctx) s
  let s := markAborted ctx s
  freeAfterDrain ctx { s with bufs := s.bufs.map fun (b : Buf) => if b.ctx = ctx then { b with freeing := true } else b }

/-- The reset of a context as it acts at e (R461 to R463). -/
def resetContext (ctx : Nat) (s : State) : State :=
  let byFault := s.faults.ctxResets.contains (ctx, true)
  let s := logSample ctx s
  let qs := s.entriesWhere fun e => live e && e.state ≠ 5 && e.state ≠ 6 && e.context = ctx
  let s := qs.foldl (fun s q => finishEntry q 6 6 0 (leaveOut q s)) s
  let s := (releaseContext ctx s).bump 0x7001 0x05 1
  let s := { s with faults := { s.faults with ctxResets := s.faults.ctxResets.filter fun x => x.1 ≠ ctx } }
  if byFault then countFaultReset s else s

/-- CONTEXT_RESET (R462). -/
def contextReset (msgnum : Nat) (s : State) : State :=
  match takeSched msgnum 7 s with
  | none => s
  | some (m, s) => resetContext m.target s

/-- The meaning of CONTEXT_RESET. -/
def execContextReset (msgnum : Nat) (s : State) : Res := doneQuiet s (contextReset msgnum s)

end Sys2Proof.Machine
end

