-- ==== Sys2Proof/Machine/Dma.lean ====
section
/-! DEFINITION. The DMA engines (R211 to R216, R220, R222, R225), parity errors on their transfers (R206, R454), and the
patrol scrubber (R178, R264). -/

namespace Sys2Proof.Machine
open Sys2Proof

/-- A descriptor in progress on an engine. -/
def State.run? (s : State) (engine seq : Nat) : Option DescRun := (s.engine engine).running.find? fun r => r.d.seq = seq

/-- A descriptor in progress changed. -/
def State.modRun (s : State) (engine seq : Nat) (f : DescRun → DescRun) : State :=
  s.modEngine engine fun e => { e with running := e.running.map fun r => if r.d.seq = seq then f r else r }

/-! ## Submitting and starting -/

/-- A descriptor enters an engine's queue under the next sequence number (R212, R216). -/
def enqueueDesc (engine : Nat) (data : Bytes) (s : State) : State :=
  s.modEngine engine fun e =>
    { e with queue := e.queue ++ [parseDesc e.nextSeq data], nextSeq := (e.nextSeq + 1) % 0x100000000 }

/-- DESCRIPTOR_SUBMIT (R212). -/
def descriptorSubmit (r : DictReq) (data : Bytes) (s : State) : State :=
  dictWriteElse r 0x3210 0x01 data (fun _ s => decide ((s.engine (s.rd 0x3210 0x02)).queue.length < 64))
    (fun _ c s => enqueueDesc (s.rd 0x3210 0x02) c.data (s.wr 0x3210 0x03 0)) (fun _ s => s.wr 0x3210 0x03 1) s

/-- The meaning of DESCRIPTOR_SUBMIT. -/
def execDescriptorSubmit (r : DictReq) (data : Bytes) (s : State) : Res := doneQuiet s (descriptorSubmit r data s)

/-- A staging range of the half that is not the engine's (R204). -/
def farStaging (engine kind : Nat) : Bool := decide (2 ≤ kind) && decide (kind ≤ 9) && decide ((kind - 2) / 4 ≠ engine / 8)

/-- The status with which a descriptor fails its check before it moves a byte, if it does (R200, R204, R214, R215, R225, R227). -/
def descCheck (engine : Nat) (d : Desc) (s : State) : Option Nat :=
  let spans := d.rowAddrs.map (fun a => (a, d.length)) ++ (if d.complEn then [(d.compl, 16)] else [])
  let kinds := spans.filterMap fun x => rangeOf x.1 x.2
  if d.aborted then some 5
  else if 3 < d.op || d.rows = 0 || d.length = 0 || kinds.length ≠ spans.length then some 3
  else if d.op = 0 && d.transpose && (d.length ≠ 32 || d.rows % 32 ≠ 0) then some 3
  else if d.op = 3 && (d.rows ≠ 1 || decide (4096 < d.length)) then some 3
  else if kinds.any (farStaging engine) then some 2
  else if d.ctx ≠ 0xFFFF && d.rowAddrs.any fun a =>
      decide ((rangeOf a d.length).getD 10 ≤ 1) && !s.inBuffers d.ctx a d.length then some 2
  else none

/-- DESCRIPTOR_START (R211, R214): the front of the queue, with at most 8 in progress, and after all earlier ones where FENCE is
set. -/
def descriptorStart (engine : Nat) (s : State) : State :=
  let e := s.engine engine
  match e.queue with
  | [] => s
  | d :: rest =>
    if 8 ≤ e.running.length || (d.fence && !e.running.isEmpty) || 16 ≤ engine then s
    else s.modEngine engine fun e => { e with
      queue := rest, running := e.running ++ [⟨d, 0, 0, 0, s.beat, descCheck engine d s⟩] }

/-- The meaning of DESCRIPTOR_START. -/
def execDescriptorStart (engine : Nat) (s : State) : Res := doneQuiet s (descriptorStart engine s)

/-! ## Parity errors and uncorrectable words (R206, R448, R450, R454) -/

/-- The entry that owns a backed page. -/
def State.ownerOf (s : State) (page : Nat) : Option Nat :=
  (s.table.find? fun e =>
    (e.2.pages.map (·.page) ++ e.2.recPages ++ e.2.statePages ++ e.2.tokPages).contains page).map (·.1)

/-- The unit and context that an error on a transfer names: a granule with its buffer's context, a die for a staging buffer or a
die-to-die module's bus (buses 0 to 7), another bus, or a page of HBM4 or LPDDR5X with the entry that owns it. -/
def parityError (d : Desc) (p : ParityErr) (s : State) : ErrAt :=
  if p.detector = 1 then
    let owner := s.bufs.find? fun b => decide (b.base ≤ p.address) && decide (p.address < b.base + b.len)
    ⟨1, 1, granuleOf p.address, 1, p.address, (owner.map (·.ctx)).getD 0xFFFF, 0xFFFF, 0xFF⟩
  else if p.detector = 2 then ⟨2, 2, (p.address - 0x20000000) / 0x2000000, 1, p.address, d.ctx, 0xFFFF, 0xFF⟩
  else if 5 ≤ p.detector && p.detector ≤ 7 then
    let page := p.address / 65536
    let ctx := match s.ownerOf page with | some q => (s.entry q).context | none => d.ctx
    ⟨p.detector, if p.detector = 7 then 4 else 3, page % 65536, 1, p.address, ctx, (s.ownerOf page).getD 0xFFFF, 0xFF⟩
  else ⟨3, if p.bus < 8 then 8 else 9, p.bus, 1, p.address, d.ctx, 0xFFFF, 0xFF⟩

/-- An error on a transfer logged and classified by one further read of the row; a parity error is counted and its address held. -/
def dmaParity (d : Desc) (p : ParityErr) (s : State) : State :=
  let e := parityError d p s
  let s := detectError e (if e.detector ≤ 3 then (s.bump 0x3200 e.detector 1).wr 0x3200 0x04 p.address else s)
  if !s.faults.unclassified.any (sameFault e) then s
  else if p.again then detectError e s
  else
    { (s.bump 0x7001 0x03 1) with
      faults := { s.faults with unclassified := s.faults.unclassified.filter fun x => !sameFault e x } }

/-! ## Moving rows -/

/-- A memory of a device address is in loopback, so that accesses to it wait (R514): stacks 0 and 1 or 2 and 3 behind an HBM4 range,
four LPDDR5X devices behind an LPDDR5X range. -/
def State.looped (s : State) (a : Nat) : Bool :=
  let any4 (base n : Nat) : Bool := (List.range n).any fun i => s.rd (base + i) 0x01 ≠ 0
  match rangeOf a 1 with
  | some 10 => any4 0x7F30 2
  | some 11 => any4 0x7F32 2
  | some 12 => any4 0x7F34 4
  | some 13 => any4 0x7F38 4
  | _ => false

/-- A descriptor waits for a memory in loopback. -/
def State.descWaits (s : State) (d : Desc) : Bool := (d.op ≠ 1 && s.looped d.src) || (d.op ≤ 1 && s.looped d.dst)

/-- The rows of a descriptor in progress moved by `move` up to the row of a parity error, and what its record then holds. -/
def runRows (engine seq : Nat) (mine : Desc → Bool) (parity : Option ParityErr) (move : Desc → Nat → State → State)
    (finish : Nat → DescRun → DescRun) (s : State) : State :=
  match s.run? engine seq with
  | none => s
  | some r =>
    if !mine r.d || r.status.isSome || r.row ≠ 0 || s.descWaits r.d then s
    else
      match parity with
      | none => (move r.d r.d.rows s).modRun engine seq fun x => finish r.d.rows { x with row := r.d.rows }
      | some p =>
        let n := min p.row (r.d.rows - 1)
        let s := (move r.d n s).modRun engine seq fun x => { finish n { x with row := n } with status := some 4 }
        dmaParity r.d p s

/-- A local transfer ends with the bytes it wrote and status OK. -/
def localEnd (n : Nat) (x : DescRun) : DescRun := { x with bytes := n * x.d.length, status := some 0 }

/-- n rows copied in order. -/
def copyRows (d : Desc) (n : Nat) (s : State) : State :=
  { s with mem := (List.range n).foldl (fun m r => memWriteN (d.dstRow r) (memReadN m (d.srcRow r) d.length) m) s.mem }

/-- COPY (R213). -/
def copy (engine seq : Nat) (parity : Option ParityErr) (s : State) : State :=
  runRows engine seq (fun d => d.op = 0 && !d.transpose) parity copyRows localEnd s

/-- The meaning of COPY. -/
def execCopy (engine seq : Nat) (parity : Option ParityErr) (s : State) : Res := done s (copy engine seq parity s)

/-- One 32 × 32 block transposed; it is read whole before it is written (R215). -/
def transposeBlock (d : Desc) (m : List Host.Cell) (k : Nat) : List Host.Cell :=
  let rows := (List.range 32).map fun r => memReadN m (d.srcRow (32 * k + r)) 32
  (List.range 32).foldl (fun m c => memWriteN (d.dstRow (32 * k + c)) (rows.map fun r => r.getD c 0#8) m) m

/-- The whole blocks of n rows transposed. -/
def transposeRows (d : Desc) (n : Nat) (s : State) : State :=
  { s with mem := (List.range (n / 32)).foldl (transposeBlock d) s.mem }

/-- TRANSPOSE_COPY (R215). -/
def transposeCopy (engine seq : Nat) (parity : Option ParityErr) (s : State) : State :=
  runRows engine seq (fun d => d.op = 0 && d.transpose) parity transposeRows (fun n x => localEnd (n / 32 * 32) x) s

/-- The meaning of TRANSPOSE_COPY. -/
def execTransposeCopy (engine seq : Nat) (parity : Option ParityErr) (s : State) : Res :=
  done s (transposeCopy engine seq parity s)

/-- n rows of the destination filled with SRC[7:0]. -/
def fillRows (d : Desc) (n : Nat) (s : State) : State :=
  let row := List.replicate d.length (BitVec.ofNat 8 d.src)
  { s with mem := (List.range n).foldl (fun m r => memWriteN (d.dstRow r) row m) s.mem }

/-- FILL (R213). -/
def fill (engine seq : Nat) (parity : Option ParityErr) (s : State) : State :=
  runRows engine seq (fun d => d.op = 1) parity fillRows localEnd s

/-- The meaning of FILL. -/
def execFill (engine seq : Nat) (parity : Option ParityErr) (s : State) : Res := done s (fill engine seq parity s)

/-! ## Remote writes and messages -/

/-- The writes of one row: pieces of up to 4,096 bytes (R220). -/
def rowWrites (engine : Nat) (d : Desc) (s : State) (r : Nat) : List Out :=
  (List.range (ceilDiv d.length 4096)).map fun k =>
    .dmaWrite engine d.seq d.target d.window (d.dstRow r + 4096 * k) s.beat
      (memReadN s.mem (d.srcRow r + 4096 * k) (min 4096 (d.length - 4096 * k)))

/-- n rows sent as remote writes. -/
def sendRows (engine : Nat) (d : Desc) (n : Nat) (s : State) : State :=
  s.sendAll ((List.range n).flatMap (rowWrites engine d s))

/-- REMOTE_WRITE (R220): the rows leave on VC5; the descriptor then waits for one answer for each write. -/
def remoteWrite (engine seq : Nat) (parity : Option ParityErr) (s : State) : State :=
  runRows engine seq (fun d => d.op = 2) parity (sendRows engine)
    (fun n x => { x with unanswered := n * ceilDiv x.d.length 4096, lastIssue := s.beat }) s

/-- The meaning of REMOTE_WRITE. -/
def execRemoteWrite (engine seq : Nat) (parity : Option ParityErr) (s : State) : Res :=
  doneQuiet s (remoteWrite engine seq parity s)

/-- The row of a message sent. -/
def sendMessage (engine : Nat) (d : Desc) (n : Nat) (s : State) : State :=
  if n = 0 then s else s.send (.dmaMessage engine d.seq d.target d.window (memReadN s.mem d.src d.length))

/-- MESSAGE (R225). -/
def message (engine seq : Nat) (parity : Option ParityErr) (s : State) : State :=
  runRows engine seq (fun d => d.op = 3) parity (sendMessage engine) (fun n x => { x with unanswered := n, lastIssue := s.beat }) s

/-- The meaning of MESSAGE. -/
def execMessage (engine seq : Nat) (parity : Option ParityErr) (s : State) : Res := doneQuiet s (message engine seq parity s)

/-- A descriptor waits for answers: it has sent, misses one, and was neither timed out nor aborted. -/
def awaits (r : DescRun) : Bool := decide (0 < r.unanswered) && r.status ≠ some 5 && r.status ≠ some 6

/-- What an answer makes of a descriptor: the accepted prefix grows, or the first refusal is kept (R216, R222). -/
def takeAnswer (a : AnswerMsg) (r : DescRun) : DescRun :=
  let r := { r with unanswered := r.unanswered - 1 }
  if a.status = 0 then (if r.status = none || r.status = some 4 then { r with bytes := r.bytes + a.bytes } else r)
  else if r.status = none then { r with status := some a.status } else r

/-- ANSWER (R222): one answer to a write or message of a descriptor that still waits; a later one is discarded. -/
def answer (a : AnswerMsg) (s : State) : State :=
  match s.run? a.engine a.seq with
  | none => s
  | some r => if awaits r then s.modRun a.engine a.seq (takeAnswer a) else s

/-- The meaning of ANSWER. -/
def execAnswer (a : AnswerMsg) (s : State) : Res := doneQuiet s (answer a s)

/-- REMOTE_WRITE_TIMEOUT (R222): 64 beats after the last write, an answer still missing. -/
def remoteWriteTimeout (engine seq : Nat) (s : State) : State :=
  match s.run? engine seq with
  | none => s
  | some r =>
    if awaits r && decide (r.lastIssue + 64 ≤ s.beat) then s.modRun engine seq fun x => { x with status := some 6 } else s

/-- The meaning of REMOTE_WRITE_TIMEOUT. -/
def execRemoteWriteTimeout (engine seq : Nat) (s : State) : Res := doneQuiet s (remoteWriteTimeout engine seq s)

/-- A descriptor is complete (R216, R222). -/
def complete (r : DescRun) : Bool :=
  if r.d.op = 2 || r.d.op = 3 then !awaits r && (r.status.isSome || decide (0 < r.row)) else r.status.isSome

/-- DESCRIPTOR_COMPLETE (R216, R228): the record is written, and the engine counts the descriptor. -/
def descriptorComplete (engine seq : Nat) (s : State) : State :=
  match s.run? engine seq with
  | none => s
  | some r =>
    if !complete r || (r.d.complEn && s.looped r.d.compl) then s
    else
      let place := match rangeOf r.d.compl 16 with
        | some k => r.d.complEn && !farStaging engine k
        | none => false
      let s := if place then
          { s with mem := memWriteN r.d.compl (completionRecord r.d (r.status.getD 0) r.bytes) s.mem }
        else s
      (s.bump 0x3201 (engine + 1) 1).modEngine engine fun e => { e with running := e.running.filter fun x => x.d.seq ≠ seq }

/-- The meaning of DESCRIPTOR_COMPLETE. -/
def execDescriptorComplete (engine seq : Nat) (s : State) : Res := done s (descriptorComplete engine seq s)

/-! ## The patrol scrubber (R178, R264, R449, R454) -/

/-- PATROL_SCRUB: a word of the shadow or an outlier record of a matrix, or of a backed KV page. A corrected word is rewritten;
an uncorrectable one is lost, and permanent at once. -/
def patrolScrub (mat : Option Nat) (address : Nat) (found : ScrubFound) (s : State) : State :=
  let page := address / 65536
  let backed := s.pool.used.contains page || s.pool.resUsed.contains page
  match mat, found with
  | _, .clean => s
  | some _, .corrected => s
  | some m, .uncorrectable =>
    permanentError ⟨4, 3, m, 1, address, 0xFFFF, 0xFFFF, s.slotOfMat m⟩ s
  | none, .corrected => if backed then s.bump 0x6001 0x07 1 else s
  | none, .uncorrectable =>
    if !backed then s
    else
      let q := s.ownerOf page
      let ctx := match q with | some q => (s.entry q).context | none => 0xFFFF
      let lp := decide (0x400000 ≤ page)
      permanentError ⟨if lp then 7 else 5, if lp then 4 else 3, page % 65536, 1, address, ctx, q.getD 0xFFFF, 0xFF⟩
        (s.bump 0x6001 0x08 1)

/-- The meaning of PATROL_SCRUB. -/
def execPatrolScrub (mat : Option Nat) (address : Nat) (found : ScrubFound) (s : State) : Res :=
  doneQuiet s (patrolScrub mat address found s)

end Sys2Proof.Machine
end

