-- ==== Sys2Proof/Machine/Time.lean ====
section
/-! DEFINITION. Halyard time: frame length, PTP and the election of the root, time flits, parents, bounds and holdover
(R31 to R44, R309, R368, R504). -/

namespace Sys2Proof.Machine
open Sys2Proof

/-- A time record changed. -/
def State.modTime (s : State) (f : TimeSt → TimeSt) : State := { s with time := f s.time }

/-! ## Frame length (R33) -/

/-- The arming write's rule (R33). -/
def frameArmOk (c : WriteCtx) (s : State) : Bool :=
  let n := s.rd 0x1201 0x06
  decide (64 ≤ n) && decide (n ≤ 65535) && c.value % s.frameLen = 0 && c.value % n = 0 && decide (s.beat + 64 ≤ c.value)

/-- An accepted arming write holds the change until its effect beat (R33). -/
def frameArm (row : ObjRow) (c : WriteCtx) (s : State) : State :=
  (storeWrite row 0x1201 0x07 c s).modTime fun t => { t with armed := some (c.value, s.rd 0x1201 0x06) }

/-- The meaning of FRAME_LENGTH_ARM: a rejected arming write sets FRAME_MISMATCH (R33). -/
def execFrameLengthArm (r : DictReq) (data : Bytes) (s : State) : Res :=
  doneQuiet s (dictWriteElse r 0x1201 0x07 data frameArmOk frameArm (fun _ s => s.flag 0x1200 0x0A 5) s)

/-- FRAME_LENGTH_CHANGE (R33): at its effect beat the armed length is in effect. -/
def frameLengthChange (s : State) : State :=
  match s.time.armed with
  | none => s
  | some (b, n) => if s.beat < b then s else ((s.late b).wr 0x1201 0x01 n).modTime fun t => { t with armed := none }

/-- The meaning of FRAME_LENGTH_CHANGE. -/
def execFrameLengthChange (s : State) : Res := doneQuiet s (frameLengthChange s)

/-! ## Bounds (R40, R41, R43) -/

/-- Growth of the bounds so far, in 0.0001 ps: what start-up found, and 0.1024 ps for each beat in HOLDOVER (R43). -/
def State.growth (s : State) : Nat :=
  s.time.growth + match s.time.lostAt with
    | some b => if s.rd 0x1200 0x03 = 3 then (s.beat - b) * 1024 else 0
    | none => 0

/-- A bound as it is reported now: the stored one plus growth, all ones while unknown (R40). -/
def State.boundNow (s : State) (sub : Nat) : Nat :=
  let b := s.rd 0x1200 sub
  if b = 0xFFFFFFFF then b else min 0xFFFFFFFE (b + s.growth / 10000)

/-- This device is the acting root (R34). -/
def State.actingRoot (s : State) : Bool := s.rd 0x1202 0x03 = s.pos

/-- The bound that parents are compared by: the region bound of a region member that is not its master, else the root bound
(R39). -/
def State.byRegion (s : State) : Bool := s.hasRegion && !s.isHead

/-- The hop bound of a link in ps (R40). -/
def State.hopBound (s : State) (k : Nat) : Nat :=
  let n := s.rd (0x3010 + k) 0x0D
  if 0 < n then 40 * n else if s.rd (0x3010 + k) 0x02 = 2 then 40 else 8

/-- The bits of R41 follow the bounds. -/
def checkBounds (s : State) : State :=
  let s := if s.rd 0x1200 0x04 ≠ 0xFFFFFFFF && 1000 < s.boundNow 0x04 then s.flag 0x1200 0x0A 0 else s
  if s.rd 0x1200 0x05 ≠ 0xFFFFFFFF && 2500 < s.boundNow 0x05 then s.flag 0x1200 0x0A 1 else s

/-- The bounds set from the parent's flit (R40): the master of a region has region bound 0, the acting root has root bound 0. -/
def setBounds (k : Nat) (s : State) : State :=
  let l := s.link k
  let add (b : Nat) : Nat := if b = 0xFFFFFFFF then b else min 0xFFFFFFFE (b + s.hopBound k)
  let reg := if s.isHead then 0 else if s.hasRegion then add l.nbRegionBound else 0xFFFFFFFF
  let root := if s.actingRoot then 0 else add l.nbRootBound
  checkBounds ((s.wr 0x1200 0x04 reg).wr 0x1200 0x05 root)

/-! ## Parents (R39, R44) -/

/-- The position of this device's parent; all ones for none. -/
def State.parentPos (s : State) : Nat :=
  let k := s.rd 0x1200 0x06
  if k = 0 then 0xFFFFFFFF else s.rd (0x3010 + (k - 1)) 0x04

/-- The neighbour on a link may be this device's parent (R39): it is LOCKED, its parent is not this device, the link is UP,
and a region member that is not the master looks only inside its box. -/
def State.eligible (s : State) (k : Nat) : Bool :=
  let l := s.link k
  s.linkUp k && l.nbSync = 2 && l.nbParent ≠ s.pos && (!s.byRegion || s.inBox (s.rd (0x3010 + k) 0x04))

/-- What a neighbour's bound and the hop add up to (R39). -/
def State.viaBound (s : State) (k : Nat) : Nat :=
  let l := s.link k
  (if s.byRegion then l.nbRegionBound else l.nbRootBound) + s.hopBound k

/-- The link order of ties: X−, X+, Y−, Y+, Z−, Z+ (R39). -/
def linkOrder : List Nat := [1, 0, 3, 2, 5, 4]

/-- The best of the neighbours that a condition admits. -/
def State.bestParent (s : State) (ok : Nat → Bool) : Option Nat :=
  (linkOrder.filter ok).foldl (fun b k =>
    match b with
    | none => some k
    | some j => if s.viaBound k < s.viaBound j then some k else b) none

/-- A parent taken: counted in PARENT_CHANGED, with a fresh average and its bounds (R38, R40). -/
def takeParent (k : Nat) (s : State) : State :=
  if s.rd 0x1200 0x06 = k + 1 then setBounds k s
  else
    let s := (s.wr 0x1200 0x06 (k + 1)).flag 0x1200 0x0A 4
    setBounds k (s.modTime fun t => { t with offsets := [], goodRun := 0, growth := 0, lostAt := if s.rd 0x1200 0x03 = 3 then some s.beat else none, guardLapsed := false })

/-- Entry to HOLDOVER (R42 to R44). -/
def enterHoldover (s : State) : State :=
  let adv := s.boundNow (if s.byRegion then 0x04 else 0x05)
  let s := s.wr 0x1200 0x06 0
  if s.rd 0x1200 0x03 = 3 then s.modTime fun t => { t with lostAt := t.lostAt.orElse fun _ => some s.beat }
  else if s.rd 0x1200 0x03 = 2 then
    let s := ((s.wr 0x1200 0x03 3).bump 0x1200 0x09 1).flag 0x1200 0x0A 2
    s.modTime fun t => { t with lostAt := some s.beat, lastAdvertised := adv, guardLapsed := false, offsets := [], goodRun := 0 }
  else s

/-- The parent link of a device is lost (R44). -/
def loseParentLink (k : Nat) (s : State) : State := if s.rd 0x1200 0x06 = k + 1 then enterHoldover s else s

/-- REPARENT (R44): within 2 beats of the loss and until the guard lapses, a new parent among neighbours whose advertised bound
is below the one this device last advertised. -/
def reparent (s : State) : State :=
  if s.rd 0x1200 0x03 ≠ 3 || s.rd 0x1200 0x06 ≠ 0 || s.actingRoot then s
  else
    let adv (k : Nat) : Nat := if s.byRegion then (s.link k).nbRegionBound else (s.link k).nbRootBound
    match s.bestParent fun k => s.eligible k && (s.time.guardLapsed || decide (adv k < s.time.lastAdvertised)) with
    | some k => takeParent k s
    | none => s

/-- The meaning of REPARENT. -/
def execReparent (s : State) : Res := doneQuiet s (reparent s)

/-- LOOP_GUARD_LAPSE (R44): 64 beats after the loss any eligible neighbour is accepted. -/
def loopGuardLapse (s : State) : State :=
  match s.time.lostAt with
  | none => s
  | some b =>
    if s.rd 0x1200 0x03 ≠ 3 || s.rd 0x1200 0x06 ≠ 0 || s.beat < b + 64 then s
    else reparent (s.modTime fun t => { t with guardLapsed := true })

/-- The meaning of LOOP_GUARD_LAPSE. -/
def execLoopGuardLapse (s : State) : Res := doneQuiet s (loopGuardLapse s)

/-! ## The root (R34 to R36) -/

/-- This device's own candidacy: root-capable with PTP lock, or acting on from its held rate (R34, R36). -/
def State.ownCandidacy (s : State) : Bool := s.rd 0x1202 0x01 = 1 && (s.time.ptpLock || s.time.lockLostAt.isSome)

/-- The best candidate known, as (priority, position): the device's own and those that its neighbours advertise (R309). -/
def State.bestCandidate (s : State) : Nat × Nat :=
  let own := if s.ownCandidacy then (s.rd 0x1202 0x02, s.pos) else (255, 0xFFFFFFFF)
  (List.range 6).foldl (fun b k =>
    let l := s.link k
    let live := (s.linkState k = 2 || s.linkState k = 3) && l.nbRootPos ≠ 0xFFFFFFFF && l.nbRootPos ≠ s.pos
    if live && (b.2 = 0xFFFFFFFF || decide (l.nbRootPrio < b.1) || (l.nbRootPrio = b.1 && decide (l.nbRootPos < b.2)))
    then (l.nbRootPrio, l.nbRootPos) else b) own

/-- The acting root as the best candidate makes it (R34): a change sets ROOT_CHANGED; a newly acting root has no parent and
root bound 0 and never steps (R36); with no candidate the count runs on in HOLDOVER. -/
def electRoot (s : State) : State :=
  let best := s.bestCandidate
  let was := s.rd 0x1202 0x03
  let s := if best.2 = was then s else (s.wr 0x1202 0x03 best.2).flag 0x1200 0x0A 3
  if best.2 = s.pos then
    let s := (s.wr 0x1200 0x05 0).wr 0x1200 0x06 0
    let s := if s.isHead then s.wr 0x1200 0x04 0 else s
    if s.rd 0x1200 0x03 = 3 || s.rd 0x1200 0x03 = 1 then
      (s.wr 0x1200 0x03 2).modTime fun t => { t with lostAt := none, growth := 0 }
    else s
  else if was = s.pos || best.2 = 0xFFFFFFFF then enterHoldover s
  else s

/-- ROOT_HOLDOVER_EXPIRY (R36). -/
def rootHoldoverExpiry (s : State) : State :=
  match s.time.lockLostAt with
  | none => s
  | some b =>
    if s.beat < b + s.rd 0x1202 0x04 then s
    else electRoot (s.modTime fun t => { t with lockLostAt := none })

/-- The meaning of ROOT_HOLDOVER_EXPIRY. -/
def execRootHoldoverExpiry (s : State) : Res := doneQuiet s (rootHoldoverExpiry s)

/-- PTP lock lost (R36, R368). -/
def losePtpLock (s : State) : State :=
  let acting := s.actingRoot
  let s := s.modTime fun t => { t with ptpLock := false, ptpGood := 0, ptpBad := 0, lockLostAt := if acting then some s.beat else none }
  electRoot (s.wr 0x1104 0x02 1)

/-- PTP lock gained (R368), with the one step of first lock: a device without parent that has no valid count steps to PTP time
and is LOCKED as acting root (R504). -/
def gainPtpLock (now : Nat) (s : State) : State :=
  let s := (s.modTime fun t => { t with ptpLock := true, lockLostAt := none }).wr 0x1104 0x02 3
  let alone := (List.range 6).all fun k => !s.eligible k
  if alone && s.rd 0x1200 0x03 = 0 then
    let s := { s with count := BitVec.ofNat 64 (now + s.count.toNat % 1024), hk := { s.hk with start := none } }
    electRoot (s.wr 0x1200 0x03 2)
  else electRoot s

/-- PTP_MESSAGE (R368, R35): dropped by a device that is not root-capable. 16 consecutive offsets within ±50 ns gain lock, 16
beyond ±1 µs lose it. -/
def ptpMessage (m : PtpMsg) (s : State) : State :=
  if s.rd 0x1202 0x01 ≠ 1 || !s.portUp then s
  else
    match m with
    | .announce id =>
      let s := (s.modTime fun t => { t with lastAnnounce := s.beat }).putOct 0x1104 0x04 0 id
      if s.rd 0x1104 0x02 < 2 then s.wr 0x1104 0x02 2 else s
    | .sync offset now =>
      let s := (s.wr 0x1104 0x03 (intBits 64 offset)).wr 0x1202 0x05 (intBits 64 offset)
      let good := if offset.natAbs ≤ 50 then s.time.ptpGood + 1 else 0
      let bad := if 1000 < offset.natAbs then s.time.ptpBad + 1 else 0
      let s := s.modTime fun t => { t with ptpGood := min good 16, ptpBad := min bad 16 }
      if !s.time.ptpLock && 16 ≤ good then gainPtpLock now s
      else if s.time.ptpLock && 16 ≤ bad then losePtpLock s
      else s

/-- The meaning of PTP_MESSAGE. -/
def execPtpMessage (m : PtpMsg) (s : State) : Res := doneQuiet s (ptpMessage m s)

/-- PTP_ANNOUNCE_TIMEOUT (R368): the master's Announce interval is outside the model, so the event itself is the input. -/
def ptpAnnounceTimeout (s : State) : State :=
  if s.rd 0x1202 0x01 = 1 && s.time.ptpLock then losePtpLock s else s

/-- The meaning of PTP_ANNOUNCE_TIMEOUT. -/
def execPtpAnnounceTimeout (s : State) : Res := doneQuiet s (ptpAnnounceTimeout s)

/-! ## Time flits (R37, R38, R42, R309) -/

/-- A trained link: UP or CABLING (R303). -/
def State.trained (s : State) (k : Nat) : Bool := s.linkState k = 2 || s.linkState k = 3

/-- LINK_TIME_EXCHANGE (R37, R309): one TIME flit on a trained link, at the earliest 16 beats after the last; a CABLING link
carries none for a device that uses it as parent (R303). -/
def linkTimeExchange (k sendPs : Nat) (s : State) : State :=
  let l := s.link k
  let recent := l.sentAt.any fun x => decide (s.beat < beatOfTick (x.2 / 1000) + 16)
  if !s.trained k || recent || (s.linkState k = 3 && s.rd 0x1200 0x06 = k + 1) then s
  else
    let best := s.bestCandidate
    let p : TimePayload :=
      { sendTick := s.count.toNat, sendPs := sendPs % 1000, seq := l.timeSeq, echoSeq := l.lastRxSeq
        echoTick := l.lastRxTick, echoPs := l.lastRxPs, sync := s.rd 0x1200 0x03
        cand := s.rd 0x1202 0x01 + 2 * b2n s.time.ptpLock + 4 * b2n s.actingRoot
        prio := s.rd 0x1202 0x02, rootPrio := best.1, rootPos := best.2
        regionBound := s.boundNow 0x04, rootBound := s.boundNow 0x05, parentPos := s.parentPos }
    let s := s.setLink k fun l => { l with
      timeSeq := (l.timeSeq + 1) % 65536, sentAt := [(l.timeSeq, s.count.toNat * 1000 + sendPs % 1000)] }
    (s.send (.time k p)).bump (0x3010 + k) 0x0B 1

/-- The meaning of LINK_TIME_EXCHANGE. -/
def execLinkTimeExchange (link sendPs : Nat) (s : State) : Res := doneQuiet s (linkTimeExchange link sendPs s)

/-- An average of 16 offsets (R38, R42): the rate is adjusted within ±10 ppm and the state follows. -/
def applyAverage (avg : Int) (s : State) : State :=
  let rate := clampInt (-10000) 10000 (Config.rateAdjust avg (s.rdInt 0x1200 0x07 32))
  let s := (s.wr 0x1200 0x08 (intBits 32 avg)).wr 0x1200 0x07 (intBits 32 rate)
  let near := decide (avg.natAbs ≤ 100)
  let st := s.rd 0x1200 0x03
  if st = 1 then
    let n := if near then s.time.goodRun + 1 else 0
    let s := s.modTime fun t => { t with goodRun := n }
    if 16 ≤ n then (s.wr 0x1200 0x03 2).modTime fun t => { t with lostAt := none, growth := 0 } else s
  else if st = 3 && near then
    checkBounds ((s.wr 0x1200 0x03 2).modTime fun t => { t with lostAt := none, growth := 0 })
  else s

/-- One offset from the parent (R38), from the difference d of the two one-way counts: the asymmetry of the link is taken off d, of
which the offset is half; 16 offsets make an average. -/
def addOffset (k : Nat) (d : Int) (s : State) : State :=
  let o := (d - s.rdInt (0x3010 + k) 0x0A 32) / 2
  let l := s.time.offsets ++ [o]
  if l.length < 16 then s.modTime fun t => { t with offsets := l }
  else applyAverage (l.foldl (· + ·) 0 / 16) (s.modTime fun t => { t with offsets := [] })

/-- TIME_FLIT (R38, R39, R42, R44, R504): the neighbour's state and bounds are kept, a parent's exchange gives an offset, an
UNLOCKED device steps once to an eligible neighbour's count, and the election spreads. -/
def timeFlit (k : Nat) (p : TimePayload) (arrTick arrPs : Nat) (s : State) : State :=
  if !s.trained k then s
  else
    let prev := (s.link k).rxAt.head?
    let t2 : Int := arrTick * 1000 + arrPs
    let t1 : Int := p.sendTick * 1000 + p.sendPs
    let s := s.setLink k fun l => { l with
      nbSync := p.sync, nbRegionBound := p.regionBound, nbRootBound := p.rootBound, nbParent := p.parentPos
      nbRootPrio := p.rootPrio, nbRootPos := p.rootPos, lastRxSeq := p.seq, lastRxTick := arrTick, lastRxPs := arrPs
      rxAt := [(p.seq, p.sendTick * 1000 + p.sendPs, arrTick * 1000 + arrPs)] }
    let s := s.bump (0x3010 + k) 0x0C 1
    let s := electRoot s
    if s.actingRoot then s
    else if s.rd 0x1200 0x03 = 0 then
      if s.eligible k then
        let s := { s with count := BitVec.ofNat 64 (p.sendTick + (s.count.toNat - arrTick)), hk := { s.hk with start := none } }
        takeParent k (s.wr 0x1200 0x03 1)
      else s
    else
      let cur := s.rd 0x1200 0x06
      if cur = 0 then s
      else
        match s.bestParent s.eligible with
        | none => enterHoldover s
        | some j =>
          let s := takeParent j s
          if s.rd 0x1200 0x06 = k + 1 && cur = k + 1 then
            match prev, (s.link k).sentAt.find? fun x => x.1 = p.echoSeq with
            | some (_, p1, p2), some (_, t3) =>
              let t4 : Int := p.echoTick * 1000 + p.echoPs
              addOffset k (((p2 : Int) - p1) - (t4 - t3)) s
            | none, some (_, t3) =>
              let t4 : Int := p.echoTick * 1000 + p.echoPs
              addOffset k ((t2 - t1) - (t4 - t3)) s
            | _, none => s
          else s

/-- The meaning of TIME_FLIT. -/
def execTimeFlit (link : Nat) (p : TimePayload) (arrTick arrPs : Nat) (s : State) : Res :=
  doneQuiet s (timeFlit link p arrTick arrPs s)

end Sys2Proof.Machine
end

