-- ==== Sys2Proof/Machine/Links.lean ====
section
/-! DEFINITION. Torus links: training, INFO exchange, flits with their credits and replay, loss of a link, bypasses and their
reports, the management channel, and regions (R296 to R310, R317 to R330, R340 to R346). -/

namespace Sys2Proof.Machine
open Sys2Proof

/-! ## Link states -/

/-- The positions of the region that this device's own links have found bypassed (R342): those between it and each neighbour. -/
def State.ownBypassed (s : State) : List Nat :=
  (List.range 6).flatMap fun k =>
    let n := s.rd (0x3010 + k) 0x0D
    if s.linkUp k then
      let axis := k / 2
      let r := s.ringLen axis
      let c := coord s.pos axis
      (List.range n).map fun i =>
        let c' := if k % 2 = 0 then (c + i + 1) % r else (c + (i + 1) * (r - 1)) % r
        s.pos - c * 64 ^ axis + c' * 64 ^ axis
    else []

/-- A change of link state is told to the region on VC7 (R343): the positions that this device finds bypassed. -/
def reportLinks (s : State) : State :=
  if s.hasRegion then sendVc7 0x3FFFF (2 :: s.ownBypassed) s else s

/-- A link's state changes: counted, and the routes follow at the next frame boundary (R345, R325). -/
def setLinkState (k v : Nat) (s : State) : State :=
  if s.linkState k = v then s
  else (((s.wr (0x3010 + k) 0x01 v).bump 0x3000 0x03 1).modFab fun f => { f with linkChanged := true })

/-- A link goes DOWN (R300): its replay buffer and what waited on it are dropped and counted, its pools are full again, and a
device that had its parent there enters HOLDOVER (R44). -/
def linkDown (k : Nat) (s : State) : State :=
  if s.linkState k = 0 then s
  else
    let l := s.link k
    let s := s.bumpI (0x3010 + k) 0x0E 0 l.replay.length
    let s := s.bump 0x3103 0x04 (l.waiting.filter fun w => w.1.last).length
    let s := s.setLink k fun l => { l with
      replay := [], waiting := [], creditsUsed := [], txSeq := 0, rxSeq := 0, converged := false, nbSync := 0
      nbRootPos := 0xFFFFFFFF, nbParent := 0xFFFFFFFF, rxAt := [], sentAt := [] }
    let s := loseParentLink k (setLinkState k 0 (s.wr (0x3010 + k) 0x02 0))
    reportLinks s

/-! ## Training (R302, R303, R322) -/

/-- A link may train: the position lies in the rings, the axis has more than one position, the link is enabled, BYP_HOLD is
driven high, and no reset holds the device. -/
def State.canTrain (s : State) (k : Nat) : Bool :=
  decide (k < 6) && ([0, 1, 2].all fun a => decide (coord s.pos a < s.ringLen a)) && decide (1 < s.ringLen (k / 2)) &&
    bitOf (s.rd 0x3000 0x02) k && s.power.bypHold = 1 && s.power.s3.isNone

/-- Training starts at the full rate (R302). -/
def startTraining (k : Nat) (s : State) : State :=
  let s := s.setLink k fun l => { l with trainStart := s.count.toNat, attempt := 0, retryAt := none, converged := false }
  (setLinkState k 1 s).bump (0x3010 + k) 0x09 1

/-- LINK_TRAINING: a DOWN link that may train starts the PMD control function. -/
def linkTraining (k : Nat) (s : State) : State :=
  if s.linkState k = 0 && s.canTrain k && (s.link k).retryAt.isNone && s.rd (0x7F10 + k) 0x01 = 0 then startTraining k s else s

/-- The meaning of LINK_TRAINING. -/
def execLinkTraining (link : Nat) (s : State) : Res := doneQuiet s (linkTraining link s)

/-- The INFO flit of this device on a link (R310). -/
def State.infoOf (s : State) (k rate : Nat) : InfoPayload :=
  { pos := s.pos, rings := [s.ringLen 0, s.ringLen 1, s.ringLen 2], link := k, corner := s.fab.corner, extent := s.fab.extent
    rate := rate, sync := s.rd 0x1200 0x03, txLat := Config.txLatency k, rxLat := Config.rxLatency k }

/-- TRAINING_CONVERGED (R302): the link has a rate and sends its INFO flit. -/
def trainingConverged (k : Nat) (s : State) : State :=
  let l := s.link k
  if s.linkState k ≠ 1 || l.converged then s
  else
    let s := s.setLink k fun l => { l with converged := true }
    (s.wr (0x3010 + k) 0x02 (l.attempt + 1)).send (.info k (s.infoOf k (l.attempt + 1)))

/-- The meaning of TRAINING_CONVERGED. -/
def execTrainingConverged (link : Nat) (s : State) : Res := doneQuiet s (trainingConverged link s)

/-- TRAINING_TIMEOUT (R302): after 100 ms at the full rate the fallback rate, after 100 ms more DOWN for 1 s. -/
def trainingTimeout (k : Nat) (s : State) : State :=
  let l := s.link k
  let now := s.count.toNat
  if s.linkState k ≠ 1 || l.converged || now < l.trainStart + 100000000 then s
  else if l.attempt = 0 then s.setLink k fun l => { l with attempt := 1, trainStart := now }
  else (linkDown k s).setLink k fun l => { l with retryAt := some (now + 1000000000) }

/-- The meaning of TRAINING_TIMEOUT. -/
def execTrainingTimeout (link : Nat) (s : State) : Res := doneQuiet s (trainingTimeout link s)

/-- TRAINING_RETRY (R302). -/
def trainingRetry (k : Nat) (s : State) : State :=
  match (s.link k).retryAt with
  | none => s
  | some t => if s.linkState k = 0 && s.canTrain k && decide (t ≤ s.count.toNat) then startTraining k s else s

/-- The meaning of TRAINING_RETRY. -/
def execTrainingRetry (link : Nat) (s : State) : Res := doneQuiet s (trainingRetry link s)

/-- Steps from this device to a position along a link's axis in its direction. -/
def State.alongLink (s : State) (k p : Nat) : Nat :=
  let r := s.ringLen (k / 2)
  let c := coord s.pos (k / 2)
  let d := coord p (k / 2)
  if k % 2 = 0 then (d + r - c) % r else (c + r - d) % r

/-- The cabling conditions of R303. -/
def State.cabledRight (s : State) (k : Nat) (p : InfoPayload) : Bool :=
  let axis := k / 2
  p.rings = [s.ringLen 0, s.ringLen 1, s.ringLen 2] && p.link = k ^^^ 1 && decide (s.alongLink k p.pos ≠ 0) &&
    decide (coord p.pos axis < s.ringLen axis) && [0, 1, 2].all fun a => a = axis || coord p.pos a = coord s.pos a

/-- The static asymmetry of a link (R302): the neighbour's latency difference less this side's, in ps. -/
def State.asymmetry (k : Nat) (p : InfoPayload) : Int :=
  ((p.txLat : Int) - p.rxLat) - ((Config.txLatency k : Int) - Config.rxLatency k)

/-- INFO_FLIT (R303, R342): the link is UP or CABLING; its asymmetry, neighbour and bypassed positions are known. -/
def infoFlit (k : Nat) (p : InfoPayload) (s : State) : State :=
  if s.linkState k ≠ 1 || !(s.link k).converged then s
  else
    let good := s.cabledRight k p
    let n := if good then s.alongLink k p.pos - 1 else 0
    let s := if n = s.rd (0x3010 + k) 0x0D then s else s.flag 0x3103 0x0A 2
    let s := if good then s else s.flag 0x3103 0x0A 1
    let s := ((s.wr (0x3010 + k) 0x04 p.pos).wr (0x3010 + k) 0x05 (b2n (decide (0 < n)))).wr (0x3010 + k) 0x0D n
    let s := s.wr (0x3010 + k) 0x0A (intBits 32 (State.asymmetry k p))
    let s := s.setLink k fun l => { l with nbSync := p.sync }
    reportLinks (setLinkState k (if good then 2 else 3) s)

/-- The meaning of INFO_FLIT. -/
def execInfoFlit (link : Nat) (p : InfoPayload) (s : State) : Res := doneQuiet s (infoFlit link p s)

/-! ## Flits (R300, R304, R305, R317, R318) -/

/-- Credits of a pool per VC (R317). -/
def poolSize (vc : Nat) : Nat := [64, 64, 128, 256, 256, 256, 32, 32].getD vc 32

/-- The VCs on which a packet type may travel (R305). -/
def typeVcs (ptype : Nat) : List Nat :=
  if (0x01 ≤ ptype && ptype ≤ 0x09) then [0]
  else if 0x10 ≤ ptype && ptype ≤ 0x14 then [1]
  else if ptype = 0x20 then [2]
  else if ptype = 0x30 then [3, 4]
  else if ptype = 0x40 || ptype = 0x41 then [5]
  else if ptype = 0x60 then [6]
  else if ptype = 0x70 then [7]
  else []

/-- The pool of a flit. -/
def Flit.pool (f : Flit) : Nat := 2 * f.vc + f.dl

/-- A credit of a pool is free on a link. -/
def State.hasCredit (s : State) (k : Nat) (f : Flit) : Bool :=
  decide (((s.link k).creditsUsed.filter fun c => c.1 = f.pool).length < poolSize f.vc)

/-- A flit sent on a link: numbered, kept for replay among the last 512, its credit taken, and counted (R300, R318, R345). -/
def sendFlit (k : Nat) (f : Flit) (s : State) : State :=
  let l := s.link k
  let f := { f with lseq := l.txSeq, ltype := 1 }
  let s := s.setLink k fun l => { l with
    txSeq := (l.txSeq + 1) % 4096
    replay := (l.replay ++ [(f, 0)]).drop (l.replay.length - 511)
    creditsUsed := l.creditsUsed ++ [(f.pool, s.beat)] }
  (s.bump (0x3010 + k) 0x0B 1).send (.forward k f)

/-- What a link tells its neighbour back: the last flit received in order, whether a replay is asked for, and credits returned. -/
def sendAck (k : Nat) (lnack : Bool) (pool count : Nat) (s : State) : State :=
  s.send (.linkAck k (((s.link k).rxSeq + 4095) % 4096) lnack pool count)

/-- Waiting flits leave in order as far as credits allow; each returns the credit of the link it came from. -/
def drainWaiting (k : Nat) : List (Flit × Nat) → State → State
  | [], s => s
  | (f, src) :: rest, s =>
    let s := if s.hasCredit k f then sendAck src false f.pool 1 (sendFlit k f s)
      else s.setLink k fun l => { l with waiting := l.waiting ++ [(f, src)] }
    drainWaiting k rest s

/-- The link fields of a good flit (R304): acknowledged flits leave the replay buffer, and credits come back. -/
def linkFields (k : Nat) (f : Flit) (s : State) : State :=
  let l := s.link k
  let n := l.replay.findIdx fun r => r.1.lseq = f.lack
  let w := l.waiting
  let s := s.setLink k fun l => { l with
    replay := if n < l.replay.length then l.replay.drop (n + 1) else l.replay
    creditsUsed := ((List.range f.crcnt).foldl (fun (c : List (Nat × Nat)) _ =>
      c.eraseIdx (c.findIdx fun x => x.1 = f.crpool)) l.creditsUsed)
    waiting := [] }
  drainWaiting k w s

/-- The dateline class of a flit on its next link (R328). -/
def State.nextClass (s : State) (src k : Nat) (f : Flit) : Nat :=
  let axis := k / 2
  let c := coord s.pos axis
  let q := coord (s.stepPos axis (k % 2 = 0) 64 s.pos) axis
  let crosses := if k % 2 = 0 then decide (q ≤ c) else decide (c ≤ q)
  if crosses then 1 else if src / 2 = axis then f.dl else 0

/-- A packet dropped: counted once, with its last flit (R305, R330). -/
def dropFlit (src : Nat) (f : Flit) (s : State) : State :=
  sendAck src false f.pool 1 (if f.last then s.bump 0x3103 0x04 1 else s)

/-- A flit consumed at its destination (R318, R321, R344): VC6 packets are discarded and counted, VC7 packets find room in the
management queue of 16 MiB or are refused with REFUSE7. The contents act through the commands of their own. -/
def consumeFlit (src : Nat) (f : Flit) (s : State) : State :=
  let size := (f.fseq + 1) * 228
  let s := if !f.last then s
    else if f.vc = 6 then s.bump 0x3103 0x09 1
    else if f.vc = 7 then
      if 16777216 < s.fab.mgmtQueue.foldl (· + ·) 0 + size then
        (s.bump 0x3103 0x07 1).send (.packet 1 0x14 f.src f.tag [f.tag])
      else s.modFab fun f => { f with mgmtQueue := f.mgmtQueue ++ [size] }
    else s
  sendAck src false f.pool 1 s

/-- A flit forwarded on its route (R327 to R330), or dropped where it has no usable one. -/
def forwardFlit (src : Nat) (f : Flit) (s : State) : State :=
  let member := s.hasRegion && s.inBox f.dst && s.inBox f.src
  let machine := f.vc = 7 && !member
  match s.linkToward machine f.dst with
  | none => dropFlit src f s
  | some k =>
    if !s.linkUp k || s.fab.bypassed.contains f.dst ||
        (!machine && !(member && s.inBox s.pos && s.inBox (s.rd (0x3010 + k) 0x04))) then dropFlit src f s
    else
      let g := { f with dl := s.nextClass src k f }
      if s.hasCredit k g && (s.link k).waiting.isEmpty then sendAck src false f.pool 1 (sendFlit k g s)
      else s.setLink k fun l => { l with waiting := l.waiting ++ [(g, src)] }

/-- A DATA flit received in order. A CABLING link carries time flits alone (R303); a TIME flit and a multicast copy act through
their own commands. -/
def acceptFlit (k : Nat) (f : Flit) (s : State) : State :=
  let s := s.setLink k fun l => { l with rxSeq := (l.rxSeq + 1) % 4096 }
  let s := if f.ptype = 1 then s else s.bump (0x3010 + k) 0x0C 1
  if !(typeVcs f.ptype).contains f.vc || (s.linkState k = 3 && f.ptype ≠ 1) then dropFlit k f s
  else if f.mc || f.ptype = 1 then sendAck k false f.pool 1 s
  else if f.dst = s.pos then consumeFlit k f s
  else forwardFlit k f s

/-- FLIT_RECEIVE (R300): a flit in error is dropped, and every later one until the replay begins, since it is not the next in order. -/
def flitReceive (k : Nat) (f : Flit) (s : State) : State :=
  if !s.trained k || s.rd (0x7F10 + k) 0x01 ≠ 0 then s
  else
    let s := (s.bump (0x3010 + k) 0x06 f.corrected).bump (0x3010 + k) 0x07 f.uncorrectable
    if !f.good then sendAck k true 0 0 s
    else
      let s := linkFields k f s
      if f.ltype ≠ 1 then s
      else if f.lseq ≠ (s.link k).rxSeq then s
      else acceptFlit k f s

/-- The meaning of FLIT_RECEIVE. -/
def execFlitReceive (link : Nat) (f : Flit) (s : State) : Res := doneQuiet s (flitReceive link f s)

/-- REPLAY (R300): the DATA flits after LACK are sent again in order; the 16th replay of one puts the link DOWN. -/
def replay (k lack : Nat) (s : State) : State :=
  if !s.trained k || s.rd (0x7F10 + k) 0x01 ≠ 0 then s
  else
    let l := s.link k
    let n := l.replay.findIdx fun r => r.1.lseq = lack
    let rest := (if n < l.replay.length then l.replay.drop (n + 1) else l.replay).map fun r => (r.1, r.2 + 1)
    if rest.any fun r => decide (16 ≤ r.2) then linkDown k s
    else
      let s := s.setLink k fun l => { l with replay := rest }
      (s.bump (0x3010 + k) 0x08 rest.length).sendAll (rest.map fun r => .forward k r.1)

/-- The meaning of REPLAY. -/
def execReplay (link lack : Nat) (s : State) : Res := doneQuiet s (replay link lack s)

/-- LOSS_OF_SIGNAL (R300, R341): on any lane of a trained link. -/
def lossOfSignal (k lane : Nat) (s : State) : State := if s.trained k && decide (lane < 16) then linkDown k s else s

/-- The meaning of LOSS_OF_SIGNAL. -/
def execLossOfSignal (link lane : Nat) (s : State) : Res := doneQuiet s (lossOfSignal link lane s)

/-- CODEWORD_LOCK_LOSS (R300): codeword lock lost for 1 µs. -/
def codewordLockLoss (k : Nat) (s : State) : State := if s.trained k then linkDown k s else s

/-- The meaning of CODEWORD_LOCK_LOSS. -/
def execCodewordLockLoss (link : Nat) (s : State) : Res := doneQuiet s (codewordLockLoss link s)

/-- CREDIT_LEASE_EXPIRY (R465): a credit not returned 65,536 beats after its flit was sent is forfeited, logged, and puts the
link DOWN. -/
def creditLeaseExpiry (k : Nat) (s : State) : State :=
  if (s.link k).creditsUsed.any fun c => decide (c.2 + 65536 ≤ s.beat) then linkDown k (forfeit true 0xFFFF s) else s

/-- The meaning of CREDIT_LEASE_EXPIRY. -/
def execCreditLeaseExpiry (link : Nat) (s : State) : Res := doneQuiet s (creditLeaseExpiry link s)

/-! ## Bypasses and the management channel (R343, R346) -/

/-- LINK_STATE_REPORT (R343): what a member of the region finds bypassed; routes follow at the next frame boundary. -/
def linkStateReport (member : Nat) (byp : List Nat) (s : State) : State :=
  let s := takeMgmt s
  if !s.hasRegion || !s.inBox member then s
  else s.modFab fun f => { f with bypReports := sput member byp f.bypReports, linkChanged := true }

/-- The meaning of LINK_STATE_REPORT. -/
def execLinkStateReport (member : Nat) (bypassed : List Nat) (s : State) : Res := doneQuiet s (linkStateReport member bypassed s)

/-- The bypassed positions as routes take them at a frame boundary: this device's own finds and what members reported (R343). -/
def State.bypassedNow (s : State) : List Nat :=
  sortBy (fun a b => decide (a ≤ b)) ((s.ownBypassed ++ s.fab.bypReports.flatMap (·.2)).eraseDups)

/-- REFUSE7 (R346): the refused packet is due again 64 beats later. -/
def refuse7 (id : Nat) (s : State) : State :=
  if s.fab.vc7.any fun p => p.1 = id then s.modFab fun f => { f with vc7Resend := f.vc7Resend ++ [(id, s.beat + 64)] } else s

/-- The meaning of REFUSE7. -/
def execRefuse7 (id : Nat) (s : State) : Res := doneQuiet s (refuse7 id s)

/-- VC7_RESEND (R346). -/
def vc7Resend (id : Nat) (s : State) : State :=
  match s.fab.vc7Resend.find? fun p => p.1 = id && decide (p.2 ≤ s.beat), s.fab.vc7.find? fun p => p.1 = id with
  | some d, some (_, dst, fields) =>
    let s := (s.late d.2).modFab fun f => { f with vc7Resend := f.vc7Resend.erase d }
    s.send (.packet 7 0x70 dst id fields)
  | _, _ => s

/-- The meaning of VC7_RESEND. -/
def execVc7Resend (id : Nat) (s : State) : Res := doneQuiet s (vc7Resend id s)

/-! ## Regions (R323, R324) -/

/-- A box is a region of this device: extents from 1 to the ring lengths, and the device inside (R323, R324). -/
def State.boxOk (s : State) (corner extent : List Nat) : Bool :=
  [0, 1, 2].all fun a =>
    let r := s.ringLen a
    let e := extent.getD a 0
    decide (1 ≤ e) && decide (e ≤ r) && decide (corner.getD a 0 < r) && decide ((coord s.pos a + r - corner.getD a 0 % r) % r < e)

/-- The box that objects 0x3101:01 to 06 hold. -/
def State.nextBox (s : State) : List Nat × List Nat :=
  ([s.rd 0x3101 1, s.rd 0x3101 2, s.rd 0x3101 3], [s.rd 0x3101 4, s.rd 0x3101 5, s.rd 0x3101 6])

/-- The arming write is accepted (R324). -/
def regionArmOk (c : WriteCtx) (s : State) : Bool :=
  let b := s.nextBox
  c.value % s.frameLen = 0 && decide (s.beat + 1024 ≤ c.value) && s.boxOk b.1 b.2 &&
    (s.loadState = 0 || s.loadState = 5) && s.allFree

/-- REGION_CHANGE_ARM (R324). -/
def regionChangeArm (r : DictReq) (data : Bytes) (s : State) : State :=
  dictWrite r 0x3101 0x07 data regionArmOk (fun row c s =>
    let b := s.nextBox
    (storeWrite row 0x3101 0x07 c s).modFab fun f => { f with armed := some (c.value, b.1, b.2) }) s

/-- The meaning of REGION_CHANGE_ARM. -/
def execRegionChangeArm (r : DictReq) (data : Bytes) (s : State) : Res := doneQuiet s (regionChangeArm r data s)

/-- The queue pairs of enabled rings follow the roles of head and tail: ready on those members, in reset on others (R354). -/
def syncPairs (s : State) : State :=
  (List.range 256).foldl (fun s r =>
    if s.rdI 0x1111 0x09 r ≠ 1 then s
    else if s.isHead || s.isTail then (if s.rdI 0x1111 0x0D r = 0 then s.wrI 0x1111 0x0D r 1 else s)
    else s.wrI 0x1111 0x0D r 0) s

/-- A region in effect (R323 to R326): head and tail are the member of index 0 without an image; the bounds follow. -/
def setRegion (corner extent : List Nat) (s : State) : State :=
  let s := s.modFab fun f => { f with corner := corner, extent := extent, armed := none, bypReports := [] }
  let s := (s.wr 0x3101 0x08 s.memberCount).wr 0x3101 0x09 1
  let s := (s.wr 0x3101 0x0A (s.memberPos 0)).wr 0x3101 0x0B (s.memberPos 0)
  let s := if s.isHead then s.wr 0x1200 0x04 0 else s
  syncPairs (computeBounds s)

/-- REGION_CHANGE (R324, R224): at its effect beat the armed box takes effect, and every window closes. -/
def regionChange (s : State) : State :=
  match s.fab.armed with
  | none => s
  | some (b, corner, extent) =>
    if s.beat < b then s
    else
      let s := s.late b
      let slots := (s.wins.filter fun w => w.2.state = 1).map (·.1)
      setRegion corner extent (slots.foldl (fun s w => closeWin w s) s)

/-- The meaning of REGION_CHANGE. -/
def execRegionChange (s : State) : Res := doneQuiet s (regionChange s)

/-! ## Enables and BYP_HOLD (R340, R345, R391) -/

/-- Links whose enable bit a write sets leave their loopback; those whose bit it clears go DOWN (R345, R391). -/
def applyEnables (v : Nat) (s : State) : State :=
  (List.range 6).foldl (fun s k =>
    if bitOf v k then (if bitOf (s.rd 0x3000 0x02) k then s else s.wr (0x7F10 + k) 0x01 0)
    else linkDown k s) s

/-- LINK_ENABLE (R345). -/
def linkEnable (r : DictReq) (data : Bytes) (s : State) : State :=
  dictWrite r 0x3000 0x02 data (fun c _ => decide (c.value ≤ 0x3F))
    (fun row c s => storeWrite row 0x3000 0x02 c (applyEnables c.value s)) s

/-- The meaning of LINK_ENABLE. -/
def execLinkEnable (r : DictReq) (data : Bytes) (s : State) : Res := doneQuiet s (linkEnable r data s)

/-- A bypass command: at the next frame boundary BYP_HOLD is released or driven, as the latest command says (R340). -/
def bypassCommand (v : Nat) (r : DictReq) (data : Bytes) (s : State) : State :=
  dictWrite r 0x3000 0x04 data (fun c _ => c.value = v)
    (fun _ _ s => { s with power := { s.power with bypRequest := some (v = 1) } }) s

/-- The meaning of BYPASS_RELEASE. -/
def execBypassRelease (r : DictReq) (data : Bytes) (s : State) : Res := doneQuiet s (bypassCommand 1 r data s)

/-- The meaning of BYPASS_DRIVE. -/
def execBypassDrive (r : DictReq) (data : Bytes) (s : State) : Res := doneQuiet s (bypassCommand 2 r data s)

/-- The bypass command in effect at a frame boundary (R340): after a release the device stops computing and its links are DOWN;
driven high again, it computes. -/
def applyBypass (s : State) : State :=
  match s.power.bypRequest with
  | none => s
  | some rel =>
    let s := { s with power := { s.power with bypRequest := none } }
    if s.power.s3.isSome then s
    else if rel && s.power.bypHold = 1 then
      let s := { s with power := { s.power with bypHold := 0, bypReleased := true } }
      let s := (List.range 6).foldl (fun s k => linkDown k s) s
      if s.rd 0x1000 0x08 = 0 || s.rd 0x1000 0x08 = 1 then s.wr 0x1000 0x08 2 else s
    else if !rel && s.power.bypHold = 0 then
      let s := { s with power := { s.power with bypHold := 1, bypReleased := false } }
      if s.rd 0x1000 0x08 = 2 then s.wr 0x1000 0x08 (if s.rd 0x7001 0x07 = 0 then 0 else 1) else s
    else s

end Sys2Proof.Machine
end

