-- ==== Sys2Proof/Machine/Reset.lean ====
section
/-! DEFINITION. What a reset and S3 keep and lose (R447, R497 to R500, R502, R504), the start of a reset, and the shutdown of
R416 and R433. -/

namespace Sys2Proof.Machine
open Sys2Proof

/-- What an array keeps: its cells, column map, programming beat, cycle count and recorded place (R499, R508); its drift state is
measured anew (R103). -/
def Arr.kept (a : Arr) : Arr :=
  { Arr.blank with
    retired := a.retired, place := a.place, cells := a.cells, badCols := a.badCols, spares := a.spares, badRows := a.badRows
    cycles := a.cycles, progBeat := a.progBeat, programmed := a.programmed, noise := a.noise }

/-- A store of arrays in canonical form. -/
def keptArrays (l : List (Nat × Arr)) : List (Nat × Arr) := l.foldl (fun m x => sset Arr.blank x.1 (Arr.kept x.2) m) []

/-- A flash write that the reset tears leaves nothing readable in its place (R405, R484). -/
def tornFlash (s : State) : Flash :=
  match s.masthead.jobs with
  | .firmware _ :: _ => if s.rd 0x1400 0x0D = 3 then { s.flash with firmware := [] } else s.flash
  | .profile slot _ :: _ => { s.flash with profiles := s.flash.profiles.set slot [] }
  | _ => s.flash

/-- Objects that the always-on domain holds (R43, R447): the next profile, the bounds and the rate. -/
def alwaysOn : List Nat := [objKey 0x1400 0x03 0, objKey 0x1200 0x04 0, objKey 0x1200 0x05 0, objKey 0x1200 0x07 0]

/-- Everything but the always-on domain, the flash, the cells and the calibration history is lost (R447, R499). The count runs on,
and the beat from which it does is kept in the time record (R504). -/
def loseVolatile (s : State) : State :=
  { State.reset with
    pending := s.pending, count := s.count, draws := s.draws, out := s.out, tap := s.tap, nextRid := s.nextRid
    obj := s.obj.filter fun x => alwaysOn.contains x.1
    arrays := keptArrays s.arrays
    dies := s.dies.map fun d => { Die.atRelease with trims := d.trims }
    time := { TimeSt.unlocked with
      growth := if s.boot.released then s.growth else s.time.growth
      lostAt := if s.boot.released then some s.beat else s.time.lostAt }
    sec := { State.reset.sec with minSvn := s.sec.minSvn, privUsed := s.sec.privUsed }
    flash := { tornFlash s with
      interrupted := s.flash.interrupted ++ (s.arrays.filter fun x => x.2.prog.isSome && x.2.place.isSome).map (·.1) }
    power := { Power.inReset with
      pending := s.power.pending, heldRings := s.power.heldRings
      posX := s.power.posX, posY := s.power.posY, posZ := s.power.posZ } }

/-- A reset with a cause of object 0x1000:09 (R498, R499): counted in flash; the second argument says that it leads into recovery
mode (R485). A reset returns the block to the start of start-up. -/
def beginReset (cause : Nat) (recovery : Bool) (s : State) : State :=
  let t := loseVolatile s
  ({ t with
    flash := { t.flash with resets := t.flash.resets + 1 }
    boot := { t.boot with recovery := recovery } } : State).wr 0x1000 0x09 cause

/-- A power-on reset also loses the count, the bounds, the held values and the fault record of the always-on domain, and the
test port's record of private instructions (R498, R502, R524). -/
def powerOn (s : State) : State :=
  let t := beginReset 0 false s
  { t with
    count := 0#64, obj := [], time := TimeSt.unlocked, tap := State.reset.tap
    sec := { t.sec with privUsed := false }
    power := { Power.inReset with posX := t.power.posX, posY := t.power.posY, posZ := t.power.posZ } }

/-- Shutdown of R416 (kind 8) or by a supply fault (kind 9, R433): everything stops, BYP_HOLD is released, SHDN_N goes low, the
always-on domain holds the record, and the state is S3. A supply fault leaves SHUTDOWN of object 0x2103:05 clear. -/
def shutdown (kind : Nat) (r : FaultRec) (s : State) : State :=
  if s.power.s3.isSome then s
  else
    let t := loseVolatile s
    let t := { t with power := { t.power with bypHold := 0, shdn := true, s3 := some (kind, s.beat), pending := some r } }
    let t := t.wr 0x2000 0x09 3
    if kind = 8 then t.wr 0x2103 0x05 4 else t

/-- The record of a thermal shutdown (R416, R471). -/
def shutdownRec (s : State) : FaultRec := newRec s 8 17

/-- Beats for which a hold of R416 or R433 lasts at least. -/
def holdBeats : Nat := 976563

end Sys2Proof.Machine
end

