-- ==== Sys2Proof/Machine/Housekeeping.lean ====
section
/-! DEFINITION. The housekeeping round (R409 to R411), plausibility (R412, R413), the bands of dies and memories (R95 to R97,
R419), thermal levels (R414), shutdown by the always-on comparator (R416, R417) and its release. -/

namespace Sys2Proof.Machine
open Sys2Proof

/-- The housekeeping record changed. -/
def State.modHk (s : State) (f : Hk → Hk) : State := { s with hk := f s.hk }

/-! ## The round (R409 to R411) -/

/-- Beats of a round. -/
def roundBeats : Nat := 1953

/-- The evaluation beat of a round. -/
def evalBeat : Nat := 1947

/-- The sequence that the objects hold, as the entries that differ from the standard one. -/
def State.sequenceNow (s : State) : List (Nat × Nat) :=
  ((List.range 63).map fun e => (e, s.rd 0x2101 (e + 1))).filter fun x => x.1 ≠ x.2

/-- HOUSEKEEPING_ROUND (R409, R411): a round begins at beat 1,953·j with the sequence in effect. -/
def housekeepingRound (s : State) : State :=
  if !s.boot.released || s.power.s3.isSome || s.beat % roundBeats ≠ 0 then s
  else s.modHk fun h => { h with start := some s.beat, seqInUse := s.sequenceNow }

/-- The meaning of HOUSEKEEPING_ROUND. -/
def execHousekeepingRound (s : State) : Res := doneQuiet s (housekeepingRound s)

/-- The channel of an entry in the sequence in use. -/
def State.channelOf (s : State) (e : Nat) : Nat := if e = 63 then 63 else sget e e s.hk.seqInUse

/-- The latest entry of the round that converts a channel: the highest slot, HKB's where the slot is shared (R410). -/
def State.latestEntry (s : State) (ch : Nat) : Option Nat :=
  ((List.range 63).filter fun e => s.channelOf e = ch).foldl (fun b e =>
    match b with
    | none => some e
    | some d => if 2 * (d % 32) + d / 32 ≤ 2 * (e % 32) + e / 32 then some e else b) none

/-- A 12-bit code of the round. -/
def HkRound.code (h : HkRound) (e : Nat) : Nat := if e = 63 then h.e63b % 4096 else h.codes.getD e 0 % 4096

/-- A junction or HBM4 reading from its code, in 0.01 °C (R410). -/
def tempOf (code : Nat) : Int := 5 * (code : Int) - 4000

/-- A result of a check channel fails (R412). -/
def checkFails (ch code : Nat) : Bool :=
  (ch = 0 && (decide (code < 2376) || decide (2424 < code))) || (ch = 61 && decide (8 < code)) ||
    (ch = 62 && (decide (code < 3960) || decide (4040 < code)))

/-- Converter HKA (0) or HKB (1) fails its own checks (R412). -/
def converterFails (h : HkRound) (s : State) (conv : Nat) : Bool :=
  (List.range 63).any fun e => e / 32 = conv && checkFails (s.channelOf e) (h.code e)

/-- The entry-63 codes differ by more than 8 (R412). -/
def roundMismatch (h : HkRound) : Bool :=
  decide (8 < ((h.e63a % 4096 : Nat) - (h.e63b % 4096 : Nat) : Int).natAbs)

/-- A converter is at fault in the round (R412). -/
def converterFault (h : HkRound) (s : State) (conv : Nat) : Bool :=
  let own := converterFails h s conv
  let other := converterFails h s (1 - conv)
  if roundMismatch h then own = other || own else own

/-- The reading of a channel, whether its converter is at fault, and whether it is plausible (R413). -/
def readingOf (h : HkRound) (s : State) (ch : Nat) : Int × Bool × Bool :=
  match s.latestEntry ch with
  | none => (0, true, false)
  | some e =>
    let v := tempOf (h.code e)
    let fault := converterFault h s (e / 32)
    let jump := match s.hk.prev.find? fun x => x.1 = ch with
      | some (_, p) =>
        let was := (s.hk.prevFault.find? fun x => x.1 = ch && x.2).isSome
        !was && decide (1000 < (v - p).natAbs)
      | none => false
    (v, fault, !fault && decide (-4000 ≤ v) && decide (v ≤ 15000) && !jump)

/-! ## Supplies (R410, R430) -/

/-- The LSB of rail n's voltage channel in 0.25 mV, and of its current channel in 5 mA, for n = 1 to 16 (R430). -/
def railLsb (n : Nat) : Nat × Nat :=
  [(1, 20), (1, 20), (1, 10), (1, 10), (2, 10), (4, 2), (2, 10), (1, 10), (2, 1), (2, 2), (1, 2), (2, 1), (1, 10), (1, 10),
   (2, 1), (1, 1)].getD (n - 1) (1, 1)

/-- A measured value that its object's unit does not hold exactly becomes one of its two neighbours, which the manual leaves
open: a free value. -/
def roundedFree (num den : Nat) (s : State) : Nat × State :=
  if num % den = 0 then (num / den, s)
  else
    let d := s.draw
    (num / den + Config.freeValue d.1 % 2, d.2)

/-- The voltage and current of a rail reported where the round measured them (R410). -/
def reportRail (h : HkRound) (s : State) (n : Nat) : State :=
  let s := match s.latestEntry n with
    | some e =>
      let r := roundedFree (h.code e * (railLsb n).1) 4 s
      r.2.wr 0x2001 n r.1
    | none => s
  match s.latestEntry (16 + n) with
  | some e =>
    let r := roundedFree (h.code e * (railLsb n).2) 20 s
    r.2.wr 0x2002 n r.1
  | none => s

/-- Package power over the rails that the round measured, in units of 1.25 µW (R410). -/
def packagePower (h : HkRound) (s : State) : Nat :=
  ((List.range 16).map (· + 1)).foldl (fun p n =>
    match s.latestEntry n, s.latestEntry (16 + n) with
    | some v, some i => p + h.code v * (railLsb n).1 * (h.code i * (railLsb n).2)
    | _, _ => p) 0

/-- Rails and power reported, VPP_G held where it reads above 38.0 A (R442), and κ recalibrated for the next frame boundary
(R438). -/
def reportSupplies (h : HkRound) (s : State) : State :=
  let s := ((List.range 16).map (· + 1)).foldl (reportRail h) s
  let p := roundedFree (packagePower h s) 800000 s
  let s := p.2.wr 0x2000 0x01 p.1
  let s := match s.latestEntry 22 with
    | some e =>
      let r := roundedFree (h.code e * 2) 20 s
      let s := r.2.wr 0x2000 0x08 r.1
      s.modHk fun k => { k with vppHold := decide (380 < r.1) }
    | none => s
  let k := f32Div (f32Mul s.power.kappa (f32OfInt p.1)) (f32OfInt h.pest)
  let k := f32Max (f32OfRatio 4 5) (f32Min (f32OfRatio 5 4) k)
  { s with power := { s.power with kappaNext := some k } }

/-! ## Bands (R95 to R97, R419) -/

/-- The band that a reading in 0.01 °C meets by the entry conditions of R96. -/
def bandMet (v : Int) : Nat :=
  if 9500 < v then 4 else if 8000 ≤ v then 3 else if 6000 ≤ v then 2 else if 4000 ≤ v then 1 else 0

/-- The exit level of a band (R96). -/
def bandExit (b : Nat) : Int := [-1000000, 3800, 5800, 7800, 9300].getD b 9300

/-- The band after a reading, from the band before it (R96). -/
def bandAfter (v : Int) : Nat → Nat
  | 0 => bandMet v
  | b + 1 => if b + 1 < bandMet v then bandMet v else if v < bandExit (b + 1) then bandAfter v b else b + 1

/-- A die's reading judged (R95, R97): the band due at the next frame boundary, the hold in T4 on a rejected reading with SENSOR,
and its end after four consecutive plausible rounds. -/
def judgeDie (h : HkRound) (s : State) (d : Nat) : State :=
  let (v, _, ok) := readingOf h s (33 + d)
  let x := s.die d
  let due := sget x.band d s.hk.bandNext
  let n := if ok then min 4 (x.plausible + 1) else 0
  let waits := x.held || x.rejected
  let nextBand := if !ok then 4 else if waits then (if 4 ≤ n then bandMet v else 4) else bandAfter v due
  let s := s.modDie d fun x => { x with
    tj := if ok then some v else x.tj, plausible := n
    rejected := if ok then x.rejected else true
    eff := x.eff + Config.ageing (if ok then v else x.tj.getD 10000) }
  let s := s.modHk fun k => { k with bandNext := sput d nextBand k.bandNext }
  if ok then s else s.flag 0x2210 0x12 2

/-- A memory's band from a reading: a higher band at once, a lower one at the next frame boundary (R419). -/
def judgeMemory (m : Nat) (v : Int) (ok : Bool) (s : State) : State :=
  let cur := sget 0 m s.hk.memBand
  let b := if ok then bandAfter v cur else 4
  if cur < b then s.modHk fun k => { k with memBand := sset 0 m b k.memBand, memBandNext := sput m b k.memBandNext }
  else s.modHk fun k => { k with memBandNext := sput m b k.memBandNext }

/-- HBM4 stacks 0 to 3, then LPDDR5X devices 0 to 7 by their MR4 reports (R419). -/
def judgeMemories (h : HkRound) (s : State) : State :=
  let s := (List.range 4).foldl (fun s m =>
    let r := readingOf h s (57 + m)
    judgeMemory m r.1 r.2.2 s) s
  (List.range 8).foldl (fun s d =>
    match h.mr4[d]? with
    | some v => judgeMemory (4 + d) v true s
    | none => s) s

/-! ## Thermal levels (R414 to R416) -/

/-- A level entered unless it is in effect: bit 0 warning, bit 1 throttle. -/
def enterLevel (bit : Nat) (s : State) : State :=
  if bitOf (s.rd 0x2103 0x06) bit then s
  else
    let s := (s.flag 0x2103 0x05 bit).flag 0x2103 0x06 bit
    if bit = 1 then { s with power := { s.power with throttleFrom := some (s.beat + 1) } } else s

/-- T_max of the 24 junctions, an implausible reading counting as 100.00 °C (R414). -/
def maxJunction (h : HkRound) (s : State) : Int :=
  (List.range 24).foldl (fun m i =>
    let r := readingOf h s (33 + i)
    max m (if r.2.2 then r.1 else 10000)) (-4000)

/-- The levels that T_max enters; shutdown at 115.00 °C (R414, R416). -/
def judgeLevels (t : Int) (s : State) : State :=
  let s := ((s.wr 0x2103 0x01 (intBits 32 t)).bump 0x2103 0x07 1).modHk fun k => { k with tmax := some t }
  let s := if 9500 ≤ t then enterLevel 0 s else s
  let s := if 10200 ≤ t then enterLevel 1 s else s
  if 11500 ≤ t then shutdown 8 (shutdownRec s) s else s

/-- The readings of the round kept for the next one (R413). -/
def keepReadings (h : HkRound) (old s : State) : State :=
  let rs := (List.range 28).map fun i => (33 + i, readingOf h old (33 + i))
  s.modHk fun k => { k with
    start := none, prev := rs.map fun r => (r.1, r.2.1), prevFault := rs.map fun r => (r.1, r.2.2.1) }

/-- HOUSEKEEPING_EVALUATION (R409 to R414, R419, R438, R442): at the evaluation beat the result registers are written and the round
is judged. -/
def housekeepingEvaluation (h : HkRound) (s : State) : State :=
  match s.hk.start with
  | none => s
  | some b =>
    if s.beat < b + evalBeat || s.power.s3.isSome then s
    else
      let s := s.late (b + evalBeat)
      let old := s
      let s := (List.range 64).foldl (fun s e => s.wr 0x2100 (e + 1) (h.code e)) s
      let s := (List.range 28).foldl (fun s i => s.wr 0x2102 (i + 1) (intBits 32 (readingOf h s (33 + i)).1)) s
      let s := if roundMismatch h then (s.flag 0x2103 0x05 3).bump 0x2103 0x08 1 else s
      let s := reportSupplies h s
      let s := (List.range 8).foldl (judgeDie h) s
      let s := judgeMemories h s
      let s := keepReadings h old s
      judgeLevels (maxJunction h old) s

/-- The meaning of HOUSEKEEPING_EVALUATION. -/
def execHousekeepingEvaluation (h : HkRound) (s : State) : Res := done s (housekeepingEvaluation h s)

/-! ## The always-on comparator (R416, R417) -/

/-- COMPARATOR_TRIP (R416, R417): a diode has reached the trip level, and shutdown starts at the next tick. The comparator works
from VDD_AO alone, in every state. -/
def comparatorTrip (diode : Nat) (s : State) : State := shutdown 8 { shutdownRec s with unit := diode } s

/-- The meaning of COMPARATOR_TRIP. -/
def execComparatorTrip (diode : Nat) (s : State) : Res := done s (comparatorTrip diode s)

/-- SHUTDOWN_RELEASE (R416, R498): every diode reads below its release level, and once 976,563 beats have passed the hold ends with
a reset of cause 4. -/
def shutdownRelease (s : State) : State :=
  match s.power.s3 with
  | some (8, b) => if s.beat < b + holdBeats then s else beginReset 4 false s
  | _ => s

/-- The meaning of SHUTDOWN_RELEASE. -/
def execShutdownRelease (s : State) : Res := done s (shutdownRelease s)

/-- What a frame boundary does with the bands (R95, R97, R419): bands due take effect, counted and flagged, a hold starts or
ends, and memories move to lower bands. -/
def bandsAtBoundary (s : State) : State :=
  let s := (List.range 8).foldl (fun s d =>
    let x := s.die d
    let b := sget x.band d s.hk.bandNext
    let ends := (x.held || x.rejected) && decide (4 ≤ x.plausible)
    let s := s.modDie d fun x => { x with
      band := b, held := if ends then false else x.held || x.rejected, rejected := false }
    if b = x.band then s else (s.flag 0x2210 0x09 d).bump 0x2213 (d + 1) 1) s
  s.modHk fun k => { k with
    bandNext := [], memBandNext := []
    memBand := k.memBandNext.foldl (fun l x => sset 0 x.1 x.2 l) k.memBand }

/-- THERMAL_LEVEL_EXIT (R414): at a frame boundary a level ends where the latest evaluation gave a T_max below its exit level; a
frame in which throttle was in effect is counted (R415). -/
def levelsAtBoundary (s : State) : State :=
  let s := if s.power.throttleFrom.isSome then s.bump 0x2103 0x09 1 else s
  match s.hk.tmax with
  | none => s
  | some t =>
    let s := if t < 9000 then s.wr 0x2103 0x06 (clearBit (s.rd 0x2103 0x06) 0) else s
    if t < 9800 then
      { (s.wr 0x2103 0x06 (clearBit (s.rd 0x2103 0x06) 1)) with power := { s.power with throttleFrom := none } }
    else s

/-- The temperature gain of a die (R100): 60 mV ÷ (V_u · (1 + α · (T_j − 30 °C))), exact before one rounding. -/
def tempGain (x : Die) : F32 :=
  let vu : Nat := [6000, 5455, 5000, 4660, 4444].getD x.band 4444
  let t : Int := if x.held then 10000 else x.tj.getD 10000
  f32OfRatio (6000 * 20000) (vu * (20000 + (t - 3000)).toNat)

end Sys2Proof.Machine
end

