-- ==== Sys2Proof/Machine/Drift.lean ====
section
/-! DEFINITION. Drift of the arrays: the estimate from the reference columns (R101 to R103), the gain register (R99, R100), requests,
warnings and arrays that read low (R105, R106), the prediction (R107), and the pattern read set (R425). -/

namespace Sys2Proof.Machine
open Sys2Proof

/-- The drift limit 1.4375 (R105). -/
def driftLimit : F32 := f32OfRatio 5888 4096

/-- An estimate can be formed (R102). -/
def Arr.evident (a : Arr) : Bool := decide (2 ^ 30 ≤ a.sxx3) && decide (0 < a.sxy3)

/-- The drift gain seen in the accumulators (R102). -/
def Arr.estimate (a : Arr) : F32 := f32OfRatio a.sxx3 a.sxy3.toNat

/-- The drift gain after an estimate: whole, or a quarter of the way within 16/4,096, and never above the limit (R102). -/
def nextGd (whole : Bool) (gd est : F32) : F32 :=
  let step := f32Max (f32OfRatio (-16) 4096) (f32Min (f32OfRatio 16 4096) (f32Div (f32Sub est gd) (f32OfInt 4)))
  f32Min (if whole then est else f32Add gd step) driftLimit

/-- The skew of an estimate, where there is evidence at level 1 (R102). -/
def Arr.skewSeen (a : Arr) : F32 :=
  if 2 ^ 28 ≤ a.sxx1 && decide (0 < a.sxy1) then
    f32Sub (f32Div (f32OfRatio a.sxy1 a.sxx1.toNat) (f32OfRatio a.sxy3 a.sxx3.toNat)) f32One
  else a.skew

/-- The accumulators used and cleared (R101, R102), with the run of low estimates (R106). -/
def Arr.useDrift (a : Arr) (whole : Bool) : Arr :=
  let b := if a.evident then
      { a with
        gd := nextGd (whole || a.wholeNext) a.gd a.estimate, skew := a.skewSeen, wholeNext := false
        lowRun := if f32Lt a.estimate (f32OfRatio 15 16) then a.lowRun + 1 else 0 }
    else a
  { b with sxy3 := 0, sxx3 := 0, sxy1 := 0, sxx1 := 0 }

/-- round(4,096 · g_d · g_t), exact before the rounding (R99). -/
def gainRegister (gd gt : F32) : Nat :=
  let a := f32Val gd
  let b := f32Val gt
  let e := a.e + b.e + 12
  if 0 ≤ e then a.m * b.m * 2 ^ e.toNat else divEven (a.m * b.m) (2 ^ (-e).toNat)

/-- The gain register and temperature gain of an array written for its die (R99, R100). -/
def writeGain (a : Nat) (s : State) : State :=
  let gt := tempGain (s.die (dieOf a))
  s.modArr a fun x => { x with gt := gt, gain := gainRegister x.gd gt }

/-- Arrays that the store lists. -/
def State.arrayIds (s : State) : List Nat := s.arrays.map (·.1)

/-- What one array's update raises: a re-programming request, once (R105); the warning level (R106); two low estimates mark it failed
and hand it to the placement loop (R106). -/
def judgeDrift (a : Nat) (s : State) : State :=
  let x := s.arr a
  let ask := !x.requested && !x.retired && x.place.isSome &&
    (!f32Lt x.gd driftLimit || f32Lt (f32OfRatio 1 16) (f32Abs x.skew))
  let s := if ask then (s.modArr a fun x => { x with requested := true }).flag 0x2210 0x12 0 else s
  let warn := !f32Lt x.gd (f32OfRatio (s.rd 0x2212 0x03) 4096)
  let s := if warn && !x.warned then (s.modArr a fun x => { x with warned := true }).flag 0x2210 0x12 1
    else if !warn && x.warned then s.modArr a fun x => { x with warned := false } else s
  if 2 ≤ x.lowRun && !x.failed then
    retireArray a ((s.modArr a fun x => { x with failed := true }).flag 0x2210 0x12 3)
  else s

/-- The drift of every array at a frame boundary: DRIFT_GAIN_UPDATE, GAIN_RECOMPUTE, REPROGRAM_REQUEST (R99, R102, R105, R106). -/
def driftAtBoundary (s : State) : State :=
  s.arrayIds.foldl (fun s a => judgeDrift a (writeGain a (s.modArr a fun x => x.useDrift false))) s

/-- DRIFT_PREDICTION (R107): the earliest beat over the arrays in service at which the limit is reached. -/
def predictDrift (s : State) : State :=
  let s := { s with dies := s.dies.map fun (d : Die) => { d with tHist := (d.tj.getD 10000 :: d.tHist).take 1024 } }
  let l := s.arrays.filter fun x => x.2.place.isSome && s.img.isSome && !x.2.retired
  s.wr 0x2212 0x04 (l.foldl (fun m x => min m (Config.driftPrediction x.2.gd (s.die (dieOf x.1)).tHist s.beat)) 0xFFFFFFFFFFFFFFFF)

/-! ## The pattern read set (R425) -/

/-- The drive of pattern read q over K′ rows. -/
def patternDrive (q rows : Nat) : List Int :=
  (List.range rows).map fun i => if popcount (i &&& (refPattern q).2) % 2 = 0 then 21 else -21

/-- One read under the settings of R425: PREDICT_SPLIT, range 3, the default active-row limit, no repeats. -/
def patternRead (a fmt : Nat) (drive : List Int) (s : State) : ReadOut × State :=
  let c := runRead ⟨s.arr a, drive, 0, 3, rowLimit 0 fmt 3, s.draws⟩
  (readOut c, { s with draws := s.draws + 560 * c.sub })

/-- The pattern read set of an array for a matrix row block: its reference results enter the drift estimate (R101, R425). -/
def patternSet (a fmt rows : Nat) (s : State) : State :=
  (List.range 16).foldl (fun s q =>
    let drive := patternDrive q rows
    let r := patternRead a fmt drive s
    accumulateDrift a (r.2.arr a).gt ((List.range 16).map (refProduct drive)) r.1 r.2) s

/-- Format and rows of the row block that an array holds or is to hold. -/
def placeShape (img : Image) (p : Place) : Nat × Nat :=
  match img.mats[p.mat]? with
  | some m => (m.fmt, blockRows m p.rb)
  | none => (0, 0)

/-- A pattern read set whose estimate is taken whole at once (R102, R103, R192). -/
def patternWhole (img : Image) (x : Nat × Place) (s : State) : State :=
  let h := placeShape img x.2
  let s := patternSet x.1 h.1 h.2 (writeGain x.1 s)
  writeGain x.1 (s.modArr x.1 fun a => a.useDrift true)

end Sys2Proof.Machine
end

