-- ==== Sys2Proof/Machine/Steps.lean ====
section
/-! DEFINITION. The start of a step on this device (R51, R52, R76, R110, R275 to R277, R424, R452), and when a calibration
window falls due, which the head needs to compose (R421, R422). -/

namespace Sys2Proof.Machine
open Sys2Proof

/-! ## Windows that fall due (R421, R422) -/

/-- The period P of the routine windows, in frames. -/
def State.windowPeriod (s : State) : Nat := max 1 (s.rd 0x2200 0x02)

/-- The routine windows that fall due at a boundary, as (die, FULL) (R421). -/
def State.dueWindows (s : State) (boundary : Nat) : List (Nat × Bool) :=
  let k := boundary / s.frameLen
  let p := s.windowPeriod
  ((List.range 8).filter fun n => k % p = n * p / 8 && !(s.die n).lost).map fun n => (n, k / p % 64 = 0)

/-- Beats of a window (R420). -/
def windowBeats (full : Bool) : Nat := if full then 1465 else 48

/-- Length of a window or array test in beats (R420, R517). -/
def CalWin.beats (w : CalWin) : Nat :=
  match w.test with
  | some 0 => 128
  | some _ => 48
  | none => windowBeats w.full

/-- A window that falls due joins those that wait: one of the same die merges with it (R422). -/
def addWindow (w : CalWin) (l : List CalWin) : List CalWin :=
  if l.any fun x => x.die = w.die && x.test.isNone && w.test.isNone then
    l.map fun x => if x.die = w.die && x.test.isNone then
      { x with full := x.full || w.full, routine := x.routine || w.routine
               answer := match x.answer with | some a => some a | none => w.answer } else x
  else l ++ [w]

/-- Waiting windows in the order of their start (R422). -/
def windowOrder (l : List CalWin) : List CalWin :=
  sortBy (fun a b => decide (a.due < b.due) || (a.due = b.due && decide (a.die ≤ b.die))) l

/-- The window that starts at a boundary, as far as what waits and what falls due by then tells. -/
def State.windowStarting (s : State) (boundary : Nat) : Option CalWin :=
  let busy := match s.cal.current with
    | some w => decide (boundary < w.start + w.beats)
    | none => false
  if busy then none
  else
    let l := (s.dueWindows boundary).foldl (fun l d => addWindow ⟨d.1, d.2, boundary, true, none, none, 0⟩ l) s.cal.waiting
    (windowOrder (l.filter fun w => decide (w.due ≤ boundary))).head?

/-- The head composes the step of a frame with no sequence: a routine FULL window starts at the next boundary, or one has
started and its last blanked boundary has not passed (R424). -/
def State.blanked (s : State) (frame : Nat) : Bool :=
  decide (frame < s.cal.blankUntil) ||
    (match s.windowStarting (frame + s.frameLen) with
    | some w => w.full && w.routine
    | none => false)

/-! ## What governs the step (R76, R110, R111, R118) -/

/-- Beats of 30 and of 365 days (R110, R111). -/
def freshBeats : Nat := 2531250000000
/-- Beats of 365 days. -/
def oldBeats : Nat := 30796875000000

/-- Age of an array (R104). -/
def State.age (s : State) (a : Nat) : Nat := s.beat - (s.arr a).progBeat

/-- τ_B of an array by its die's band and its age (R111). -/
def State.tauB (s : State) (a : Nat) : Nat :=
  let aged := decide (freshBeats ≤ s.age a)
  if (s.die (dieOf a)).band = 3 then if aged then 612 else 437 else if aged then 393 else 262

/-- An array meets a condition that takes its strip out of class B (R110). -/
def State.offB (s : State) (a : Nat) : Bool :=
  (s.die (dieOf a)).band = 4 || decide (oldBeats < s.age a) || (s.arr a).requested

/-- The class B judgement of every strip, where the step holds a class B request (R110). -/
def classBStrips (s : State) (len : List LenEntry) (places : List (Nat × Place)) : List (Nat × Nat × Nat × Nat) :=
  if !(len.any fun l => l.cls = 1) then []
  else
    let keys := (places.map fun x => (x.2.mat, x.2.cb, x.2.strip)).eraseDups
    keys.map fun k =>
      let arrs := (places.filter fun x => (x.2.mat, x.2.cb, x.2.strip) = k).map (·.1)
      (k.1, k.2.1, k.2.2, if arrs.any s.offB then 0 else arrs.foldl (fun m a => max m (s.tauB a)) 0)

/-- What is in effect at the start beat. -/
def snapNow (s : State) (len : List LenEntry) : Snap :=
  let places := s.arrays.filterMap fun x => x.2.place.map fun p => (x.1, p)
  { recipe := s.obj.filter fun o => decide (0x4100 * 256 ≤ o.1) && decide (o.1 < 0x4200 * 256) && decide (o.1 % 256 ≤ 0x0A)
    places := places
    gains := places.map fun x => (x.1, (s.arr x.1).gain)
    gts := places.map fun x => (x.1, (s.arr x.1).gt)
    bands := s.dies.map (·.band)
    qmon := s.qmonCopy
    strips := classBStrips s len places
    reserveClock := s.rd 0x2000 0x03 }

/-- The device starts its part of the step: what arrived for earlier steps goes, the settings in effect are taken, and full
redundancy is decided (R51, R52, R76, R459). -/
def beginStep (s : State) : State :=
  match s.fab.step with
  | none => s
  | some st =>
    let work : Work := { Work.none with
      snap := snapNow s st.len
      acts := s.work.acts.filter fun a => decide (st.num ≤ stepOfAct a)
      dispatches := s.work.dispatches.filter fun d => decide (st.num ≤ d.step) }
    let s := { s with work := work }
    let s := s.modStep fun st => { st with started := true, redundancy := decide (s.rd 0x7003 0x01 = 1) }
    if st.run = 1 then { s with faults := { s.faults with seriesCtx := [] } } else s

/-! ## The head's composition -/

/-- What the head composes at its start beat: no sequence in a blanked frame (R424), a rerun (R452), else a batch under R277. -/
def composeStep (frame : Nat) (s : State) : List LenEntry × List CandRec × Nat × State :=
  let fresh (s : State) : List LenEntry × List CandRec × Nat × State :=
    let r := compose s.beat s
    (r.1.len, r.1.cands, 1, r.2)
  if s.blanked frame then ([], [], 1, s)
  else
    match s.fab.rerun with
    | some r =>
      let keep := renumber (r.len.filter (rerunKeeps s))
      if keep.isEmpty then fresh (s.modFab fun f => { f with rerun := none, reports := [] })
      else (keep, r.cands.filter fun c => keep.any fun l => l.req = c.entry, r.run, s)
    | none => fresh s

/-- The head composes step n, holds it, and multicasts its BATCH (R275, R277, R312, R332). -/
def headStart (frame : Nat) (s : State) : State :=
  let (len, cands, run, s) := composeStep frame s
  let admits := (len.filter fun l => (s.entry l.req).state = 1).map fun l => admitOf s l.req
  let b : BatchMsg := ⟨s.fab.nextStep, run, frame, len, admits, cands⟩
  let s := s.modFab fun f => { f with step := some (stepOf b false), nextStep := f.nextStep + 1 }
  let s := beginStep (s.bump 0x5002 0x03 1)
  sendHeld (.batch b) (s.beat + s.rd 0x3102 0x04) s.members s

/-! ## What the sequencers allot and submit -/

/-- A run of granules can be allotted: it lies on one half, every granule is free, and the context stays within its most
scratchpad (R202, R293). -/
def State.canAllot (s : State) (a : Allot) : Bool :=
  let b : Buf := ⟨a.ctx, a.base, 65536 * a.count, s.beat, false⟩
  let held := (s.bufs.filter fun x => x.ctx = a.ctx).flatMap Buf.granules
  decide (a.ctx < 1024) && decide (0 < a.count) && decide (a.base % 65536 = 0) && decide (a.base / 0x10000000 < 2) &&
    decide (a.base % 0x10000000 + 65536 * a.count ≤ 2560 * 65536) &&
    b.granules.all (fun g => !s.granuleTaken g) && decide (held.length + a.count ≤ s.rdI 0x5021 0x03 a.ctx)

/-- An allotted run is a buffer of its context, under a lease from now on (R202, R465); a run that cannot be allotted is none. -/
def allot (a : Allot) (s : State) : State :=
  if s.canAllot a then { s with bufs := s.bufs ++ [⟨a.ctx, a.base, 65536 * a.count, s.beat, false⟩] } else s

/-- A descriptor from the sequencers or Masthead enters its engine's queue, where the queue has room (R211, R212). -/
def submitOwn (engine : Nat) (data : Bytes) (s : State) : State :=
  if engine < 16 && data.length = 32 && (s.engine engine).queue.length < 64 then enqueueDesc engine data s else s

/-- What the step sequencers and Masthead decide as a step starts, in the order of the plan. -/
def seqWork (p : SeqPlan) (s : State) : State :=
  p.submits.foldl (fun s x => submitOwn x.1 x.2 s) (p.allots.foldl (fun s a => allot a s) s)

/-- STEP_START (R51): at F + slot the head composes and starts step n, and another member starts its part of the step whose BATCH
is visible to it. A device that is not in service, not synchronised or in doubt starts none (R42, R338, R469). The sequencers then allot and submit what
the plan says. -/
def stepStart (plan : SeqPlan) (s : State) : State :=
  let frame := s.frameStart
  let due := frame + s.slot
  if !s.synced || !s.inService || !s.hasRegion || s.fab.inDoubt.isSome || s.beat < due then s
  else
    match s.fab.step with
    | some st =>
      if st.frame = frame then
        if s.isHead || !st.visible || st.started || st.resolved then s else seqWork plan (beginStep (s.late due))
      else if s.isHead && st.resolved then seqWork plan (headStart frame (s.late due))
      else s
    | none => if s.isHead then seqWork plan (headStart frame (s.late due)) else s

/-- The meaning of STEP_START. -/
def execStepStart (plan : SeqPlan) (s : State) : Res := done s (stepStart plan s)

end Sys2Proof.Machine
end

