-- ==== Sys2Proof/Machine/Calibration.lean ====
section
/-! DEFINITION. Calibration windows (R420 to R429): their start and end, the work of a FULL window, trims, and the corrections
that a frame boundary loads. -/

namespace Sys2Proof.Machine
open Sys2Proof

/-- The calibration record changed. -/
def State.modCal (s : State) (f : Cal → Cal) : State := { s with cal := f s.cal }

/-- ROUTINE_WINDOW_DUE (R421, R422): at a frame boundary the routine windows due are queued or merged. -/
def windowsDue (s : State) : State :=
  if !s.boot.ready then s
  else s.modCal fun c => { c with
    waiting := (s.dueWindows s.beat).foldl (fun l d => addWindow ⟨d.1, d.2, s.beat, true, none, none, 0⟩ l) c.waiting }

/-- A waiting window or array test starts: its die is inside it. -/
def startWindow (w : CalWin) (s : State) : State :=
  let full := w.full && w.routine && w.test.isNone
  let s := (s.wr 0x2200 0x03 w.die).modDie w.die fun d => { d with pendingTrims := [], pendingFail := [], trimsReady := false }
  s.modCal fun c => { c with
    waiting := c.waiting.filter (· ≠ w), current := some { w with start := s.beat }
    adcFits := [], colOffsets := [], colGains := [], trimmed := false, readBy := []
    mode := s.rd 0x2200 0x01, band := (s.die w.die).band
    blankUntil := if full then s.boundaryFrom (s.beat + 1465) else c.blankUntil }

/-- The window or array test that may start now: the first that waits, at a frame boundary at which no die is inside one, while
Masthead, which schedules windows, is not restarting (R422, R466, R516). -/
def State.nextWindow (s : State) : Option CalWin :=
  if !s.atBoundary || s.cal.current.isSome || !s.masthead.on then none
  else (windowOrder (s.cal.waiting.filter fun w => decide (w.due ≤ s.beat))).head?

/-- CALIBRATION_WINDOW_START (R420, R422, R423, R424). -/
def calibrationWindowStart (s : State) : State :=
  match s.nextWindow with
  | some w => if w.test.isSome then s else startWindow w s
  | none => s

/-- The meaning of CALIBRATION_WINDOW_START. -/
def execCalibrationWindowStart (s : State) : Res := doneQuiet s (calibrationWindowStart s)

/-- Masthead's answer of a CAL_DIE, when the window that answers it ends (R400, R401). -/
def answerWindow (w : CalWin) (s : State) : State :=
  match w.answer with
  | none => s
  | some m =>
    match s.masthead.taken.find? fun t => t.1 = m with
    | none => s
    | some (_, word) =>
      let tag := word.toNat / 0x10000 % 0x100
      let s := (s.wr (0x1818 + m) 0x01 (0x04000000 + tag * 0x10000 + w.die)).flag (0x1818 + m) 0x02 0
      { s with masthead := { s.masthead with taken := s.masthead.taken.filter fun t => t.1 ≠ m } }

/-- A window abandoned loads nothing and is not counted (R429). -/
def abandonWindow (s : State) : State :=
  match s.cal.current with
  | none => s
  | some w => answerWindow w ((s.wr 0x2200 0x03 0xFF).modCal fun c => { c with current := none })

/-- The current calibration window where a beat offset of it has been reached. -/
def State.inWindowAt (s : State) (offset : Nat) : Option CalWin :=
  match s.cal.current with
  | some w => if w.test.isNone && decide (w.start + offset ≤ s.beat) then some w else none
  | none => none

/-- CALIBRATION_WINDOW_END (R420, R422, R429): the window is counted, its end reported, a CAL_DIE answered, and its corrections
wait for the next frame boundary. -/
def calibrationWindowEnd (s : State) : State :=
  match s.cal.current with
  | none => s
  | some w =>
    if w.test.isSome || s.beat < w.start + w.beats then s
    else
      let s := s.late (w.start + w.beats)
      let s := ((s.wr 0x2200 0x03 0xFF).bump 0x2200 0x05 1).wr 0x2201 (w.die + 1) s.beat
      let s := if w.full then s.modDie w.die fun d => { d with trimsReady := true } else s
      answerWindow w (s.modCal fun c => { c with current := none })

/-- The meaning of CALIBRATION_WINDOW_END. -/
def execCalibrationWindowEnd (s : State) : Res := doneQuiet s (calibrationWindowEnd s)

/-- Arrays in service on a die. -/
def State.inServiceOn (s : State) (d : Nat) : List (Nat × Place) :=
  if s.img.isNone || (s.die d).lost then []
  else s.arrays.filterMap fun x =>
    match x.2.place with
    | some p => if dieOf x.1 = d && !x.2.retired then some (x.1, p) else none
    | none => none

/-- ADC_TRIM (R426): within a FULL window the offset and gain error of an ADC are fitted for a range. The errors are measured
values: the offset in 1/1,024 LSB, the gain in 0.001 %. -/
def adcTrim (a adc range : Nat) (offset gain : Int) (s : State) : State :=
  match s.inWindowAt 16 with
  | none => s
  | some w =>
    if !w.full || dieOf a ≠ w.die || 70 ≤ adc || 4 ≤ range || s.cal.trimmed then s
    else s.modCal fun c => { c with
      adcFits := (c.adcFits.filter fun x => x.1 ≠ (a * 70 + adc) * 4 + range) ++ [((a * 70 + adc) * 4 + range, offset, gain)] }

/-- The meaning of ADC_TRIM. -/
def execAdcTrim (arr adc range : Nat) (offset gain : Int) (s : State) : Res := doneQuiet s (adcTrim arr adc range offset gain s)

/-- COLUMN_OFFSET_MEASURE (R426): the sums of 64 zero-drive codes at range 0, by physical column pair: 64 · ω_j in u. -/
def columnOffsetMeasure (a : Nat) (sums : List Int) (s : State) : State :=
  match s.inWindowAt 144 with
  | none => s
  | some w =>
    if !w.full || dieOf a ≠ w.die || s.cal.trimmed then s
    else s.modCal fun c => { c with
      colOffsets := (c.colOffsets.filter fun x => x.1 / 560 ≠ a) ++ (List.range 560).map fun p => (a * 560 + p, sums.getD p 0) }

/-- The meaning of COLUMN_OFFSET_MEASURE. -/
def execColumnOffsetMeasure (arr : Nat) (sums : List Int) (s : State) : Res := doneQuiet s (columnOffsetMeasure arr sums s)

/-! ## Calibration vectors (R426) -/

/-- n further bits of PRBS31 (x^31 + x^28 + 1) from a register, the oldest bit at bit 30. -/
def prbs31 : Nat → Nat → List Nat
  | 0, _ => []
  | n + 1, r =>
    let b := (r / 2 ^ 30 + r / 2 ^ 27) % 2
    b :: prbs31 n (r * 2 % 2 ^ 31 + b)

/-- The number of eight bits, the first one as bit 0. -/
def bitsLsb : List Nat → Nat
  | [] => 0
  | b :: l => b + 2 * bitsLsb l

/-- Entry values of a run of the sequence: 8-bit values shifted right by one bit, arithmetically. -/
def prbsEntries : Nat → List Nat → List Int
  | 0, _ => []
  | n + 1, l => bitsInt 8 (bitsLsb (l.take 8)) / 2 :: prbsEntries n (l.drop 8)

/-- Calibration vector v over K′ rows. -/
def calVector (v rows : Nat) : List Int :=
  let all := prbs31 (8 * 1024 * (v + 1)) (2 ^ 31 - 1)
  prbsEntries rows (all.drop (8 * 1024 * v))

/-- The logical column that a physical column stands for: its default, or what a spare's role names (R61, R62). -/
def logicalOf (a : Arr) (p : Nat) : Option Nat :=
  let o := p % 35
  if 3 ≤ o then some (32 * (p / 35) + (o - 3))
  else if o = 0 then none
  else
    match a.spares.find? fun x => x.1 = 2 * (p / 35) + (o - 1) with
    | some (_, SpareRole.hot l) => some l
    | some (_, SpareRole.dup l) => some l
    | _ => none

/-- The exact product of a drive with the stored codes of a column of a place, from the weight shadow. -/
def exactProduct (img : Image) (m : MatEntry) (pl : Place) (drive : List Int) (l : Nat) : Int :=
  (driveRows drive).foldl (fun n r => n + r.2 * shadowLevel img m pl.mat (1024 * pl.rb + r.1) (512 * pl.cb + l)) 0

/-- ΣD̂·D and ΣD² of a column over reads with their exact products. -/
def corrSums (pairs : List (Int × Int)) : Int × Int :=
  pairs.foldl (fun n x => (n.1 + x.1 * x.2, n.2 + x.2 * x.2)) (0, 0)

/-- The measured γ of a column as a ratio: (ΣD̂D ÷ ΣD²) ÷ ĝ − 1 with ĝ the same ratio over the level-3 references. Where a sum is
zero the manual states no value: a free value. -/
def gammaOf (col ref : Int × Int) (free : Int) : Int × Nat :=
  let num := col.1 * ref.2
  let den := col.2 * ref.1
  if den = 0 then (free, 2000) else if 0 < den then (num - den, den.toNat) else (den - num, (-den).toNat)

/-- CALIBRATION_VECTOR_READS (R426): an array in service reads the 64 vectors under the settings of R425, and γ of each weight
column in use is formed. -/
def calibrationVectorReads (a : Nat) (s : State) : State :=
  match s.inWindowAt 176 with
  | none => s
  | some w =>
    match (s.inServiceOn w.die).find? fun x => x.1 = a with
    | none => s
    | some (_, pl) =>
      if !w.full || s.cal.trimmed || s.cal.colGains.any (fun x => x.1 / 560 = a) then s
      else
        let m := (s.mat? pl.mat).getD default
        let rows := blockRows m pl.rb
        let r := (List.range 64).foldl (fun (acc : List (List Int × List Int) × State) v =>
          let d := calVector v rows
          let x := patternRead a m.fmt d acc.2
          (acc.1 ++ [(d, x.1.totals)], x.2)) ([], s)
        let arr := s.arr a
        let refs := ((goodRefs arr).filter (· < 8)).flatMap fun q =>
          r.1.map fun x => (x.2.getD (refCol q) 0, refProduct x.1 q)
        let ref := corrSums refs
        let s := { r.2 with draws := r.2.draws + 560 }
        s.modCal fun c => { c with
          colGains := c.colGains ++ (List.range 560).filterMap fun p =>
            match logicalOf arr p with
            | none => none
            | some l =>
              if m.n ≤ 512 * pl.cb + l then none
              else
                let col := corrSums (r.1.map fun x => (x.2.getD p 0, exactProduct s.image m pl x.1 l))
                some (a * 560 + p, gammaOf col ref (Config.analogueError (r.2.draws + p))) }

/-- The meaning of CALIBRATION_VECTOR_READS. -/
def execCalibrationVectorReads (arr : Nat) (s : State) : Res := doneQuiet s (calibrationVectorReads arr s)

/-! ## Trims (R427, R428) -/

/-- The key of a trim: band, kind (0 ADC offset, 1 ADC gain, 2 column offset, 3 column gain), and its number. -/
def trimKey (band kind idx : Nat) : Nat := (band * 4 + kind) * 2 ^ 40 + idx

/-- A 6-bit offset code. -/
def offsetFits (c : Int) : Bool := decide (-32 ≤ c) && decide (c ≤ 31)

/-- A 7-bit gain code. -/
def gainFits (c : Int) : Bool := decide (-64 ≤ c) && decide (c ≤ 63)

/-- The codes of an ADC fit: the rounded negative of the measured error. -/
def adcCodes (offset gain : Int) : Int × Int := (divEvenInt (-offset) 32, divEvenInt (-gain) 50)

/-- The offset code of a column from 64 · ω. -/
def colOffsetCode (sum : Int) : Int := divEvenInt (-sum) 2

/-- The gain code of a column from γ. -/
def colGainCode (g : Int × Nat) : Int := divEvenInt (-(g.1 * 2000)) g.2

/-- |γ| ≤ 1.0 % and |ω| ≤ 0.25 u (R428). -/
def columnSmall (sum : Int) (g : Int × Nat) : Bool := decide (100 * g.1.natAbs ≤ g.2) && decide (sum.natAbs ≤ 16)

/-- What R428 decides for a column: its offset and gain codes, or that it is failed. -/
def decideColumn (mode : Nat) (ref : Bool) (sum : Int) (g : Int × Nat) : Option (Int × Int) :=
  let o := colOffsetCode sum
  let c := if ref then 0 else colGainCode g
  let fits := offsetFits o && gainFits c
  if mode = 0 || ref then (if fits then some (o, c) else none)
  else if columnSmall sum g then some (0, 0) else none

/-- Trims and failed columns that a window's measurements give (R427, R428). -/
def decideTrims (c : Cal) : List (Nat × Int) × List (Nat × Nat) :=
  let adc := c.adcFits.map fun f => (f.1, adcCodes f.2.1 f.2.2)
  let good := adc.filter fun f => offsetFits f.2.1 && gainFits f.2.2
  let badAdc := adc.filter fun f => !(offsetFits f.2.1 && gainFits f.2.2)
  let failAdc := badAdc.flatMap fun f =>
    let n := f.1 / 4
    (List.range 8).map fun i => (n / 70, 8 * (n % 70) + i)
  let adcTrims := good.flatMap fun f => [(trimKey c.band 0 f.1, f.2.1), (trimKey c.band 1 f.1, f.2.2)]
  c.colOffsets.foldl (fun (acc : List (Nat × Int) × List (Nat × Nat)) x =>
    let p := x.1 % 560
    let ref := p % 35 = 0
    let g := ((c.colGains.find? fun y => y.1 = x.1).map (·.2)).getD (0, 1)
    match decideColumn c.mode ref x.2 g with
    | some (o, k) => (acc.1 ++ [(trimKey c.band 2 x.1, o)] ++ (if ref then [] else [(trimKey c.band 3 x.1, k)]), acc.2)
    | none => (acc.1, acc.2 ++ [(x.1 / 560, p)])) (adcTrims, failAdc)

/-- TRIM_DECISION (R426, R428): the window's trims and failures are decided and held pending. -/
def trimDecision (s : State) : State :=
  match s.inWindowAt 1200 with
  | none => s
  | some w =>
    if !w.full || s.cal.trimmed then s
    else
      let d := decideTrims s.cal
      (s.modDie w.die fun x => { x with pendingTrims := d.1, pendingFail := d.2, trimsReady := false }).modCal fun c =>
        { c with trimmed := true }

/-- The meaning of TRIM_DECISION. -/
def execTrimDecision (s : State) : Res := doneQuiet s (trimDecision s)

/-- A physical column marked failed: a duplicate of its logical column becomes its hot spare, else the array is retired (R62). -/
def failColumn (a p : Nat) (s : State) : State :=
  let x := s.arr a
  if x.badCols.contains p then s
  else
    let s := s.modArr a fun x => { x with badCols := p :: x.badCols }
    let o := p % 35
    if o = 0 then s
    else
      match logicalOf x p with
      | none => s
      | some l =>
        let own := if 3 ≤ o then none else some (2 * (p / 35) + (o - 1))
        let spares := x.spares.filter fun y => some y.1 ≠ own
        let isDup := x.spares.any fun y => some y.1 = own && y.2 = .dup l
        if isDup then s.modArr a fun x => { x with spares := spares }
        else
          match spares.find? fun y => y.2 = .dup l with
          | some (k, _) =>
            s.modArr a fun x => { x with spares := spares.map fun y => if y.1 = k then (k, .hot l) else y }
          | none => retireArray a (s.modArr a fun x => { x with spares := spares })

/-- CALIBRATION_CORRECTIONS (R429): at the first frame boundary after a window ends its trims and failed columns take effect. -/
def correctionsAtBoundary (s : State) : State :=
  (List.range 8).foldl (fun s d =>
    let x := s.die d
    if !x.trimsReady then s
    else
      let s := s.modDie d fun x => { x with
        trims := x.pendingTrims.foldl (fun l t => sset 0 t.1 t.2 l) x.trims
        pendingTrims := [], pendingFail := [], trimsReady := false }
      x.pendingFail.foldl (fun s f => failColumn f.1 f.2 s) s) s

/-- A pattern read set for the die of the window, one for each array in service (R425, R426). -/
def windowPatternSet (s : State) : State :=
  match s.cal.current with
  | none => s
  | some w =>
    let from_ := if w.full then w.start + 1417 else w.start
    if w.test.isSome || s.beat < from_ || !s.cal.readBy.isEmpty then s
    else
      let l := s.inServiceOn w.die
      let s := l.foldl (fun s x =>
        let h := placeShape s.image x.2
        patternSet x.1 h.1 h.2 s) s
      s.modCal fun c => { c with readBy := l.map (·.1) }

end Sys2Proof.Machine
end

