-- ==== Sys2Proof/Machine/Ethernet.lean ====
section
/-! DEFINITION. The Ethernet port: training, received frames, IPv6 neighbours, RoCEv2 and the ring pairs, and status frames
(R54, R347 to R356, R369). -/

namespace Sys2Proof.Machine
open Sys2Proof

/-! ## The port (R348) -/

/-- The port may come up: start-up has applied the profile or recovery mode serves it, nothing loops it, and S3 does not hold
the device (R503, R485, R513, R447). -/
def State.portMay (s : State) : Bool :=
  (s.boot.profileDone || s.boot.recovery) && s.power.s3.isNone && s.rd 0x7F00 0x01 = 0

/-- ETH_PORT_TRAINING (R348): training runs, and where it converges the port is up; a root-capable device then listens for PTP
(R368, R370). -/
def ethPortTraining (converged : Bool) (s : State) : State :=
  if s.portUp || !s.portMay then s
  else if !converged then s.wr 0x1100 0x03 1
  else
    let s := s.wr 0x1100 0x03 2
    if s.rd 0x1202 0x01 = 1 && s.rd 0x1104 0x02 = 0 then s.wr 0x1104 0x02 1 else s

/-- The meaning of ETH_PORT_TRAINING. -/
def execEthPortTraining (converged : Bool) (s : State) : Res := doneQuiet s (ethPortTraining converged s)

/-- ETH_PORT_DOWN (R348): the port has lost its partner; it retrains by ETH_PORT_TRAINING. -/
def ethPortDown (s : State) : State := if s.portUp then s.wr 0x1100 0x03 0 else s

/-- The meaning of ETH_PORT_DOWN. -/
def execEthPortDown (s : State) : Res := doneQuiet s (ethPortDown s)

/-! ## Received frames (R348 to R351) -/

/-- The device drops a frame: its VLAN ID, its length, its destination (R349), or its packet (R350, R351). -/
def frameDropped (s : State) (f : EthFrame) : Bool :=
  f.vlan.getD 0 ≠ s.rd 0x1100 0x04 || decide (4352 < f.length) || !f.dstOk || !f.ipv6 || f.ext || f.frag ||
    !(f.proto = 58 || f.proto = 6 || (f.proto = 17 && (f.port = 4791 || f.port = 48820 ||
      ((f.port = 319 || f.port = 320) && s.rd 0x1202 0x01 = 1))))

/-- ETH_FRAME_RECEIVE (R349): counted, ignored where it is a PAUSE frame (R348), dropped, or handed to its protocol. -/
def ethFrameReceive (f : EthFrame) (s : State) : State :=
  if !s.portUp || s.rd 0x7F00 0x01 ≠ 0 then s
  else
    let s := ((s.bump 0x1100 0x06 1).bump 0x1100 0x08 f.corrected).bump 0x1100 0x09 f.uncorrectable
    { s with eth := { s.eth with handed := if f.pause || frameDropped s f then none else some (f.proto, f.port) } }

/-- The meaning of ETH_FRAME_RECEIVE. -/
def execEthFrameReceive (f : EthFrame) (s : State) : Res := doneQuiet s (ethFrameReceive f s)

/-- The link-local address formed from the MAC address by the modified EUI-64 rule (R350). -/
def linkLocal : Bytes :=
  let m (i : Nat) : Byte := Config.macAddress.getD i 0#8
  [0xFE#8, 0x80#8, 0#8, 0#8, 0#8, 0#8, 0#8, 0#8, m 0 ^^^ 2#8, m 1, m 2, 0xFF#8, 0xFE#8, m 3, m 4, m 5]

/-- An address of the device: link-local, or the global one where it is set (R350). -/
def State.ownAddress (s : State) (a : Bytes) : Bool :=
  a = linkLocal || (a = s.oct? 0x1101 0x01 0 (zeros 16) && a ≠ zeros 16)

/-- A packet sent through the port, counted. -/
def ethSend (what : String) (dest data : Bytes) (s : State) : State := (s.bump 0x1100 0x07 1).send (.eth what dest data)

/-- NEIGHBOR_SOLICITATION (R350): answered for the device's own addresses. -/
def neighborSolicitation (target source : Bytes) (s : State) : State :=
  if s.portUp && s.ownAddress target then ethSend "neighbor advertisement" source target s else s

/-- The meaning of NEIGHBOR_SOLICITATION. -/
def execNeighborSolicitation (target source : Bytes) (s : State) : Res := doneQuiet s (neighborSolicitation target source s)

/-- ECHO_REQUEST (R350): answered with its data. -/
def echoRequest (source dest data : Bytes) (s : State) : State :=
  if s.portUp && s.ownAddress dest then ethSend "echo reply" source data s else s

/-- The meaning of ECHO_REQUEST. -/
def execEchoRequest (source dest data : Bytes) (s : State) : Res := doneQuiet s (echoRequest source dest data s)

/-- PACKET_TOO_BIG (R350): nothing larger goes to that destination, with a floor of 1,280 bytes. -/
def packetTooBig (dest : Bytes) (mtu : Nat) (s : State) : State :=
  if !s.portUp then s
  else { s with eth := { s.eth with mtu := (dest, max 1280 mtu) :: s.eth.mtu.filter fun x => x.1 ≠ dest } }

/-- The meaning of PACKET_TOO_BIG. -/
def execPacketTooBig (dest : Bytes) (mtu : Nat) (s : State) : Res := doneQuiet s (packetTooBig dest mtu s)

/-! ## RoCEv2 (R352, R355) -/

/-- Bytes of a ring pair's region (R355). -/
def State.ringBytes (s : State) (ring : Nat) : Nat := 64 + 128 * s.rdI 0x1111 0x02 ring + s.rdI 0x1111 0x0C ring

/-- RDMA_WRITE (R355): it lands in the ring's region and is seen from the next beat on, or is refused with a remote access
error; a packet marked for congestion is answered with a CNP (R352). -/
def rdmaWrite (ring offset : Nat) (data : Bytes) (ecn : Bool) (s : State) : State :=
  if !s.portUp || !s.ringReady ring || 256 ≤ ring then s
  else
    let s := if ecn then ethSend "CNP" (leBytes 2 ring) [] s else s
    if s.ringBytes ring < offset + data.length then ethSend "remote access error" (leBytes 2 ring) [] s
    else { s with landed := s.landed ++ [(s.beat, ringBase ring + offset, data)] }

/-- The meaning of RDMA_WRITE. -/
def execRdmaWrite (ring offset : Nat) (data : Bytes) (ecn : Bool) (s : State) : Res := doneQuiet s (rdmaWrite ring offset data ecn s)

/-- CNP (R352): the completion write rate of the queue pair halves for 64 beats. -/
def cnp (ring : Nat) (s : State) : State :=
  if s.portUp && s.ringReady ring then s.modRing ring fun r => { r with rateHalf := some (s.beat + 64) } else s

/-- The meaning of CNP. -/
def execCnp (ring : Nat) (s : State) : Res := doneQuiet s (cnp ring s)

/-- CNP_RATE_HALVING_END (R352). -/
def cnpRateHalvingEnd (ring : Nat) (s : State) : State :=
  match (s.ring ring).rateHalf with
  | none => s
  | some e => if s.beat < e then s else (s.late e).modRing ring fun r => { r with rateHalf := none }

/-- The meaning of CNP_RATE_HALVING_END. -/
def execCnpRateHalvingEnd (ring : Nat) (s : State) : Res := doneQuiet s (cnpRateHalvingEnd ring s)

/-- LOCAL_ACK_TIMEOUT (R352, R353): a retry; after seven the queue pair is in ERROR and writes nothing. -/
def localAckTimeout (ring : Nat) (acked : Bool) (s : State) : State :=
  if !s.ringReady ring then s
  else
    let n := if acked then 1 else (s.ring ring).retries + 1
    let s := s.modRing ring fun r => { r with retries := n }
    if 7 < n then s.wrI 0x1111 0x0D ring 2 else s

/-- The meaning of LOCAL_ACK_TIMEOUT. -/
def execLocalAckTimeout (ring : Nat) (acked : Bool) (s : State) : Res := doneQuiet s (localAckTimeout ring acked s)

/-! ## Ring pairs (R353, R354) -/

/-- A ring size is a power of two in its range. -/
def ringSizeOk (n : Nat) : Bool := (List.range 10).any fun k => n = 64 * 2 ^ k

/-- The enabling write is accepted (R353); a disabling write always is. -/
def ringSwitchOk (c : WriteCtx) (s : State) : Bool :=
  c.value = 0 ||
    (s.rdI 0x1111 0x01 c.inst ≠ 0xFFFF && ringSizeOk (s.rdI 0x1111 0x02 c.inst) && ringSizeOk (s.rdI 0x1111 0x03 c.inst) &&
      s.oct? 0x1111 0x06 c.inst (zeros 16) ≠ zeros 16 && s.rdI 0x1111 0x09 c.inst = 0)

/-- A ring pair enabled or disabled: on head and tail its queue pair is ready or in reset (R353, R354). -/
def switchRing (c : WriteCtx) (s : State) : State :=
  let s := (s.wrI 0x1111 0x09 c.inst c.value).modRing c.inst fun r => { r with retries := 0, mismatch := none }
  s.wrI 0x1111 0x0D c.inst (if c.value = 1 && (s.isHead || s.isTail) then 1 else 0)

/-- RING_ENABLE (R353): a write of TRUE to 0x1111:09. -/
def ringEnable (r : DictReq) (data : Bytes) (s : State) : State :=
  dictWrite r 0x1111 0x09 data (fun c s => c.value = 1 && ringSwitchOk c s) (fun _ c s => switchRing c s) s

/-- The meaning of RING_ENABLE. -/
def execRingEnable (r : DictReq) (data : Bytes) (s : State) : Res := doneQuiet s (ringEnable r data s)

/-- RING_DISABLE (R353): a write of FALSE to 0x1111:09. -/
def ringDisable (r : DictReq) (data : Bytes) (s : State) : State :=
  dictWrite r 0x1111 0x09 data (fun c _ => c.value = 0) (fun _ c s => switchRing c s) s

/-- The meaning of RING_DISABLE. -/
def execRingDisable (r : DictReq) (data : Bytes) (s : State) : Res := doneQuiet s (ringDisable r data s)

/-! ## Status frames (R54, R369) -/

/-- Bit k set for each UP link k (0x3000:01). -/
def State.linksUp (s : State) : Nat := (List.range 6).foldl (fun n k => if s.linkUp k then setBit n k else n) 0

/-- Request entries in a state of R268. -/
def State.entriesIn (s : State) (state : Nat) : Nat :=
  let n := (s.table.filter fun e => e.2.state = state).length
  if state = 0 then 8192 - (s.table.filter fun e => live e.2).length else n

/-- The alerts of a status frame. -/
def State.alerts (s : State) : Nat :=
  let lv := s.rd 0x2103 0x06
  b2n (bitOf lv 0) + 2 * b2n (bitOf lv 1) + 4 * b2n ((List.range 256).any fun n => bitOf (s.rdSlot n 0x1C) 0) +
  8 * b2n (bitOf (s.rd 0x2210 0x12) 0) + 16 * b2n (!s.flash.log.isEmpty) +
  32 * b2n ((List.range 256).any fun r => s.rdI 0x1111 0x0D r = 2)

/-- The fields of a status frame after MAGIC and VERSION, in order (R369). -/
def State.statusFields (s : State) : List Nat :=
  [s.time.statusSeq, s.beat, s.pos, s.rd 0x1200 0x03, s.loadState, s.linksUp, s.rd 0x1000 0x08, s.boundNow 0x04, s.image.imageId] ++
  (List.range 7).map s.entriesIn ++ [s.rd 0x3103 0x05, s.rd 0x3103 0x06] ++
  (List.range 8).map (fun d => (s.die d).band) ++ (List.range 8).map (fun d => s.rd 0x2102 (d + 1) % 65536) ++
  [s.rd 0x2000 0x01, s.alerts]

/-- A beat of R54. -/
def State.statusBeat (s : State) : Bool := (s.beat + s.rd 0x1201 0x02 * 64 - s.slot) % s.rd 0x1201 0x02 = 0

/-- STATUS_FRAME: at a beat of R54 a frame is sent where frames are enabled and the port is up; SEQ rises at every one. -/
def statusFrame (s : State) : State :=
  if !s.statusBeat || !s.boot.ready then s
  else
    let sent := s.rd 0x1102 0x03 = 1 && s.portUp && s.rd 0x7F00 0x01 = 0
    let s := if sent then (s.bump 0x1100 0x07 1).send (.statusFrame s.statusFields) else s
    { s with time := { s.time with statusSeq := (s.time.statusSeq + 1) % 0x100000000 } }

/-- The meaning of STATUS_FRAME. -/
def execStatusFrame (s : State) : Res := doneQuiet s (statusFrame s)

end Sys2Proof.Machine
end

