-- ==== Sys2Proof/Machine/Image.lean ====
section
/-! DEFINITION. Weight images as bytes: the manifest (R168 to R171), tables and recipes (R172 to R175), data streams (R176, R177),
MX formats (R182), quantisation on arrival (R183, R184), outlier records (R154), and what an image takes of HBM4 (R178). -/

namespace Sys2Proof.Machine
open Sys2Proof

/-- The bytes of an ASCII text. -/
def asciiBytes (t : String) : Bytes := t.toList.map fun c => BitVec.ofNat 8 c.toNat

/-- Load failure reasons (R188). -/
abbrev LoadReason := Nat

/-! ## Manifest (R168, R169) -/

/-- The header fields that the device uses. -/
structure ManifestHead where
  count : Nat
  imageId : Nat
  version : Nat
  layers : Nat
  region : List Nat
  keyId : Nat
  deriving DecidableEq, Repr

/-- A section-table entry from its 96 bytes. -/
def parseSection (b : Bytes) : SectionEntry :=
  ⟨leAt b 0 2, leAt b 2 1, leAt b 4 4, leAt b 8 8, leAt b 16 8, leAt b 24 8, (b.drop 32).take 64⟩

/-- The header of a manifest; none where a field is outside R168. -/
def parseHead (m : Bytes) : Option ManifestHead :=
  let n := leAt m 10 2
  let region := [leAt m 30 1, leAt m 31 1, leAt m 32 1]
  let layers := leAt m 28 2
  if m.take 8 = asciiBytes "PSITI-WI" && leAt m 8 2 = 1 && decide (4 ≤ n) && decide (n ≤ 4096) &&
      leAt m 12 4 = 768 + 96 * n && m.length = 768 + 96 * n && decide (1 ≤ layers) && decide (layers ≤ 256) &&
      region.all fun r => decide (1 ≤ r) && decide (r ≤ 64)
  then some ⟨n, leAt m 16 8, leAt m 24 4, layers, region, leAt m 34 8⟩ else none

/-- The section table of a manifest. -/
def parseSections (m : Bytes) (n : Nat) : List SectionEntry :=
  (List.range n).map fun i => parseSection ((m.drop (256 + 96 * i)).take 96)

/-- The bytes that the signature covers and the image digest hashes (R171). -/
def signedPart (m : Bytes) : Bytes := m.take (m.length - 512)

/-- The sections that a device fetches, by number (R170). -/
def ownSections (index : Nat) (l : List SectionEntry) : List (Nat × SectionEntry) :=
  ((List.range l.length).zip l).filter fun x => x.2.device = index || x.2.device = 0xFFFFFFFF

/-- The fields of a device's sections are within R169 and R170: the three tables come first, each exactly once, and every type is
known. -/
def sectionsOk (own : List (Nat × SectionEntry)) : Bool :=
  let ts := own.map (·.2.type)
  ([1, 2, 3].all fun t => (ts.take 3).contains t) && ((ts.drop 3).all fun t => t = 0x10 || t = 0x20) &&
    own.all fun x => decide (x.2.comp ≤ 1) && x.2.offset % 4096 = 0 && decide (1 ≤ x.2.stored) &&
      decide (x.2.stored ≤ 268435456)

/-- The content of a stored section, or the reason of its failure (R181). -/
def sectionContent (e : SectionEntry) (stored : Bytes) : LoadReason ⊕ Bytes :=
  if Config.sha512 stored ≠ e.digest then .inl 3
  else if e.comp = 0 then (if stored.length = e.content then .inr stored else .inl 4)
  else
    match Config.zstd stored e.content with
    | some c => if c.length = e.content then .inr c else .inl 5
    | none => .inl 5

/-! ## Tables (R172, R173, R175) -/

/-- A layer-table entry from its 64 bytes. -/
def parseLayer (b : Bytes) : LayerEntry :=
  { slot := leAt b 0 1, kind := leAt b 1 1, half := leAt b 2 1, matCount := leAt b 3 1, firstMat := leAt b 4 2
    norm := leAt b 6 1, act := leAt b 7 1, heads := leAt b 8 2, kvHeads := leAt b 10 2, headDim := leAt b 12 2
    experts := leAt b 14 2, topK := leAt b 16 1, normTensor := leAt b 18 2, eps := BitVec.ofNat 32 (leAt b 20 4) }

/-- A matrix-directory entry from its 64 bytes. -/
def parseMat (b : Bytes) : MatEntry :=
  { matId := leAt b 0 2, role := leAt b 2 1, fmt := leAt b 3 1, source := leAt b 4 1, red := leAt b 5 1 % 8, req := leAt b 6 1
    expert := leAt b 7 1, k := leAt b 8 4, n := leAt b 12 4, rbFirst := leAt b 16 2, rbCount := leAt b 18 2
    xscale := BitVec.ofNat 32 (leAt b 20 4), rq := BitVec.ofNat 32 (leAt b 24 4), strips := leAt b 28 1 }

/-- Records of a fixed size. -/
def records (size : Nat) (b : Bytes) : List Bytes :=
  (List.range (b.length / size)).map fun i => (b.drop (size * i)).take size

/-- A layer's fields are within R172, and its attention shape within R229. -/
def layerOk (l : LayerEntry) (mats : List MatEntry) : Bool :=
  let own := (mats.drop l.firstMat).take l.matCount
  let wide (role n : Nat) : Bool := own.all fun m => m.role ≠ role || m.n = n
  decide (1 ≤ l.kind) && decide (l.kind ≤ 6) && decide (l.half ≤ 2) && decide (1 ≤ l.matCount) &&
    decide (l.firstMat + l.matCount ≤ mats.length) && decide (l.norm ≤ 2) && decide (l.act ≤ 3) &&
    (decide (4 ≤ l.kind) ||
      (decide (1 ≤ l.kvHeads) && l.heads % l.kvHeads = 0 && l.headDim % 32 = 0 && decide (32 ≤ l.headDim) && decide (l.headDim ≤ 256) &&
        wide 0 (l.heads * l.headDim) && wide 1 (l.kvHeads * l.headDim) && wide 2 (l.kvHeads * l.headDim)))

/-- A directory entry's fields are within R173; STRIPS is checked against K (R132). -/
def matOk (m : MatEntry) : Bool :=
  decide (m.role ≤ 11) && decide (m.fmt ≤ 1) && decide (m.source ≤ 7) && decide (m.req ≤ 1) && decide (1 ≤ m.k) &&
    decide (m.k ≤ 1048576) && decide (1 ≤ m.n) && decide (m.n ≤ 1048576) && decide (1 ≤ m.rbCount) &&
    decide (m.rbFirst + m.rbCount ≤ rowBlocks m.k) && m.strips = (stripsOf m.k).length

/-- The tables together (R172, R173, R229): slots and matrix numbers are unique, and L is at most 4,096. -/
def tablesOk (layers : List LayerEntry) (mats : List MatEntry) : Bool :=
  layers.all (layerOk · mats) && mats.all matOk && decide ((layers.map (·.slot)).Nodup) && decide ((mats.map (·.matId)).Nodup) &&
    decide ((layers.filter fun l => l.kind ≤ 3).foldl (fun n l => n + 2 * l.kvHeads) 0 ≤ 4096)

/-- A recipe record from its 16 bytes: bit 0 of the record is bit 0 of its first byte (R5, R175). -/
def parseRecipe (b : Bytes) : Recipe :=
  ⟨leAt b 15 1, [leAt b 0 1, leAt b 1 1, leAt b 2 2, leAt b 4 2, leAt b 6 1, leAt b 7 1, leAt b 8 2, leAt b 10 1, leAt b 11 1, leAt b 12 1]⟩

/-- A recipe object 0x41nn:sub accepts a value (R92, R120, R166). -/
def recipeValueOk (sub v : Nat) : Bool :=
  match objRow 0x4100 sub with
  | none => false
  | some r =>
    if sub = 5 then [0, 1, 2, 4].contains v
    else if r.type = .bool then decide (v ≤ 1)
    else decide (r.least ≤ v) && decide (v ≤ r.most)

/-- Every value of a record is within what its object accepts (R175). -/
def recipeOk (r : Recipe) : Bool := ((List.range 10).zip r.vals).all fun x => recipeValueOk (x.1 + 1) x.2

/-! ## Data streams (R176, R177) -/

/-- The key of a matrix's stream. -/
def streamKey (mat stream : Nat) : Nat := 4 * mat + stream

/-- A MATRIX_DATA section's content appended to its stream (R176); none where the header names no stream of a matrix held or the
runs leave a gap. -/
def addRun (content : Bytes) (img : Image) : Option Image :=
  let stream := leAt content 2 1
  match img.mats.findIdx? fun m => m.matId = leAt content 0 2 with
  | none => none
  | some i =>
    let old := sget [] (streamKey i stream) img.streams
    if content.length < 16 || 2 < stream || leAt content 8 8 ≠ old.length then none
    else some { img with streams := sset [] (streamKey i stream) (old ++ content.drop 16) img.streams }

/-- Rows of a column block's unit (R177). -/
def unitBytes (m : MatEntry) (rb : Nat) : Nat := 128 * blockRows m rb

/-- Row blocks that a device holds of a matrix. -/
def heldBlocks (m : MatEntry) : List Nat := (List.range m.rbCount).map (m.rbFirst + ·)

/-- Column blocks of a matrix. -/
def colBlocks (m : MatEntry) : Nat := ceilDiv m.n 512

/-- Bytes of one column block's units of the row blocks held before one. -/
def unitsBefore (m : MatEntry) (rb : Nat) : Nat :=
  ((heldBlocks m).filter (· < rb)).foldl (fun n r => n + unitBytes m r) 0

/-- Bytes of all units of one column block. -/
def colBlockBytes (m : MatEntry) : Nat := (heldBlocks m).foldl (fun n r => n + unitBytes m r) 0

/-- The 2-bit code of a row of a row block and a column in a CODE2 stream (R177). -/
def code2At (m : MatEntry) (b : Bytes) (rb row col : Nat) : Nat :=
  let o := col / 512 * colBlockBytes m + unitsBefore m rb + 128 * row + col % 512 / 4
  (b.getD o 0#8).toNat / 4 ^ (col % 4) % 4

/-- The shape of an MX element: bits of an element, and bytes of a block (R182). -/
def mxShape (source : Nat) : Nat × Nat :=
  [(0, 0), (0, 0), (8, 33), (8, 33), (6, 25), (6, 25), (4, 17), (8, 33)].getD source (0, 0)

/-- Bits of a packed field, least significant first. -/
def packedBits (b : Bytes) (bit n : Nat) : Nat := leNat ((b.drop (bit / 8)).take 3) / 2 ^ (bit % 8) % 2 ^ n

/-- An MX element's value before its scale; none for a NaN or an infinity. -/
def mxElement (source code : Nat) : Option F32 :=
  match source with
  | 2 => if e4m3Nan code then none else some (f32OfE4m3 code)
  | 3 => if e5m2NotFinite code then none else some (f32OfE5m2 code)
  | 4 => some (f32OfE3m2 code)
  | 5 => some (f32OfE2m3 code)
  | 6 => some (f32OfE2m1 code)
  | _ => some (f32OfScaled (bitsInt 8 code) (-6))

/-- A value times 2^e; none beyond the FP32 range (R182). -/
def scaleF32 (x : F32) (e : Int) : Option F32 :=
  let d := f32Val x
  let y := f32Round d.neg d.m 1 (d.e + e)
  if d.m ≠ 0 && decide ((Nat.log2 d.m : Int) + d.e + e > 127) then none else some y

/-- The value of a source-format weight in a row of the whole matrix and a column; none where the load fails with FORMAT (R177, R182). -/
def sourceWeight (m : MatEntry) (b : Bytes) (row col : Nat) : Option F32 :=
  if m.source = 1 then
    let v := leAt b (2 * (col * m.k + row)) 2
    if v / 128 % 256 = 255 then none else some (f32OfBf16 v)
  else
    let (w, blk) := mxShape m.source
    let o := (col * ceilDiv m.k 32 + row / 32) * blk
    let sc := (b.getD o 0#8).toNat
    if sc = 255 then none
    else (mxElement m.source (packedBits (b.drop (o + 1)) (w * (row % 32)) w)).bind fun x => scaleF32 x ((sc : Int) - 127)

/-- Bytes of the weights stream (R177). -/
def weightBytes (m : MatEntry) : Nat :=
  if m.source = 0 then colBlocks m * colBlockBytes m
  else if m.source = 1 then 2 * m.k * m.n
  else m.n * ceilDiv m.k 32 * (mxShape m.source).2

/-! ## Outlier records (R154) -/

/-- Bytes of the INT8 part and of the scales of a record. -/
def recordTail (m : MatEntry) (nint8 : Nat) : Nat := (nint8 + 1) * (ceilDiv m.n 64 * 64)

/-- The row list of a record, as (row, is INT8). -/
def parseRows (b : Bytes) (nstat : Nat) : List (Nat × Bool) :=
  (List.range nstat).map fun i => (leAt b (64 + 2 * i) 2 % 1024, decide (32768 ≤ leAt b (64 + 2 * i) 2))

/-- Strictly rising numbers. -/
def rising : List Nat → Bool
  | a :: b :: l => decide (a < b) && rising (b :: l)
  | _ => true

/-- Records of a matrix's outlier stream in order, each with its INT8 weights and scales for SOURCE 0 and without them else; none
where a field is outside R154. -/
def parseOutliers (mat : Nat) (m : MatEntry) (prev : Option Nat) : Nat → Bytes → Option (List OutRec)
  | 0, b => if b.isEmpty then some [] else none
  | fuel + 1, b =>
    if b.isEmpty then some []
    else
      let rb := leAt b 0 2
      let nstat := leAt b 2 1
      let nint8 := leAt b 3 1
      let rows := parseRows b nstat
      let wide := ceilDiv m.n 64 * 64
      let size := 128 + (if m.source = 0 then recordTail m nint8 else 0)
      let ok := decide (size ≤ b.length) && decide (nstat ≤ 32) && leAt b 4 4 = m.n && (heldBlocks m).contains rb &&
        (match prev with | some p => decide (p < rb) | none => true) && rising (rows.map (·.1)) &&
        rows.all (fun r => decide (r.1 < blockRows m rb)) && (rows.filter (·.2)).length = nint8
      if !ok then none
      else
        let w8 := if m.source = 0 then
            (List.range nint8).map fun i => (List.range m.n).map fun j => (b.getD (128 + wide * i + j) 0#8).toInt
          else []
        let lam := if m.source = 0 then (List.range m.n).map fun j => (b.getD (128 + wide * nint8 + j) 0#8).toNat else []
        (parseOutliers mat m (some rb) fuel (b.drop size)).map fun l => ⟨mat, rb, rows, w8, lam⟩ :: l

/-! ## Quantisation on arrival (R183, R184) -/

/-- Rounded to the nearest E4M3 value, 448 above it. -/
def toE4m3 (x : F32) : Nat := e4m3OfF32 x 0 0x7E

/-- The largest magnitude of a list. -/
def amaxF32 (l : List F32) : F32 := l.foldl (fun m x => f32Max m (f32Abs x)) f32Zero

/-- The mean of magnitudes, summed in order. -/
def meanAbs (l : List F32) : F32 := f32Div (l.foldl (fun t x => f32Add t (f32Abs x)) f32Zero) (f32OfInt l.length)

/-- σ_j of a column from the weights that R183 takes. -/
def quantSigma (fmt : Nat) (l : List F32) : Nat :=
  if fmt = 1 then toE4m3 (f32Div (amaxF32 l) (f32OfRatio 3 2))
  else
    let delta := f32Mul (f32OfRatio 7 10) (meanAbs l)
    let big := l.filter fun w => f32Lt delta (f32Abs w)
    if big.isEmpty then 0 else toE4m3 (meanAbs big)

/-- The code of a weight of a column (R183). -/
def quantCode (fmt sigma : Nat) (l : List F32) (w : F32) : Nat :=
  if fmt = 1 then
    let sg := f32OfE4m3 sigma
    let q := if sigma = 0 then f32Zero else f32Div w sg
    let neg1 := f32Neg f32One
    if !f32Lt q f32One then 3 else if !f32Lt q f32Zero then 2 else if !f32Lt q neg1 then 1 else 0
  else
    let delta := f32Mul (f32OfRatio 7 10) (meanAbs l)
    if f32Lt delta w then 1 else if f32Lt w (f32Neg delta) then 3 else 0

/-- λ_j and the INT8 weights of the STATIC_INT8 rows of a row block in a column (R184). -/
def quantInt8 (ws : List F32) : Nat × List Int :=
  let lam := toE4m3 (f32Div (amaxF32 ws) (f32OfInt 127))
  (lam, ws.map fun w => if lam = 0 then 0 else clampInt (-127) 127 (f32ToInt (f32Div w (f32OfE4m3 lam))))

/-- What one matrix adds to the image once its streams are whole: codes by row and column, column scales, outlier records. -/
structure Decoded where
  codes : List (Nat × Nat)
  scales : List (Nat × Nat)
  outl : List OutRec

/-- A CODE2 matrix decoded (R177): a T1 code 0b10 fails it. -/
def decodeCode2 (i : Nat) (m : MatEntry) (w sc : Bytes) (outl : List OutRec) : Option Decoded :=
  let codes := (heldBlocks m).flatMap fun rb =>
    (List.range (blockRows m rb)).flatMap fun r =>
      (List.range m.n).filterMap fun c =>
        let k := code2At m w rb r c
        if k = 0 then none else some (codeKey i (1024 * rb + r) c, k)
  if m.fmt = 0 && codes.any fun x => x.2 = 2 then none
  else some ⟨codes, (List.range m.n).filterMap fun j =>
    let v := (sc.getD j 0#8).toNat
    if v = 0 then none else some (i * 1048576 + j, v), outl⟩

/-- The weights of a column, none where one fails. -/
def sourceColumn (m : MatEntry) (w : Bytes) (col : Nat) : Option (List F32) :=
  (List.range m.k).mapM fun r => sourceWeight m w r col

/-- A source-format matrix quantised (R183, R184). -/
def decodeSource (i : Nat) (m : MatEntry) (w : Bytes) (outl : List OutRec) : Option Decoded :=
  let int8 (row : Nat) : Bool := outl.any fun o => o.rb = row / 1024 && o.rows.any fun r => r.1 = row % 1024 && r.2
  match (List.range m.n).mapM (sourceColumn m w) with
  | none => none
  | some cols =>
    let taken := cols.map fun c => ((List.range m.k).zip c).filterMap fun x => if int8 x.1 then none else some x.2
    let sig := taken.map (quantSigma m.fmt)
    let codes := (heldBlocks m).flatMap fun rb =>
      (List.range (blockRows m rb)).flatMap fun r =>
        (List.range m.n).filterMap fun c =>
          let row := 1024 * rb + r
          let k := quantCode m.fmt (sig.getD c 0) (taken.getD c []) ((cols.getD c []).getD row f32Zero)
          if k = 0 then none else some (codeKey i row c, k)
    let fill (o : OutRec) : OutRec :=
      let rows := (o.rows.filter (·.2)).map fun r => 1024 * o.rb + r.1
      let qs := cols.map fun c => quantInt8 (rows.map fun r => c.getD r f32Zero)
      { o with lam := qs.map (·.1), w8 := (List.range rows.length).map fun t => qs.map fun q => q.2.getD t 0 }
    some ⟨codes, ((List.range m.n).zip sig).filterMap fun x => if x.2 = 0 then none else some (i * 1048576 + x.1, x.2),
      outl.map fill⟩

/-- A matrix whose streams are whole decoded; none where a stream is not what R176, R177 or R154 says. -/
def decodeMat (img : Image) (i : Nat) (m : MatEntry) : Option Decoded :=
  let w := sget [] (streamKey i 0) img.streams
  let sc := sget [] (streamKey i 1) img.streams
  if w.length ≠ weightBytes m || sc.length ≠ (if m.source = 0 then m.n else 0) then none
  else
    match parseOutliers i m none (sget [] (streamKey i 2) img.streams).length (sget [] (streamKey i 2) img.streams) with
    | none => none
    | some outl => if m.source = 0 then decodeCode2 i m w sc outl else decodeSource i m w outl

/-- The image with every matrix decoded into the weight shadow; none where one fails with FORMAT. -/
def decodeImage (img : Image) : Option Image :=
  ((List.range img.mats.length).zip img.mats).foldl (fun (a : Option Image) x =>
    match a with
    | none => none
    | some g =>
      match decodeMat img x.1 x.2 with
      | none => none
      | some d => some { g with codes := g.codes ++ d.codes, scales := g.scales ++ d.scales, outl := g.outl ++ d.outl })
    (some { img with codes := [], scales := [], outl := [], streams := [] })

/-! ## What an image takes of HBM4 (R178) -/

/-- Bytes of a matrix's units with its σ_j, and of its outlier records. -/
def matHbmBytes (img : Image) (i : Nat) (m : MatEntry) : Nat :=
  let up (n : Nat) : Nat := ceilDiv n 4096 * 4096
  let units := colBlocks m * (heldBlocks m).foldl (fun n r => n + up (unitBytes m r)) 0
  let recs := (img.outl.filter fun o => o.mat = i).foldl (fun n o => n + 128 + recordTail m (o.rows.filter (·.2)).length) 0
  units + up m.n + recs

/-- Bytes of a half: the matrices of its layers, and on Hoist the tensors. -/
def imageHbmBytes (img : Image) (half : Nat) : Nat :=
  let own := img.layers.filter fun l => layerHalf l = half
  let mats := own.foldl (fun n l => ((List.range l.matCount).map (l.firstMat + ·)).foldl (fun n i =>
    match img.mats[i]? with
    | some m => n + matHbmBytes img i m
    | none => n) n) 0
  mats + (if half = 0 then img.tensors.foldl (fun n t => n + t.2.length) 0 else 0)

/-- The load staging area of a half (R181). -/
def stagingBytes : Nat := 268435456

end Sys2Proof.Machine
end

