-- ==== Sys2Proof/Machine/Placement.lean ====
section
/-! DEFINITION. Free arrays and capacity (R189), the placement plan of an image (R190), and the placement loop at a frame boundary:
events, moves, targets and swaps (R191 to R193). -/

namespace Sys2Proof.Machine
open Sys2Proof

/-- The load record changed. -/
def State.modLoad (s : State) (f : Load → Load) : State := { s with load := f s.load }

/-- Arrays of a die, by number. -/
def dieArrays (d : Nat) : List Nat := (List.range 4224).map (4224 * d + ·)

/-- An array is eligible (R189). -/
def State.eligibleArray (s : State) (a : Nat) : Bool :=
  let x := s.arr a
  !x.retired && !(s.die (dieOf a)).lost && decide (x.cycles < s.rd 0x4004 0x03)

/-- Arrays that moves or a load have taken as targets. -/
def State.targets (s : State) : List Nat := s.load.plan.map (·.1) ++ s.load.moves.flatMap (·.targets)

/-- An array is free: eligible, holding no strip, no target, and past the frame boundary that freed it (R189, R192). -/
def State.freeArray (s : State) (a : Nat) : Bool :=
  s.eligibleArray a && (s.arr a).place.isNone && !s.targets.contains a && decide ((s.arr a).freeFrom ≤ s.beat)

/-- Free arrays of a die in the order in which they are taken: lowest cycle count, then lowest number (R190). -/
def State.freeOn (s : State) (d : Nat) : List Nat :=
  sortBy (fun a b => decide ((s.arr a).cycles < (s.arr b).cycles) || ((s.arr a).cycles = (s.arr b).cycles && decide (a ≤ b)))
    ((dieArrays d).filter s.freeArray)

/-- The placement capacity of a die (R189). -/
def State.capacity (s : State) (d : Nat) : Nat := ((dieArrays d).filter s.freeArray).length - 128

/-! ## The plan (R190) -/

/-- A plan in progress: capacities of the dies, arrays still to take of each, and what has been placed. -/
structure Planning where
  cap : List Nat
  left : List (List Nat)
  plan : List (Nat × Place)

/-- The die of greatest capacity that takes m arrays, ties to the lowest number. -/
def pickDie (cap : List Nat) (m : Nat) (among : List Nat) : Option Nat :=
  (among.filter fun d => decide (m ≤ cap.getD d 0)).foldl (fun b d =>
    match b with
    | none => some d
    | some e => if cap.getD e 0 < cap.getD d 0 then some d else b) none

/-- The dies of a half: Hoist 0 to 3, Fly 4 to 7, either all. -/
def halfDies (half : Nat) : List Nat := if half = 0 then [0, 1, 2, 3] else if half = 1 then [4, 5, 6, 7] else List.range 8

/-- Places put on a die's next arrays. -/
def placeOn (d : Nat) (pls : List Place) (p : Planning) : Planning :=
  let l := p.left.getD d []
  { cap := p.cap.set d (p.cap.getD d 0 - pls.length)
    left := p.left.set d (l.drop pls.length)
    plan := p.plan ++ l.zip pls }

/-- A strip divided over all dies in order of descending capacity (R131, R190). -/
def divideStrip (pls : List Place) : List Nat → Planning → List Place × Planning
  | [], p => (pls, p)
  | d :: ds, p =>
    let n := min pls.length (p.cap.getD d 0)
    let p := placeOn d (pls.take n) p
    divideStrip (pls.drop n) ds p

/-- One strip placed; none where it does not fit. -/
def placeStrip (half : Nat) (pls : List Place) (p : Planning) : Option Planning :=
  let own := halfDies half
  match (pickDie p.cap pls.length own).orElse fun _ => pickDie p.cap pls.length ((List.range 8).filter fun d => !own.contains d) with
  | some d => some (placeOn d pls p)
  | none =>
    let order := sortBy (fun a b => decide (p.cap.getD b 0 < p.cap.getD a 0) || (p.cap.getD a 0 = p.cap.getD b 0 && decide (a ≤ b))) (List.range 8)
    let r := divideStrip pls order p
    if r.1.isEmpty then some r.2 else none

/-- The strips of a matrix in the order of R190: column blocks, then strips over the row blocks held. -/
def stripPlaces (mat : Nat) (m : MatEntry) : List (List Place) :=
  (List.range (colBlocks m)).flatMap fun c =>
    let st := stripsOf m.k
    ((List.range st.length).zip st).filterMap fun x =>
      let rbs := ((List.range x.2.2).map (x.2.1 + ·)).filter fun r => (heldBlocks m).contains r
      if rbs.isEmpty then none else some (rbs.map fun r => ⟨mat, r, c, x.1, r - x.2.1⟩)

/-- The strips of an image with the half of their layer, layers in ascending SLOT (R190). -/
def imageStrips (img : Image) : List (Nat × List Place) :=
  (sortBy (fun (a b : LayerEntry) => decide (a.slot ≤ b.slot)) img.layers).flatMap fun l =>
    ((List.range l.matCount).map (l.firstMat + ·)).flatMap fun i =>
      match img.mats[i]? with
      | some m => (stripPlaces i m).map fun p => (l.half, p)
      | none => []

/-- The placement plan of an image; none where it does not fit. Capacity and free arrays are those of a state whose previous image
counts as free (R190). -/
def planImage (s : State) (img : Image) : Option (List (Nat × Place)) :=
  let s0 := { s with
    arrays := s.arrays.map fun (x : Nat × Arr) => (x.1, { x.2 with place := none, freeFrom := 0 })
    load := { s.load with plan := [], moves := [] } }
  let left := (List.range 8).map s0.freeOn
  let start : Planning := ⟨left.map fun l => l.length - 128, left, []⟩
  ((imageStrips img).foldl (fun (p : Option Planning) x => p.bind (placeStrip x.1 x.2)) (some start)).map (·.plan)

/-- The half of every layer of HALF 2 settled by where its arrays lie (R178). -/
def settleHalves (plan : List (Nat × Place)) (img : Image) : Image :=
  { img with layers := img.layers.map fun (l : LayerEntry) =>
      if l.half ≠ 2 then l
      else
        let own := plan.filter fun x => decide (l.firstMat ≤ x.2.mat) && decide (x.2.mat < l.firstMat + l.matCount)
        let fly := (own.filter fun x => 4 ≤ dieOf x.1).length
        { l with half := if own.length < 2 * fly then 1 else 0 } }

/-- Strips of a set of places that are divided over dies (R199). -/
def dividedStrips (l : List (Nat × Place)) : Nat :=
  let keys := (l.map fun x => (x.2.mat, x.2.cb, x.2.strip)).eraseDups
  (keys.filter fun k =>
    let own := l.filter fun x => (x.2.mat, x.2.cb, x.2.strip) = k
    match own with
    | [] => false
    | x :: rest => rest.any fun y => dieOf y.1 ≠ dieOf x.1).length

/-! ## The placement loop (R191 to R193) -/

/-- Arrays in service with their places. -/
def State.placed (s : State) : List (Nat × Place) :=
  s.arrays.filterMap fun x => x.2.place.map fun p => (x.1, p)

/-- The strip that contains an array. -/
def State.stripOf (s : State) (a : Nat) : List Nat :=
  match (s.arr a).place with
  | none => []
  | some p => (s.placed.filter fun x => x.2.mat = p.mat && x.2.cb = p.cb && x.2.strip = p.strip).map (·.1)

/-- A pending move will replace the array. -/
def State.moving (s : State) (a : Nat) : Bool := s.load.moves.any fun m => m.olds.contains a

/-- A move queued for the arrays that no pending move will replace (R191). -/
def queueMove (order : Nat) (arrays : List Nat) (s : State) : State :=
  let olds := arrays.filter fun a => !s.moving a
  if olds.isEmpty then s
  else s.modLoad fun l => { l with moves := l.moves ++ [⟨olds, [], order, [], []⟩] }

/-- Arrays of a slot in service. -/
def State.slotArrays (s : State) (slot : Nat) : List Nat :=
  (s.placed.filter fun x => s.slotOfMat x.2.mat = slot).map (·.1)

/-- The array's first checks failed in more than 1 of 64 reads over the last 1,024 frames (R191). -/
def State.failsOften (s : State) (a : Nat) : Bool :=
  let f := s.beat / s.frameLen
  let c := (s.arr a).checks.filter fun c => decide (f < c.1 + 1024)
  let reads : Nat := c.foldl (fun n x => n + x.2.1) 0
  let fails : Nat := c.foldl (fun n x => n + x.2.2) 0
  decide ((s.die (dieOf a)).band ≤ 3) && decide (reads < 64 * fails)

/-- The events since the last boundary, in the order of R191. -/
def queueEvents (s : State) : State :=
  let ids := s.placed.map (·.1)
  let s := (ids.filter fun a => (s.arr a).retired || (s.die (dieOf a)).lost).foldl (fun s a => queueMove 1 [a] s) s
  let s := (ids.filter fun a => (s.arr a).requested).foldl (fun s a => if s.moving a then s else queueMove 2 (s.stripOf a) s) s
  let s := s.load.replace.foldl (fun s slot => (s.slotArrays slot).foldl (fun s a => queueMove 3 (s.stripOf a) s) s) s
  let s := (ids.filter s.failsOften).foldl (fun s a => queueMove 4 [a] s) s
  s.modLoad fun l => { l with replace := [], retireEv := [] }

/-- Targets for a move: on the strip's own die if possible, otherwise as under R190, with every free array (R192). -/
def takeTargets (s : State) (m : Move) : Option (List Nat) :=
  let n := m.olds.length
  let own := dieOf (m.olds.headD 0)
  let frees := (List.range 8).map s.freeOn
  let here := frees.getD own []
  if n ≤ here.length then some (here.take n)
  else
    let dummy := m.olds.filterMap fun a => (s.arr a).place
    let lay : Option LayerEntry := dummy.head?.bind (fun (p : Place) => s.layerOf? p.mat)
    let half := match lay with
      | some l => l.half
      | none => if own < 4 then 0 else 1
    (placeStrip half dummy ⟨frees.map (·.length), frees, []⟩).map fun p => p.plan.map (·.1)

/-- Moves without targets take them where they can; the others wait and are counted in object 0x4004:04. A lost die's move that
finds none takes the device to half-mast (R192, R193). -/
def startMoves (s : State) : State :=
  s.load.moves.foldl (fun s m =>
    if !m.targets.isEmpty then s
    else
      match takeTargets s m with
      | some t => s.modLoad fun l => { l with moves := l.moves.map fun x => if x.olds = m.olds then { x with targets := t } else x }
      | none =>
        if m.olds.any (fun a => (s.die (dieOf a)).lost) && !s.faults.causes.contains 3 && !s.faults.hmDue.contains 3 then
          s.halfMastCause 3 else s) s

/-- The targets of a move with each retired one replaced by another free array of its die; none where one has no replacement. -/
def retakeTargets (s : State) (l : List Nat) : Option (List Nat) :=
  l.foldl (fun (acc : Option (List Nat)) a =>
    match acc with
    | none => none
    | some t =>
      if (s.arr a).retired then
        match (s.freeOn (dieOf a)).find? fun b => !t.contains b with
        | some b => some (t ++ [b])
        | none => none
      else some (t ++ [a])) (some [])

/-- A move with a target on a lost die restarts, and a retired target gives way to another (R193). -/
def repairMove (s : State) (m : Move) : Move :=
  let again : Move := { m with targets := [], programmed := [], patterned := [] }
  if (m.targets.any fun (a : Nat) => (s.die (dieOf a)).lost) then again
  else
    match retakeTargets s m.targets with
    | some t => { m with targets := t }
    | none => again

/-- Every move repaired. -/
def repairMoves (s : State) : State := s.modLoad fun l => { l with moves := l.moves.map (repairMove s) }

/-- STRIP_SWAP (R192): a move whose targets are all ready swaps; its old arrays become free at the next frame boundary. -/
def swapMove (m : Move) (s : State) : State :=
  let free := s.nextBoundary s.beat
  let s := (m.olds.zip m.targets).foldl (fun s x =>
    let pl := (s.arr x.1).place
    (s.modArr x.2 fun a => { a with place := pl }).modArr x.1 fun a =>
      { a with place := none, freeFrom := free, requested := false }) s
  (s.modLoad fun l => { l with moves := l.moves.filter fun y => y.olds ≠ m.olds }).bump 0x4004 0x05 1

/-- The placement loop at a frame boundary (R191 to R193). -/
def placementAtBoundary (s : State) : State :=
  if s.img.isNone then s.modLoad fun l => { l with replace := [], retireEv := [], moves := [] }
  else
    let s := repairMoves s
    let ready := s.load.moves.filter fun m => !m.targets.isEmpty && m.targets.all fun a => m.patterned.contains a
    let s := ready.foldl (fun s m => swapMove m s) s
    startMoves (queueEvents s)

/-- Moves that wait for targets, object 0x4004:04. -/
def State.movesWaiting (s : State) : Nat := (s.load.moves.filter fun m => m.targets.isEmpty).length

/-- The meaning of REPLACE_SLOT (R191): a write of a layer slot to object 0x4004:0A. -/
def execReplaceSlot (r : DictReq) (data : Bytes) (s : State) : Res :=
  doneQuiet s (dictWrite r 0x4004 0x0A data (fun _ _ => true)
    (fun _ c s => s.modLoad fun l => { l with replace := l.replace ++ [c.value] }) s)

end Sys2Proof.Machine
end

