-- ==== Sys2Proof/Machine/Program.lean ====
section
/-! DEFINITION. Program-and-verify (R193 to R198): operations, pulses, ends and caps, column maps, and what follows for a load or a
move. -/

namespace Sys2Proof.Machine
open Sys2Proof

/-- The image whose weights are being programmed: the one that loads, or the one in service. -/
def State.sourceImage (s : State) : Image := match s.load.next with | some g => g | none => s.image

/-- What an array is to hold: its place in a load's plan or in a move, or the place it has. -/
def State.targetPlace (s : State) (a : Nat) : Option Place :=
  match s.load.plan.find? fun x => x.1 = a with
  | some x => some x.2
  | none =>
    (s.load.moves.findSome? fun m => ((m.targets.zip m.olds).find? fun x => x.1 = a).map (·.2)).bind fun old => (s.arr old).place

/-- The level that a cell pair is programmed to: a reference pattern (R84), the code of the logical column (R57), or the reset
target. -/
def targetLevel (img : Image) (x : Arr) (pl : Place) (col row : Nat) : Int :=
  if col % 35 = 0 then refSign (col / 35) row * (refPattern (col / 35)).1
  else
    match logicalOf x col with
    | none => 0
    | some l =>
      match img.mats[pl.mat]? with
      | none => 0
      | some m => if blockRows m pl.rb ≤ row then 0 else shadowLevel img m pl.mat (1024 * pl.rb + row) (512 * pl.cb + l)

/-- Program operations in progress on a die. -/
def State.programming (s : State) (d : Nat) : Nat :=
  (s.arrays.filter fun x => dieOf x.1 = d && x.2.prog.isSome).length

/-- A load programs now: in LOADING with every section held. -/
def State.loadPrograms (s : State) : Bool := s.loadState = 2 && s.load.toFetch.isEmpty && s.load.next.isSome

/-- A die can program: its links stand, its band is below T4, and it is outside its window (R193). -/
def State.dieCanProgram (s : State) (d : Nat) : Bool :=
  !(s.die d).lost && (s.die d).band ≠ 4 && !s.dieInWindow d

/-- The array awaits a program operation: of a load, or as a move's target. -/
def State.awaitsProgram (s : State) (a : Nat) : Bool :=
  (s.loadPrograms && s.load.toProgram.contains a) ||
    s.load.moves.any fun m => m.targets.contains a && !m.programmed.contains a

/-- PROGRAM_OPERATION_START (R194, R198, R442): the array's cycle count rises and its pairs are open. -/
def programOperationStart (a : Nat) (s : State) : State :=
  let limit := if s.loadPrograms then s.rd 0x4004 0x01 else s.rd 0x4004 0x02
  let d := dieOf a
  if !s.awaitsProgram a || (s.arr a).prog.isSome || !s.dieCanProgram d || limit ≤ s.programming d || s.hk.vppHold then s
  else
    let s := s.modArr a fun x => { x with
      prog := some ⟨s.count.toNat, []⟩, cycles := x.cycles + 1, programmed := false, cells := [], spares := [] }
    s.bump 0x4004 0x09 1

/-- The meaning of PROGRAM_OPERATION_START. -/
def execProgramOperationStart (arr : Nat) (s : State) : Res := doneQuiet s (programOperationStart arr s)

/-- A pair that no pulse has touched. -/
def PairOp.fresh : PairOp := ⟨0, 0, 0, 0, false, false⟩

/-- One pulse of a pair at the reset target: verified, or reset again at most three times (R195). -/
def resetPulse (found : PulseResult) (p : PairOp) : PairOp :=
  match found with
  | .verified => { p with closed := true }
  | _ => if 3 ≤ p.resets then { p with closed := true, failed := true } else { p with resets := p.resets + 1 }

/-- One SET step with its verify: in the window, passed above it (reset, at most two restarts), or still below, 64 steps in all;
or a cell of the pair at the reset target fails verify and is reset again (R195). -/
def setPulse (found : PulseResult) (p : PairOp) : PairOp :=
  let q := { p with steps := p.steps + 1, total := p.total + 1 }
  let fail (x : PairOp) : PairOp := { x with closed := true, failed := true }
  match found with
  | .verified => { q with closed := true }
  | .above => if 2 ≤ q.restarts || 64 ≤ q.total then fail q else { q with restarts := q.restarts + 1, steps := 0 }
  | .below => if 64 ≤ q.total then fail q else q
  | .resetHigh => if 3 ≤ p.resets then fail p else { p with resets := p.resets + 1 }

/-- PROGRAM_PULSE (R195): a pulse on one cell pair and what its verify finds. -/
def programPulse (a row col : Nat) (found : PulseResult) (s : State) : State :=
  match (s.arr a).prog, s.targetPlace a with
  | some op, some pl =>
    let key := 1024 * col + row
    let p := sget PairOp.fresh key op.pairs
    if 560 ≤ col || 1024 ≤ row || p.closed || !s.dieCanProgram (dieOf a) then s
    else
      let lvl := targetLevel s.sourceImage (s.arr a) pl col row
      let q := if lvl = 0 then resetPulse found p else setPulse found p
      let s := s.modArr a fun x => { x with
        prog := some { op with pairs := sset PairOp.fresh key q op.pairs }
        cells := if q.closed && !q.failed then sset 0 key lvl x.cells else x.cells }
      if q.failed then s.bump 0x4004 0x08 1 else s
  | _, _ => s

/-- The meaning of PROGRAM_PULSE. -/
def execProgramPulse (arr row col : Nat) (found : PulseResult) (s : State) : Res := doneQuiet s (programPulse arr row col found s)

/-- Pairs of an operation that failed, as (column, row); at the cap the open ones count too (R196). -/
def failedPairs (op : ProgOp) (cap : Bool) : List (Nat × Nat) :=
  (op.pairs.filter fun x => x.2.failed || (cap && !x.2.closed)).map fun x => (x.1 / 1024, x.1 % 1024)

/-- The column map after an operation (R62, R196): failed columns, a free spare as hot spare of each failed weight column, then
the remaining spares as duplicates of the columns of largest read noise. -/
def mapColumns (x : Arr) (failed : List Nat) (noise : List Nat) : Arr :=
  let bad := (x.badCols ++ failed).eraseDups
  let spares := (List.range 32).filter fun k => !bad.contains (spareCol k)
  let lost := (List.range 512).filter fun l => bad.contains (physCol l)
  let hot : List (Nat × SpareRole) := (spares.zip lost).map fun y => (y.1, .hot y.2)
  let rest := spares.drop lost.length
  let order := sortBy (fun a b => decide (noise.getD b 0 < noise.getD a 0) || (noise.getD a 0 = noise.getD b 0 && decide (a ≤ b)))
    ((List.range 512).filter fun l => !lost.contains l)
  { x with badCols := bad, noise := noise, spares := hot ++ (rest.zip order).map fun y => (y.1, SpareRole.dup y.2) }

/-- The cells that an operation leaves: every pair of a serviceable column at its target (R57, R65, R84, R196). -/
def programmedCells (img : Image) (x : Arr) (pl : Place) : List (Nat × Int) :=
  (List.range 560).flatMap fun c =>
    if x.badCols.contains c then []
    else (List.range 1024).filterMap fun r =>
      let v := targetLevel img x pl c r
      if v = 0 then none else some (1024 * c + r, v)

/-- Rows with failed cells in more than 4 weight columns (R64). -/
def failedRows (l : List (Nat × Nat)) : List Nat :=
  let rows := (l.map (·.2)).eraseDups
  rows.filter fun r => 4 < ((l.filter fun x => x.2 = r && decide (3 ≤ x.1 % 35)).map (·.1)).eraseDups.length

/-- A retired target of a load gives way to another free array of its die, else of any die; the load fails with reason PROGRAM
where there is none (R188, R193). -/
def replaceTarget (a : Nat) (s : State) : Option State :=
  let here := s.freeOn (dieOf a)
  let any := here ++ (List.range 8).flatMap s.freeOn
  match any with
  | [] => none
  | b :: _ => some (s.modLoad fun l => { l with
      plan := l.plan.map fun x => if x.1 = a then (b, x.2) else x
      toProgram := l.toProgram.filter (· ≠ a) ++ [b] })

/-- What the verify of an array gives it (R103): drift gain 1, no skew, the beat as its programming beat, no request. -/
def verifyArray (a : Nat) (s : State) : State :=
  let eff := (s.die (dieOf a)).eff
  writeGain a (s.modArr a fun x => { x with
    prog := none, programmed := true, progBeat := s.beat, gd := f32One, skew := f32Zero, sxy3 := 0, sxx3 := 0, sxy1 := 0, sxx1 := 0
    lowRun := 0, failed := false, requested := false, warned := false, wholeNext := true, checks := [], eff0 := eff })

/-- The array has been programmed for what awaited it. -/
def markProgrammed (a : Nat) (s : State) : State :=
  s.modLoad fun l => { l with
    toProgram := l.toProgram.filter (· ≠ a)
    moves := l.moves.map fun m => if m.targets.contains a then { m with programmed := m.programmed ++ [a] } else m }

/-- The end of an operation, with the pairs that failed (R62 to R64, R103, R196): the array is mapped and verified, or retired. -/
def endOperation (a : Nat) (cap : Bool) (noise : List Nat) (onFail : State → State) (s : State) : State :=
  match (s.arr a).prog, s.targetPlace a with
  | some op, some pl =>
    let fails := failedPairs op cap
    let s := if cap then s.bump 0x4004 0x08 (fails.length - (failedPairs op false).length) else s
    let x := mapColumns (s.arr a) ((fails.map (·.1)).eraseDups) noise
    let rows := failedRows fails
    let x := { x with badRows := (x.badRows ++ rows).eraseDups, cells := programmedCells s.sourceImage x pl }
    let dead := !rows.isEmpty || (List.range 512).any (lostCol x)
    let s := verifyArray a (s.modArr a fun _ => x)
    if dead then
      let s := retireArray a s
      if s.load.plan.any fun y => y.1 = a then
        match replaceTarget a s with
        | some s => s
        | none => onFail s
      else s
    else
      let s := markProgrammed a s
      if s.loadPrograms then s.bump 0x4000 0x14 1 else s
  | _, _ => s

end Sys2Proof.Machine
end

