-- ==== Sys2Proof/Machine/LoadImage.lean ====
section
/-! DEFINITION. The load of a weight image (R179 to R188, R261, R508, R509): start and abort, verification, fetching, programming,
calibration, entry to service, reports, and the refetch of R458; KV settings and the pool (R236, R266). -/

namespace Sys2Proof.Machine
open Sys2Proof

/-! ## The KV pool (R236, R266) -/

/-- Bytes that the image held or loading takes of a half, with its staging area. -/
def State.heldBytes (s : State) (half : Nat) : Nat := imageHbmBytes s.image half + stagingBytes

/-- The pool recomputed from the image in service and the KV settings (R236): the top of each half's HBM4 range. -/
def repool (s : State) : State :=
  let size := [0, 1].map fun h => s.poolPages h (s.heldBytes h) - (s.pool.retired.filter fun p => p < 0x400000 && (p - 0x100000) / hbmPages = h).length
  { s with pool := { s.pool with
      size := size
      base := [0, 1].map fun h => 0x100000 + hbmPages * h + (hbmPages - size.getD h 0) } }

/-- An image fits what R236 leaves of HBM4. -/
def State.hbmFits (s : State) (img : Image) : Bool :=
  [0, 1].all fun h => decide (0 < s.poolPages h (imageHbmBytes img h + stagingBytes))

/-- KV settings are written only while every entry is FREE and no load is in progress (R266). -/
def kvConfigOk (sub : Nat) (c : WriteCtx) (s : State) : Bool :=
  s.allFree && !s.loading &&
    (sub ≠ 2 || (c.value % 1024 = 0 && decide (1024 ≤ c.value) && decide (c.value ≤ 1048576))) && (sub ≠ 4 || c.value % 2 = 0) &&
    (sub ≠ 1 || decide (c.value ≤ 1))

/-- The meaning of KV_CONFIG_WRITE: objects 0x6000:01 to 0x6000:04; lanes, T, Z and the pool follow (R266). -/
def execKvConfigWrite (r : DictReq) (sub : Nat) (data : Bytes) (s : State) : Res :=
  doneQuiet s (if sub = 0 || 4 < sub then s
    else dictWrite r 0x6000 sub data (kvConfigOk sub) (fun row c s => repool (storeWrite row 0x6000 sub c s)) s)

/-! ## Start, abort and failure (R185, R186, R188) -/

/-- The load state changes, and its beat is reported (R186). -/
def setLoadState (st : Nat) (s : State) : State := (s.wr 0x4000 0x11 st).wr 0x4000 0x16 s.beat

/-- A controller is named (R185). -/
def State.controllerNamed (s : State) : Bool :=
  (s.oct? 0x4000 0x01 0 []).any (· ≠ 0#8) && !(s.oct? 0x4000 0x03 0 []).isEmpty

/-- A request entry holds the image (R185). -/
def State.requestsHold (s : State) : Bool := s.table.any fun e => decide (1 ≤ e.2.state) && decide (e.2.state ≤ 4)

/-- Every die-to-die, memory and array loopback returns to 0, and a running array test ends with result 4 (R391, R519). -/
def endInsideLoopbacks (s : State) : State :=
  let s := (List.range 8).foldl (fun s n => s.wr (0x7F20 + n) 0x01 0) s
  let s := (List.range 12).foldl (fun s n => s.wr (0x7F30 + n) 0x01 0) s
  if s.rd 0x7F40 0x04 = 1 then
    let s := s.wr 0x7F40 0x04 4
    let s := if (s.cal.current.bind (·.test)).isSome then s.wr 0x2200 0x03 0xFF else s
    s.modCal fun c => { c with
      waiting := c.waiting.filter fun w => w.test.isNone
      current := match c.current with
        | some w => if w.test.isSome then none else some w
        | none => none }
  else s

/-- A load begins in VERIFYING (R186); `reload` is the load of R508. -/
def beginLoad (reload : Bool) (s : State) : State :=
  let s := s.modLoad fun l => { l with
    next := none, reload := reload, plan := [], toFetch := [], retriesLeft := 2, reconnects := 3, connLostAt := 0
    lastKeepAlive := s.beat, toProgram := [], calDone := false }
  (setLoadState 1 (s.wr 0x4000 0x13 0)).send (.nvme "Connect" (s.rd 0x4000 0x05))

/-- The image unloaded: recipe and identity objects at their defaults, its arrays free, moves abandoned (R186, R193, R326). -/
def unload (s : State) : State :=
  let keep (x : Nat × Nat) : Bool :=
    let index := x.1 / 0x100 % 0x10000
    let sub := x.1 % 0x100
    !(decide (0x4100 ≤ index) && decide (index ≤ 0x41FF) && decide (1 ≤ sub) && decide (sub ≤ 10)) && index ≠ 0x4001
  let s : State := { s with
    img := none, qmonCopy := []
    obj := s.obj.filter keep
    pend := s.pend.filter keep
    oct := s.oct.filter fun x => x.1 / 0x100 ≠ 0x4001
    arrays := s.arrays.foldl (fun l x => sset Arr.blank x.1 { x.2 with place := none, requested := false } l) [] }
  let s := s.modLoad fun l => { l with moves := [], replace := [], retireEv := [] }
  let s := if s.hasRegion then (s.wr 0x3101 0x0A (s.memberPos 0)).wr 0x3101 0x0B (s.memberPos 0) else s
  syncPairs (repool s)

/-- The load fails with a reason, naming a section or 0xFFFF (R186, R188): in VERIFYING the previous image stays, after it none is
left. -/
def failLoad (reason sec : Nat) (s : State) : State :=
  let st := s.loadState
  let s := (s.wr 0x4000 0x12 reason).wr 0x4000 0x17 sec
  let s := s.modLoad fun l => { l with next := none, plan := [], toFetch := [], toProgram := [], calDone := false, lists := [] }
  if st = 1 then setLoadState (if s.img.isSome then 4 else 0) s
  else
    let s := { s with arrays := s.arrays.foldl (fun l x => sset Arr.blank x.1 { x.2 with prog := none } l) [] }
    setLoadState 5 (unload s)

/-- A start's rule (R185). -/
def loadStartOk (c : WriteCtx) (s : State) : Bool :=
  c.value ≠ 1 || (!s.loading && !s.requestsHold && s.controllerNamed)

/-- A rejected start sets reason REQUESTS where a request entry is its cause (R185). -/
def loadStartRejected (c : WriteCtx) (s : State) : State :=
  if c.value = 1 && !s.loading && s.requestsHold then s.wr 0x4000 0x12 12 else s

/-- A write of object 0x4000:10: 1 starts a load, 2 aborts one; an abort with no load in progress changes nothing (R185). -/
def loadCommand (c : WriteCtx) (s : State) : State :=
  if c.value = 1 then beginLoad false (endInsideLoopbacks s)
  else if s.loading then failLoad 9 0xFFFF s else s

/-- The meaning of LOAD_START. -/
def execLoadStart (r : DictReq) (data : Bytes) (s : State) : Res :=
  doneQuiet s (dictWriteElse r 0x4000 0x10 data (fun c s => c.value = 1 && loadStartOk c s) (fun _ c s => loadCommand c s) loadStartRejected s)

/-- The meaning of LOAD_ABORT. -/
def execLoadAbort (r : DictReq) (data : Bytes) (s : State) : Res :=
  doneQuiet s (dictWriteElse r 0x4000 0x10 data (fun c s => c.value = 2 && loadStartOk c s) (fun _ c s => loadCommand c s) loadStartRejected s)

/-! ## NVMe/TCP (R179, R180) -/

/-- A fetch is in progress: of a load, or of R458. -/
def State.fetching (s : State) : Bool := s.loadState = 1 || s.loadState = 2 || s.load.refetch.isSome

/-- The fetch fails: the load with reason FETCH, a refetch with half-mast (R180, R458). -/
def failFetch (s : State) : State :=
  if s.load.refetch.isSome then (s.modLoad fun l => { l with refetch := none }).halfMastCause 6 else failLoad 1 0xFFFF s

/-- NVME_READ_COMPLETE (R180): bytes are counted; a Read that fails is retried twice. -/
def nvmeReadComplete (ok : Bool) (bytes : Nat) (s : State) : State :=
  if !s.fetching then s
  else if ok then (s.bump 0x4000 0x13 bytes).modLoad fun l => { l with retriesLeft := 2 }
  else if s.load.retriesLeft = 0 then failFetch s
  else (s.modLoad fun l => { l with retriesLeft := l.retriesLeft - 1 }).send (.nvme "Read" 0)

/-- The meaning of NVME_READ_COMPLETE. -/
def execNvmeReadComplete (ok : Bool) (bytes : Nat) (s : State) : Res := doneQuiet s (nvmeReadComplete ok bytes s)

/-- NVME_CONNECTION_LOSS (R180): re-established up to three times within 10 s. -/
def nvmeConnectionLoss (s : State) : State :=
  if !s.fetching then s
  else
    let fresh := s.load.reconnects = 3 || decide (s.load.connLostAt + 9765625 ≤ s.beat)
    if fresh then (s.modLoad fun l => { l with reconnects := 2, connLostAt := s.beat }).send (.nvme "Connect" 0)
    else if s.load.reconnects = 0 then failFetch s
    else (s.modLoad fun l => { l with reconnects := l.reconnects - 1 }).send (.nvme "Connect" 0)

/-- The meaning of NVME_CONNECTION_LOSS. -/
def execNvmeConnectionLoss (s : State) : Res := doneQuiet s (nvmeConnectionLoss s)

/-- KEEP_ALIVE (R179): the command that keeps the controller's 30 s timeout from expiring. -/
def keepAlive (s : State) : State :=
  if !s.fetching then s else (s.modLoad fun l => { l with lastKeepAlive := s.beat }).send (.nvme "Keep Alive" 0)

/-- The meaning of KEEP_ALIVE. -/
def execKeepAlive (s : State) : Res := doneQuiet s (keepAlive s)

/-! ## Verification (R168 to R175, R187, R261) -/

/-- An accepted key for a use: its modulus from the key table (R478). -/
def State.keyFor (s : State) (keyId usage : Nat) : Option Bytes :=
  if keyId = 0 then none
  else
    let i := s.sec.keys.findIdx fun k => k.1 = keyId && bitOf k.2 usage
    if i < s.sec.keys.length then some ((s.sec.keyTable.drop (1024 * i + 16)).take 512) else none

/-- The device's region-relative index, 0 without a region. -/
def State.ownIndex (s : State) : Nat := s.relIndex s.pos

/-- The region shape that an image is checked against (R187). -/
def State.shape (s : State) : List Nat := if s.hasRegion then [s.extent 0, s.extent 1, s.extent 2] else []

/-- The tables of an image from its three sections, or the reason why they fail. -/
def verifyTables (h : ManifestHead) (own : List (Nat × SectionEntry)) (lt dir rec : Bytes) : LoadReason × Nat ⊕ List LayerEntry × List MatEntry × List Recipe :=
  let numOf (t : Nat) : Nat := ((own.find? fun x => x.2.type = t).map (·.1)).getD 0xFFFF
  let entOf (t : Nat) : SectionEntry := ((own.find? fun x => x.2.type = t).map (·.2)).getD default
  match sectionContent (entOf 1) lt, sectionContent (entOf 2) dir, sectionContent (entOf 3) rec with
  | .inl e, _, _ => .inl (e, numOf 1)
  | _, .inl e, _ => .inl (e, numOf 2)
  | _, _, .inl e => .inl (e, numOf 3)
  | .inr l, .inr m, .inr c =>
    let layers := (records 64 l).map parseLayer
    let mats := (records 64 m).map parseMat
    let recipes := (records 16 c).map parseRecipe
    if l.length % 64 ≠ 0 || layers.length ≠ h.layers || !tablesOk layers mats then .inl (4, numOf 1)
    else if m.length % 64 ≠ 0 then .inl (4, numOf 2)
    else if c.length % 16 ≠ 0 || (recipes.any fun (x : Recipe) => !(layers.map (·.slot)).contains x.slot) then .inl (4, numOf 3)
    else if recipes.length ≠ layers.length || !decide ((recipes.map (·.slot)).Nodup) then .inl (4, numOf 3)
    else if !recipes.all recipeOk then .inl (8, numOf 3)
    else .inr (layers, mats, recipes)

/-- The experts that a device holds in a slot (R261): those with a matrix of it. -/
def ownExperts (img : Image) (l : LayerEntry) : List Nat :=
  (((img.mats.drop l.firstMat).take l.matCount).filterMap fun m => if m.expert = 0xFF then none else some m.expert).eraseDups

/-- An expert of this device is divided over devices: a matrix of it is not held whole (R261). -/
def expertsWhole (img : Image) : Bool :=
  img.mats.all fun m => m.expert = 0xFF || (m.rbFirst = 0 && m.rbCount = rowBlocks m.k)

/-- The device's own expert lists, one for each slot it holds (R261). -/
def State.ownLists (s : State) (img : Image) : List (Nat × Nat × List Nat) :=
  img.layers.map fun l => (s.pos, l.slot, ownExperts img l)

/-- The lists sent to every other member on VC7 (R261). -/
def sendLists (img : Image) (s : State) : State :=
  let fields := img.layers.flatMap fun l => [l.slot, (ownExperts img l).length] ++ ownExperts img l
  s.otherMembers.foldl (fun s m => sendVc7 m (3 :: fields) s) s

/-- MANIFEST_VERIFY (R171, R181, R187): the manifest is checked and its signature verified, then its tables, which the device
fetches first. A reload's digest must be the recorded one (R508). -/
def manifestVerify (manifest lt dir rec : Bytes) (s : State) : State :=
  if s.loadState ≠ 1 || s.load.next.isSome then s
  else
    match parseHead manifest with
    | none => failLoad 4 0xFFFF s
    | some h =>
      let sig := manifest.drop (manifest.length - 512)
      let ok := match s.keyFor h.keyId 0 with
        | some n => Config.rsaPssVerify n (signedPart manifest) sig
        | none => false
      if !ok then failLoad 2 0xFFFF s
      else
        let digest := Config.sha512 (signedPart manifest)
        if s.load.reload && s.flash.placement ≠ some digest then
          let s := s.modLoad fun l => { l with next := none, reload := false, lists := [] }
          setLoadState 0 (unload (s.wr 0x4000 0x12 0))
        else if s.shape ≠ h.region then failLoad 6 0xFFFF s
        else
          let secs := parseSections manifest h.count
          let own := ownSections s.ownIndex secs
          if !own.any fun x => x.2.type = 1 then failLoad 6 0xFFFF s
          else if !sectionsOk own then failLoad 4 0xFFFF s
          else
            match verifyTables h own lt dir rec with
            | .inl (e, n) => failLoad e n s
            | .inr (layers, mats, recipes) =>
              let img : Image := ⟨h.imageId, h.version, digest, h.keyId, layers, mats, recipes, secs, [], [], [], [], []⟩
              let s := s.modLoad fun l => { l with
                next := some img
                toFetch := (own.filter fun x => 3 < x.2.type).map (·.1) }
              sendLists img s

/-- The meaning of MANIFEST_VERIFY. -/
def execManifestVerify (manifest layerTable directory recipes : Bytes) (s : State) : Res :=
  doneQuiet s (manifestVerify manifest layerTable directory recipes s)

/-- EXPERT_LIST (R261): a member's list of the slots it holds with their experts. -/
def expertList (member : Nat) (slots : List (Nat × List Nat)) (s : State) : State :=
  let s := takeMgmt s
  s.modLoad fun l => { l with
    lists := (l.lists.filter fun x => x.1 ≠ member) ++ [(member, 0x100, [])] ++ slots.map fun x => (member, x.1, x.2) }

/-- The meaning of EXPERT_LIST. -/
def execExpertList (member : Nat) (slots : List (Nat × List Nat)) (s : State) : Res := doneQuiet s (expertList member slots s)

/-- Every other member's list has come. -/
def State.listsWhole (s : State) : Bool := s.otherMembers.all fun m => s.load.lists.any fun x => x.1 = m

/-- No expert is missing, held twice or divided (R261). -/
def expertMapOk (img : Image) (all : List (Nat × Nat × List Nat)) : Bool :=
  expertsWhole img && img.layers.all fun l =>
    let es := (all.filter fun x => x.2.1 = l.slot).flatMap (·.2.2)
    (List.range l.experts).all fun e => (es.filter (· = e)).length = 1

/-! ## Placement and LOADING (R186, R190) -/

/-- The plan of a load: the recorded placement for a reload, else that of R190. -/
def loadPlan (img : Image) (s : State) : Option (List (Nat × Place)) :=
  if s.load.reload then some s.placed else planImage s img

/-- PLACEMENT_PLAN (R190, R261): once every member's expert list has come, the map is checked and the placement planned; the load
then enters LOADING: the previous image is unloaded, moves and a calibration window are abandoned (R186, R193, R429). -/
def placementPlan (s : State) : State :=
  match s.load.next with
  | none => s
  | some img =>
    if s.loadState ≠ 1 || !s.listsWhole then s
    else if !expertMapOk img (s.load.lists ++ s.ownLists img) then failLoad 4 0xFFFF s
    else
      match loadPlan img s with
      | none => failLoad 7 0xFFFF s
      | some plan =>
        let reload := s.load.reload
        let again := plan.filterMap fun x =>
          if !reload || s.flash.interrupted.contains x.1 || !(s.arr x.1).programmed then some x.1 else none
        let s := { s with arrays := s.arrays.foldl (fun l x => sset Arr.blank x.1 { x.2 with prog := none } l) [] }
        let s := abandonWindow (unload s)
        let s := s.modLoad fun l => { l with next := some (settleHalves plan img), plan := plan, toProgram := again }
        let s := if reload then s else { s with flash := { s.flash with placement := none, interrupted := [] } }
        setLoadState 2 ((s.wr 0x4000 0x14 0).wr 0x4000 0x15 again.length)

/-- The meaning of PLACEMENT_PLAN. -/
def execPlacementPlan (s : State) : Res := done s (placementPlan s)

/-- A section's content used (R170, R176): a run of a stream, or a tensor, numbered among the image's tensors. -/
def useSection (sec : Nat) (e : SectionEntry) (content : Bytes) (img : Image) : Option Image :=
  if e.type = 0x10 then addRun content img
  else
    let n := ((img.sections.take sec).filter fun x => x.type = 0x20).length
    some { img with tensors := sset [] n content img.tensors }

/-- The load goes on to CALIBRATING once nothing is left to fetch or to program (R186). -/
def tryCalibrate (s : State) : State :=
  if s.loadState = 2 && s.load.toFetch.isEmpty && s.load.toProgram.isEmpty &&
      s.load.plan.all fun x => (s.arr x.1).prog.isNone then setLoadState 3 s else s

/-- Every section is held: the matrices are decoded and quantised, and the image must fit HBM4 (R177, R181 to R184, R188). -/
def sectionsHeld (img : Image) (s : State) : State :=
  match decodeImage img with
  | none => failLoad 4 0xFFFF s
  | some g =>
    if !s.hbmFits g then failLoad 11 0xFFFF s
    else tryCalibrate (s.modLoad fun l => { l with next := some g })

/-- SECTION_FETCHED (R181): the section is checked against its digest, decompressed, and used. -/
def sectionFetched (sec : Nat) (stored : Bytes) (s : State) : State :=
  match s.load.next with
  | none => s
  | some img =>
    if s.loadState ≠ 2 || !s.load.toFetch.contains sec then s
    else
      match img.sections[sec]? with
      | none => s
      | some e =>
        match sectionContent e stored with
        | .inl r => failLoad r sec s
        | .inr c =>
          match useSection sec e c img with
          | none => failLoad 4 sec s
          | some g =>
            let rest := s.load.toFetch.filter (· ≠ sec)
            let s := s.modLoad fun l => { l with next := some g, toFetch := rest }
            if rest.isEmpty then sectionsHeld g s else s

/-- The meaning of SECTION_FETCHED. -/
def execSectionFetched (sec : Nat) (stored : Bytes) (s : State) : Res := doneQuiet s (sectionFetched sec stored s)

/-! ## The end of programming, and the pattern read sets (R103, R196) -/

/-- PROGRAM_OPERATION_END (R196): every pair has verified or failed. -/
def programOperationEnd (a : Nat) (noise : List Nat) (s : State) : State :=
  match (s.arr a).prog with
  | none => s
  | some op =>
    if op.pairs.any fun x => !x.2.closed then s
    else tryCalibrate (endOperation a false noise (failLoad 10 0xFFFF) s)

/-- The meaning of PROGRAM_OPERATION_END. -/
def execProgramOperationEnd (arr : Nat) (noise : List Nat) (s : State) : Res := doneQuiet s (programOperationEnd arr noise s)

/-- PROGRAM_OPERATION_CAP (R196): 5.2 s after it began an operation ends, and open pairs count as failed. -/
def programOperationCap (a : Nat) (s : State) : State :=
  match (s.arr a).prog with
  | none => s
  | some op =>
    if s.count.toNat < op.start + 5200000000 then s
    else tryCalibrate (endOperation a true (s.arr a).noise (failLoad 10 0xFFFF) s)

/-- The meaning of PROGRAM_OPERATION_CAP. -/
def execProgramOperationCap (arr : Nat) (s : State) : Res := doneQuiet s (programOperationCap arr s)

/-- The pattern read sets of a load in CALIBRATING: every planned array takes its drift gain whole (R103, R188). -/
def calibrateLoad (s : State) : State :=
  if s.loadState ≠ 3 || s.load.calDone then s
  else
    let img := s.sourceImage
    (s.load.plan.foldl (fun s x => patternWhole img x s) s).modLoad fun l => { l with calDone := true }

/-- The pattern read sets of move targets that have been programmed (R192). -/
def calibrateMoves (s : State) : State :=
  s.load.moves.foldl (fun s m =>
    (m.programmed.filter fun a => !m.patterned.contains a).foldl (fun s a =>
      match s.targetPlace a with
      | none => s
      | some pl =>
        (patternWhole s.image (a, pl) s).modLoad fun l => { l with
          moves := l.moves.map fun y => if y.olds = m.olds then { y with patterned := y.patterned ++ [a] } else y }) s) s

/-- PATTERN_READ_SET (R103, R192, R425): the read sets that are due are run: of the die inside its window, of a load in CALIBRATING,
and of a move's targets. -/
def patternReadSet (s : State) : State := calibrateMoves (calibrateLoad (windowPatternSet s))

/-- The meaning of PATTERN_READ_SET. -/
def execPatternReadSet (s : State) : Res := doneQuiet s (patternReadSet s)

/-! ## Entry to service (R188, R326, R509) -/

/-- The member that holds a slot of the region's image, by the lists of R261. -/
def memberOf (all : List (Nat × Nat × List Nat)) (slot dflt : Nat) : Nat :=
  ((all.find? fun x => x.2.1 = slot).map (·.1)).getD dflt

/-- Head and tail by R326: the holders of the lowest slot and of the OUTPUT_HEAD slot, or of the highest slot. -/
def headTail (s : State) (img : Image) (all : List (Nat × Nat × List Nat)) : Nat × Nat :=
  let slots := (all.map (·.2.1)).filter (· < 0x100)
  let lo := slots.foldl min 0x100
  let hi := slots.foldl max 0
  let tail := if img.layers.any fun l => l.kind = 6 then s.pos else memberOf all hi s.pos
  (memberOf all lo s.pos, tail)

/-- The recipe objects of the image's slots (R175, R188). -/
def applyRecipes (img : Image) (s : State) : State :=
  img.recipes.foldl (fun s r =>
    ((List.range 10).zip r.vals).foldl (fun s x => s.wr (0x4100 + r.slot) (x.1 + 1) x.2) s) s

/-- The digest of the recipe table, object 0x7800:03 (R493). -/
def recipeTable (s : State) : Bytes :=
  (List.range 256).flatMap fun n =>
    let v (sub : Nat) : Nat := s.rd (0x4100 + n) sub
    leBytes 1 (v 1) ++ leBytes 1 (v 2) ++ leBytes 2 (v 3) ++ leBytes 2 (v 4) ++ leBytes 1 (v 5) ++ leBytes 1 (v 6) ++
      leBytes 2 (v 7) ++ leBytes 1 (v 8) ++ leBytes 1 (v 9) ++ leBytes 1 (v 10) ++ [0#8, 0#8] ++ leBytes 1 n

/-- Object 0x7800:03 recomputed. -/
def digestRecipes (s : State) : State := s.putOct 0x7800 0x03 0 (Config.sha512 (recipeTable s))

/-- IMAGE_ENTERS_SERVICE (R188, R326, R508, R509), at the first frame boundary after CALIBRATING completes. -/
def enterService (s : State) : State :=
  match s.load.next with
  | none => s
  | some img =>
    if s.loadState ≠ 3 || !s.load.calDone then s
    else
      let all := s.load.lists ++ s.ownLists img
      let s : State := { s with
        img := some img
        arrays := s.load.plan.foldl (fun l x => sset Arr.blank x.1 { sget Arr.blank x.1 l with place := some x.2 } l) s.arrays
        flash := { s.flash with placement := some img.digest, interrupted := [] } }
      let s := (s.modFab fun f => { f with expertLists := all.filter fun x => x.2.1 < 0x100 }).modLoad fun l =>
        { l with next := none, plan := [], calDone := false, lists := [], reload := false }
      let ht := headTail s img all
      let s := if s.hasRegion then (s.wr 0x3101 0x0A ht.1).wr 0x3101 0x0B ht.2 else s
      let s := applyRecipes img s
      let s := s.putOct 0x4001 0x01 0 img.digest
      let s := (s.wr 0x4001 0x02 img.imageId).wr 0x4001 0x03 img.version
      let s := (s.wr 0x4001 0x04 img.layers.length).wr 0x4001 0x05 s.ownIndex
      let s := setLoadState 4 (digestRecipes (syncPairs (repool s)))
      let mine := fun (f : Fabric) => { f with imageReports := (f.imageReports.filter fun r => r.1 ≠ s.pos) ++ [(s.pos, img.digest)] }
      if s.isHead || !s.hasRegion then s.modFab mine else sendVc7 s.headPos (4 :: img.digest.map (·.toNat)) s

/-- IMAGE_REPORT (R509): a member's report of the digest that entered service on it reaches the head. -/
def imageReport (member : Nat) (digest : Bytes) (s : State) : State :=
  (takeMgmt s).modFab fun f => { f with imageReports := (f.imageReports.filter fun r => r.1 ≠ member) ++ [(member, digest)] }

/-- The meaning of IMAGE_REPORT. -/
def execImageReport (member : Nat) (digest : Bytes) (s : State) : Res := doneQuiet s (imageReport member digest s)

/-! ## Lost units (R19, R455, R458) -/

/-- SECTION_REFETCH (R458): a section fetched again to rewrite a lost unit of the shadow or the outlier records; a failure of any
kind takes the device to half-mast. -/
def sectionRefetch (sec : Nat) (stored : Option Bytes) (s : State) : State :=
  match s.load.refetch with
  | none => s
  | some _ =>
    let s := s.modLoad fun l => { l with refetch := none }
    match stored, s.image.sections[sec]? with
    | some b, some e => if Config.sha512 b = e.digest then tryAck s else s.halfMastCause 6
    | _, _ => s.halfMastCause 6

/-- The meaning of SECTION_REFETCH. -/
def execSectionRefetch (sec : Nat) (stored : Option Bytes) (s : State) : Res := done s (sectionRefetch sec stored s)

/-- GREUND_LINKS_FAIL (R19, R429, R519): every die-to-die link of a die fails, and the die is lost. -/
def greundLinksFail (d : Nat) (s : State) : State := if 8 ≤ d || (s.die d).lost then s else loseDie d s

/-- The meaning of GREUND_LINKS_FAIL. -/
def execGreundLinksFail (die : Nat) (s : State) : Res := doneQuiet s (greundLinksFail die s)

end Sys2Proof.Machine
end

