-- ==== Sys2Proof/Machine/Power.lean ====
section
/-! DEFINITION. Supplies and reference clocks (R433, R537), the operating points and the occupancy governor (R436 to R440), the
sleep states S0 to S2 with their wake events, and the clock domains' states (R434, R445, R446). -/

namespace Sys2Proof.Machine
open Sys2Proof

/-- The power record changed. -/
def State.modPower (s : State) (f : Power → Power) : State := { s with power := f s.power }

/-! ## Supplies and reference clocks -/

/-- The record of a supply fault (R433, R471): DETAIL holds the rail, 0 for the core reference clock. -/
def supplyRec (s : State) (rail : Nat) : FaultRec :=
  { newRec s 9 18 with unitClass := if rail = 0 then 0 else 13, unit := rail, detail := rail }

/-- SUPPLY_FAULT (R433, R498): a rail has been outside its window for 256 ticks. The loss of VDD_AO is a power-on reset; any other
rail stops the device as on shutdown and enters S3. -/
def supplyFault (rail : Nat) (s : State) : State :=
  if rail = 0 || railCount < rail then s
  else if rail = railCount then powerOn s
  else shutdown 9 (supplyRec s rail) s

/-- The meaning of SUPPLY_FAULT. -/
def execSupplyFault (rail : Nat) (s : State) : Res := done s (supplyFault rail s)

/-- SUPPLY_RELEASE (R433): the rail, or the clock of R537, has been back within its limits for 976,563 beats. -/
def supplyRelease (s : State) : State :=
  match s.power.s3 with
  | some (9, b) => if s.beat < b + holdBeats then s else beginReset 0 false s
  | _ => s

/-- The meaning of SUPPLY_RELEASE. -/
def execSupplyRelease (s : State) : Res := done s (supplyRelease s)

/-- PLL_LOCK_LOSS (R537, R11), by the clock that the PLL serves, numbered in the order of R536: 0 REFCLK_CORE, 1 REFCLK_SERH, 2
REFCLK_SERF, 3 REFCLK_ETH. -/
def pllLockLoss (clock : Nat) (s : State) : State :=
  if clock = 0 then shutdown 9 (supplyRec s 0) s
  else if clock = 1 then [0, 2, 4].foldl (fun s k => linkDown k s) s
  else if clock = 2 then [1, 3, 5].foldl (fun s k => linkDown k s) s
  else if clock = 3 then ethPortDown s
  else s

/-- The meaning of PLL_LOCK_LOSS. -/
def execPllLockLoss (clock : Nat) (s : State) : Res := done s (pllLockLoss clock s)

/-! ## The governor (R436 to R440) -/

/-- Core clock in MHz and core voltage in mV of each point (R436). -/
def dvfsPoints : List (Nat × Nat) :=
  [(1800, 750), (1600, 710), (1400, 670), (1200, 635), (1000, 600), (800, 570), (600, 550)]

/-- f · V² of a point, in MHz · mV². -/
def pointWeight (p : Nat) : Nat := (dvfsPoints.getD p (600, 550)).1 * (dvfsPoints.getD p (600, 550)).2 ^ 2

/-- f · V² in effect: before the first decision 600 MHz at 0.750 V (R535). -/
def State.weightNow (s : State) : Nat :=
  if s.rd 0x2000 0x05 = 7 then 600 * 750 ^ 2 else pointWeight (s.rd 0x2000 0x05)

/-- The prediction of R439 for a point and a duty in eighths is at most the limit: both sides times f·V² in effect and the duty of
the frame just ended. -/
def predictionFits (est : PowerEst) (s : State) (p duty8 : Nat) : Bool :=
  let w := s.weightNow
  let d := s.power.duty8
  decide (est.pf * w * d + ((est.pr - est.pf) * w + est.pc * pointWeight p) * duty8 ≤ s.rd 0x2000 0x02 * w * d)

/-- The point and the duty in eighths that the governor decides, and whether even the least of them exceeds the limit (R439). -/
def governorChoice (est : PowerEst) (s : State) : Nat × Nat × Bool :=
  let ps := (List.range 7).filter fun p => decide ((dvfsPoints.getD p (600, 550)).1 ≤ s.rd 0x2000 0x04)
  match ps.find? fun p => predictionFits est s p 8 with
  | some p => (p, 8, false)
  | none =>
    match [6, 4, 2, 1].find? fun d => predictionFits est s 6 d with
    | some d => (6, d, false)
    | none => (6, 1, true)

/-- A point in effect with its clock and its voltage requested. -/
def setPoint (p : Nat) (s : State) : State :=
  ((s.wr 0x2000 0x05 p).wr 0x2000 0x03 (dvfsPoints.getD p (600, 550)).1).modPower fun x => { x with vid := p, dvfsNext := none }

/-- The decided point takes effect (R437): a lower one at once; a higher one has its voltage requested, and its clock is raised at
the next boundary where it is decided again. The first point takes effect at once, under code 0's voltage (R535). -/
def takePoint (p : Nat) (s : State) : State :=
  let cur := s.rd 0x2000 0x05
  if cur = 7 || cur ≤ p || s.power.dvfsNext = some p then setPoint p s
  else s.modPower fun x => { x with vid := p, dvfsNext := some p }

/-- GOVERNOR_DECISION (R439, R440): the governor acts in S0 alone, and in S1 and S2 point 6 is held. The new κ applies from this
boundary (R438). -/
def governorDecision (est : PowerEst) (s : State) : State :=
  let s := s.modPower fun x => { x with kappa := x.kappaNext.getD x.kappa, kappaNext := none }
  if !s.boot.ready then s
  else if s.rd 0x2000 0x09 ≠ 0 then (setPoint 6 s).modPower fun x => { x with duty8 := 8 }
  else
    let c := governorChoice est s
    let s := takePoint c.1 s
    let s := s.modPower fun x => { x with duty8 := c.2.1 }
    let s := if c.2.1 < 8 then s.bump 0x2000 0x06 1 else s
    if c.2.2 then s.bump 0x2000 0x0A 1 else s

/-! ## Sleep states (R445, R446) -/

/-- A new watchdog deadline (R393): the beat plus the period. -/
def armWatchdog (s : State) : State := s.wr 0x1203 0x02 (s.beat + s.rd 0x1203 0x01)

/-- Every loopback and array-test object is 0 (R445). -/
def State.testsIdle (s : State) : Bool :=
  s.rd 0x7F00 0x01 = 0 && ((List.range 6).all fun k => s.rd (0x7F10 + k) 0x01 = 0) &&
    ((List.range 8).all fun k => s.rd (0x7F20 + k) 0x01 = 0) && ((List.range 12).all fun k => s.rd (0x7F30 + k) 0x01 = 0) &&
    s.rd 0x7F40 0x04 ≠ 1

/-- The conditions of S1. -/
def State.atRest (s : State) : Bool :=
  (s.loadState = 0 || s.loadState = 5) && s.rd 0x3101 0x09 = 0 && s.fab.armed.isNone && s.testsIdle

/-- A calibration window waits, runs or falls due within n beats. -/
def State.windowWithin (s : State) (n : Nat) : Bool :=
  s.cal.current.isSome || !s.cal.waiting.isEmpty ||
    (List.range (n / s.frameLen + 1)).any fun k => !(s.dueWindows (s.frameStart + (k + 1) * s.frameLen)).isEmpty &&
      decide (s.frameStart + (k + 1) * s.frameLen ≤ s.beat + n)

/-- The conditions on which S1 becomes S2. -/
def State.mayDoze (s : State) : Bool :=
  decide (s.power.s1Since + 976563 ≤ s.beat) && ((List.range 8).all fun m => s.rd (0x1810 + m) 0x02 = 0) &&
    s.masthead.jobs.isEmpty && s.eth.blocks.isEmpty && !s.windowWithin 1024

/-- SLEEP_TRANSITION (R445, R446) at a frame boundary. In S2 Masthead, the sequencers and the security engine are off; a window
due within 128 beats raises a wake event, and a wake event leads back to S1 or, where its conditions have ended, to S0. -/
def sleepTransition (s : State) : State :=
  if !s.boot.ready || s.power.s3.isSome then s
  else
    let st := s.rd 0x2000 0x09
    if st = 0 then
      if s.atRest then (s.wr 0x2000 0x09 1).modPower fun x => { x with s1Since := s.beat } else s
    else if st = 1 then
      if !s.atRest then s.wr 0x2000 0x09 0
      else if s.mayDoze then
        let t := s.wr 0x2000 0x09 2
        { t with masthead := { t.masthead with on := false, wakeAt := none } }.modPower fun x => { x with awake := [] }
      else s
    else if st = 2 then
      let s := if s.windowWithin 128 || !s.atRest then raiseWake s else s
      match s.masthead.wakeAt with
      | none => s
      | some _ =>
        let t := (armWatchdog s).wr 0x2000 0x09 (if s.atRest then 1 else 0)
        { t with masthead := { t.masthead with on := true, wakeAt := none } }.modPower fun x => { x with s1Since := s.beat, awake := [] }
    else s

/-- A domain of R434 that S2 powers down and a wake event powers: Masthead, the sequencers and the security engine. -/
def dozes (domain : Nat) : Bool := decide (92 ≤ domain) && decide (domain ≤ 97)

/-- DOMAIN_WAKE (R396, R446): a domain that a wake event has reached runs, at the latest 64 beats after it; to a running domain the
event has no effect. -/
def domainWake (domain : Nat) (s : State) : State :=
  match s.masthead.wakeAt with
  | none => s
  | some b =>
    if !dozes domain || s.power.awake.contains domain then s
    else
      let s := s.late (b + 64)
      let s := s.modPower fun x => { x with awake := x.awake ++ [domain] }
      if domain = 92 then armWatchdog { s with masthead := { s.masthead with on := true } } else s

/-- The meaning of DOMAIN_WAKE. -/
def execDomainWake (domain : Nat) (s : State) : Res := doneQuiet s (domainWake domain s)

/-- A clock domain is on (R434, R445, R503). -/
def State.domainOn (s : State) (n : Nat) : Bool :=
  let sleep := s.rd 0x2000 0x09
  if s.power.s3.isSome then n = 98
  else if !s.boot.released then n = 98
  else if sleep = 0 then true
  else if n ≤ 24 || (25 ≤ n && n ≤ 56) || (60 ≤ n && n ≤ 67) then false
  else if sleep = 2 && dozes n then s.power.awake.contains n
  else true

/-- The state of a clock domain that object 0x2003 reports (R434, R435): 0 off, 1 running, 2 gated. Which running domains have no
work at a beat's first tick the manual leaves open, and a free value tells the two apart. -/
def State.domainState (s : State) (n : Nat) : Nat :=
  if s.domainOn n then 1 + Config.freeValue s.draws % 2 else 0

end Sys2Proof.Machine
end

