-- ==== Sys2Proof/Machine/Accept.lean ====
section
/-! DEFINITION. The acceptance rule of every object that can be written (R7, R376): the stated values that a row of the object table
cannot say, and what each chapter requires of the state. -/

namespace Sys2Proof.Machine
open Sys2Proof

/-- The value of an RWF object that the next frame boundary will find: the pending one, or the one in effect (R8). -/
def State.nextI (s : State) (index sub inst : Nat) : Nat :=
  match s.pend.find? fun x => x.1 = objKey index sub inst with
  | some x => x.2
  | none => s.rdI index sub inst

/-- The stated values of an object beyond the range of its row: burgee numbers, powers of two and whole multiples. -/
def statedOk (index sub v : Nat) : Bool :=
  if index = 0x1100 && sub = 5 then decide (v ≤ 7) || v = 0xFF
  else if index = 0x1111 && sub = 1 then decide (v ≤ 255) || v = 0xFFFF
  else if index = 0x1111 && (sub = 2 || sub = 3) then ringSizeOk v
  else if index = 0x1111 && sub = 0x0C then v % 4096 = 0
  else if index = 0x1400 && sub = 3 then decide (v ≤ 3) || v = 0xFF
  else if 0x4100 ≤ index && index ≤ 0x41FF && 1 ≤ sub && sub ≤ 10 then recipeValueOk sub v
  else if index = 0x5021 && sub = 1 then decide (v ≤ 255) || v = 0xFFFF
  else if index = 0x5021 && sub = 5 then v % 4096 = 0
  else if index = 0x6000 && sub = 2 then v % 1024 = 0
  else if index = 0x6000 && sub = 4 then v % 2 = 0
  else true

/-- The housekeeping sequence that would be pending after a write of entry e (R411). -/
def State.sequenceWith (s : State) (e ch : Nat) : List Nat :=
  (List.range 63).map fun i => if i = e then ch else s.nextI 0x2101 (i + 1) 0

/-- A sequence meets R411. -/
def sequenceOk (l : List Nat) : Bool :=
  ((List.range 28).all fun i => l.contains (33 + i)) &&
    [0, 61, 62].all fun ch => (l.take 32).contains ch && (l.drop 32).contains ch

/-- A burgee's CAP does not fall below its REFILL (R294). -/
def budgetOk (index sub v : Nat) (s : State) : Bool :=
  if sub = 2 then decide (v ≤ s.nextI index 3 0) else decide (s.nextI index 2 0 ≤ v)

/-- A context holds nothing that a change of its burgee would hand over (R273). -/
def contextEmpty (ctx : Nat) (s : State) : Bool :=
  !(s.table.any fun e => e.2.state ≠ 0 && e.2.context = ctx) && !(s.wins.any fun w => w.2.state ≠ 0 && w.2.ctx = ctx) &&
    !(s.bufs.any fun b => b.ctx = ctx)

/-- The inside of the device is free for a test: the load state is EMPTY or FAILED and every request entry is FREE (R390). -/
def State.insideFree (s : State) : Bool := (s.loadState = 0 || s.loadState = 5) && s.allFree

/-- A write of a loopback object finds its interface out of service (R390). -/
def loopbackOk (index v : Nat) (s : State) : Bool :=
  if index = 0x7F00 then v = 0 || s.allFree
  else if index ≤ 0x7F15 then v = 0 || !bitOf (s.rd 0x3000 0x02) (index - 0x7F10)
  else if index ≤ 0x7F27 then v % 4096 = 0 || s.insideFree
  else v = 0 || s.insideFree

/-- A request of an array test is accepted (R390, R516). -/
def arrayTestOk (s : State) : Bool :=
  let d := s.rd 0x7F40 0x02
  s.insideFree && s.rd 0x7F40 0x04 ≠ 1 && s.rd (0x7F20 + d) 0x01 = 0 && !(s.die d).lost

/-- Leaving half-mast by command is refused while the device is in doubt, and while a cause other than escalation holds (R470). -/
def leaveOk (s : State) : Bool :=
  s.fab.inDoubt.isNone && s.faults.causes.all fun c => c = 1

/-- A window's lease may be extended (R223, R228, R464). -/
def expiryOk (w : Nat) (c : WriteCtx) (s : State) : Bool :=
  (s.win w).state = 1 && decide ((s.win w).expiry < c.value) && decide (s.beat < (s.win w).expiry)

/-- What an object's own chapter requires of a write, once its type and row range hold (R376, R378). -/
def acceptOf (index sub : Nat) (c : WriteCtx) (s : State) : Bool :=
  let v := c.value
  statedOk index sub v &&
  (if index = 0x1111 then if sub = 9 then ringSwitchOk c s else s.rdI 0x1111 0x09 c.inst = 0
   else if index = 0x1201 && sub = 7 then frameArmOk c s
   else if index = 0x2101 then sequenceOk (s.sequenceWith (sub - 1) v)
   else if index = 0x3101 && sub = 7 then regionArmOk c s
   else if index = 0x3203 && sub = 1 then windowReason c.role (parseWinReq c.data) s = 0
   else if index = 0x3210 && sub = 1 then decide ((s.engine (s.rd 0x3210 0x02)).queue.length < 64)
   else if 0x3280 ≤ index && index ≤ 0x32FF then expiryOk (index - 0x3280) c s
   else if index = 0x4000 && sub = 0x10 then loadStartOk c s
   else if 0x4100 ≤ index && index ≤ 0x41FF then !s.loading
   else if index = 0x5021 && sub = 1 then contextEmpty c.inst s
   else if index = 0x5021 && (sub = 4 || sub = 5) then ringValueOk sub c s
   else if 0x5100 ≤ index && index ≤ 0x51FF && (sub = 2 || sub = 3) then budgetOk index sub v s
   else if index = 0x6000 then kvConfigOk sub c s
   else if index = 0x7002 && sub = 5 then leaveOk s
   else if index = 0x7F40 then if sub = 3 then arrayTestOk s else true
   else if 0x7F00 ≤ index && index ≤ 0x7F3B && sub = 1 then loopbackOk index v s
   else true)

end Sys2Proof.Machine
end

