-- ==== Sys2Proof/Machine/Stored.lean ====
section
/-! DEFINITION. The structures that the boot flash holds besides weight records: profiles (R403 to R405, R377) and the firmware image
with its key table (R477 to R481), and their checks. -/

namespace Sys2Proof.Machine
open Sys2Proof

/-! ## Profiles -/

/-- ASCII "PSITI-PR". -/
def profileMagic : Bytes := [0x50#8, 0x53#8, 0x49#8, 0x54#8, 0x49#8, 0x2D#8, 0x50#8, 0x52#8]

/-- LENGTH of a profile or firmware image: bytes 12 to 15. -/
def storedLength (b : Bytes) : Nat := leAt b 12 4

/-- What a signature covers: bytes 0 to LENGTH − 513. -/
def storedSigned (b : Bytes) : Bytes := b.take (storedLength b - 512)

/-- The signature: the last 512 of LENGTH bytes. -/
def storedSignature (b : Bytes) : Bytes := (b.drop (storedLength b - 512)).take 512

/-- One entry of a profile (R404). -/
structure ProfileEntry where
  index : Nat
  sub : Nat
  type : Nat
  value : Bytes
  deriving DecidableEq, Repr

/-- Bytes of an entry whose value is n bytes long: head, value and padding (R404). -/
def entrySize (n : Nat) : Nat := 8 + 8 * ceilDiv n 8

/-- Entries from the bytes after the header, and what is left after them. -/
def parseEntries : Nat → Bytes → List ProfileEntry × Bytes
  | 0, b => ([], b)
  | n + 1, b =>
    let v := leAt b 4 2
    let rest := parseEntries n (b.drop (entrySize v))
    (⟨leAt b 0 2, leAt b 2 1, leAt b 3 1, (b.drop 8).take v⟩ :: rest.1, rest.2)

/-- The entries of a profile. -/
def profileEntries (b : Bytes) : List ProfileEntry := (parseEntries (leAt b 10 2) (b.drop 64)).1

/-- The TYPE code of an object's type (R404). -/
def typeCode (row : ObjRow) : Nat :=
  match row.type with
  | .bool => 0
  | .uint => if row.len = 1 then 1 else if row.len = 2 then 2 else if row.len = 4 then 3 else 4
  | .int => if row.len = 4 then 5 else 6
  | .f32 => 7
  | .str => 8
  | .octets => 9
  | .domain => 10

/-- The value of an entry as a WRITE carries it: numbers most significant byte first (R374, R404). -/
def frameValue (row : ObjRow) (v : Bytes) : Bytes :=
  match row.type with
  | .str | .octets | .domain => v
  | _ => v.reverse

/-- The ranges that a profile may hold objects of (R377). -/
def profileRange (index : Nat) : Bool :=
  [0x11, 0x12, 0x20, 0x21, 0x22, 0x30, 0x31, 0x40, 0x50, 0x51, 0x60, 0x70].contains (index / 0x100)

/-- An entry names a present RW or RWF object of those ranges, with its type and a value that it accepts (R405). -/
def entryOk (e : ProfileEntry) : Bool :=
  match objRow e.index e.sub with
  | none => false
  | some row =>
    profileRange e.index && (row.access = .rw || row.access = .rwf) && e.type = typeCode row && !typeBad row false e.value.length &&
      !rangeBad row (frameValue row e.value) &&
      (row.type = .str || row.type = .octets || statedOk e.index e.sub (beNat (frameValue row e.value)))

/-- The selector values that an entry leaves: of rings and of contexts (R407). -/
def nextSelectors (sel : Nat × Nat) (e : ProfileEntry) : Nat × Nat :=
  if e.index = 0x1110 && e.sub = 1 then (leNat e.value, sel.2)
  else if e.index = 0x5020 && e.sub = 1 then (sel.1, leNat e.value)
  else sel

/-- The instance that an entry acts on under the profile's own selectors (R407). -/
def entryInst (sel : Nat × Nat) (e : ProfileEntry) : Nat :=
  if e.index = 0x1111 then sel.1 else if e.index = 0x5021 then sel.2 else 0

/-- Keys of the objects that entries name; a selector may be set more than once (R405, R407). -/
def entryKeys : Nat × Nat → List ProfileEntry → List Nat
  | _, [] => []
  | sel, e :: es =>
    let rest := entryKeys (nextSelectors sel e) es
    if (e.index = 0x1110 && e.sub = 1) || (e.index = 0x5020 && e.sub = 1) then rest
    else objKey e.index e.sub (entryInst sel e) :: rest

/-- Check 1 of R405: the signature is valid under an accepted key for profiles (R478). -/
def profileSigned (b : Bytes) (s : State) : Bool :=
  match s.keyFor (leAt b 16 8) 1 with
  | some n => Config.rsaPssVerify n (storedSigned b) (storedSignature b)
  | none => false

/-- Check 2 of R405. -/
def profileFormed (b : Bytes) : Bool :=
  let n := leAt b 10 2
  let p := parseEntries n (b.drop 64)
  b.take 8 = profileMagic && leAt b 8 2 = 1 && storedLength b = b.length && decide (576 ≤ b.length) && decide (b.length ≤ 65536) &&
    decide (n ≤ 4096) && p.2.length = 512 && p.1.all entryOk && decide ((entryKeys (0, 0) p.1).Nodup)

/-- The first failing check of a profile before its flash write: 2 SIGNATURE, 3 FORMAT; 0 where both pass. -/
def profileFails (b : Bytes) (s : State) : Nat :=
  if !profileSigned b s then 2 else if !profileFormed b then 3 else 0

/-- The digest that a slot's object shows (R403). -/
def profileDigest (b : Bytes) : Bytes := Config.sha512 (storedSigned b)

/-! ## The firmware image -/

/-- ASCII "PSITI-FW". -/
def firmwareMagic : Bytes := [0x50#8, 0x53#8, 0x49#8, 0x54#8, 0x49#8, 0x2D#8, 0x46#8, 0x57#8]

/-- KEY_COUNT. -/
def keyCount (b : Bytes) : Nat := leAt b 10 2

/-- SVN. -/
def imageSvn (b : Bytes) : Nat := leAt b 20 2

/-- ROOT_MODULUS. -/
def rootModulus (b : Bytes) : Bytes := (b.drop 64).take 512

/-- The key table's bytes. -/
def keyTableOf (b : Bytes) : Bytes := (b.drop 576).take (1024 * keyCount b)

/-- The part directory's three entries as (TYPE, OFFSET, LENGTH). -/
def partsOf (b : Bytes) : List (Nat × Nat × Nat) :=
  (List.range 3).map fun i =>
    let o := 576 + 1024 * keyCount b + 16 * i
    (leAt b o 1, leAt b (o + 4) 4, leAt b (o + 8) 4)

/-- A KEY_ID from a modulus (R477). -/
def keyIdOf (modulus : Bytes) : Nat := leAt (Config.sha512 (Config.derKey modulus)) 0 8

/-- Check 1 of R481: the parts of each of the three types lie between the directory and the signature. -/
def firmwareFormed (b : Bytes) : Bool :=
  let k := keyCount b
  let first := 576 + 1024 * k + 64
  let ps := partsOf b
  b.take 8 = firmwareMagic && leAt b 8 2 = 1 && decide (1 ≤ k) && decide (k ≤ 16) && storedLength b ≤ b.length &&
    decide (storedLength b ≤ 33554432) && decide (first + 512 ≤ storedLength b) && decide (imageSvn b ≤ 63) &&
    ([1, 2, 3].all fun t => ps.any fun p => p.1 = t) &&
    ps.all fun p => decide (first ≤ p.2.1) && decide (p.2.1 + p.2.2 ≤ storedLength b - 512)

/-- Check 5 of R481: each key-table entry's KEY_ID matches its modulus (R480). -/
def keysMatch (b : Bytes) : Bool :=
  (List.range (keyCount b)).all fun i =>
    let e := (keyTableOf b).drop (1024 * i)
    leAt e 0 8 = keyIdOf ((e.drop 16).take 512)

/-- The five checks of R481 pass. -/
def firmwareOk (b : Bytes) (s : State) : Bool :=
  firmwareFormed b && Config.sha512 (Config.derKey (rootModulus b)) = Config.rootHash &&
    Config.rsaPssVerify (rootModulus b) (storedSigned b) (storedSignature b) && decide (s.sec.minSvn ≤ imageSvn b) && keysMatch b

/-- The accepted keys of an image as (KEY_ID, USAGE) (R478, R480). -/
def imageKeys (b : Bytes) : List (Nat × Nat) :=
  (List.range (keyCount b)).map fun i =>
    let e := (keyTableOf b).drop (1024 * i)
    (leAt e 0 8, leAt e 8 1 % 8)

end Sys2Proof.Machine
end

