-- ==== Sys2Proof/Machine/Masthead.lean ====
section
/-! DEFINITION. Masthead: the watchdog and its restarts (R393, R466), host mailboxes, pennants and notices (R395 to R402), stored
profiles and firmware updates (R405, R483, R484), commanded resets (R408, R485), the fault log (R474), leaving half-mast (R470) and
requested context resets (R461). -/

namespace Sys2Proof.Machine
open Sys2Proof

/-- The Masthead record changed. -/
def State.modMast (s : State) (f : Masthead → Masthead) : State := { s with masthead := f s.masthead }

/-! ## The watchdog (R393, R466) -/

/-- WATCHDOG_DEADLINE (R466): a missed deadline restarts Masthead, and a second restart within 1,048,576 beats resets the device
with cause 2. A domain that is off or restarting misses none. -/
def watchdogDeadline (s : State) : State :=
  let d := s.rd 0x1203 0x02
  if !s.boot.ready || !s.masthead.on || s.beat < d then s
  else
    let s := restartMasthead 15 (s.late d)
    if s.power.resetDue = some 3 then beginReset 2 false s else s

/-- The meaning of WATCHDOG_DEADLINE. -/
def execWatchdogDeadline (s : State) : Res := done s (watchdogDeadline s)

/-- MASTHEAD_RESTART_COMPLETE (R466): within 156,250 beats of the restart Masthead runs again, under a fresh deadline. -/
def mastheadRestartComplete (s : State) : State :=
  match s.masthead.restartEnd with
  | none => s
  | some e => armWatchdog ((s.late e).modMast fun m => { m with on := true, restartEnd := none })

/-- The meaning of MASTHEAD_RESTART_COMPLETE. -/
def execMastheadRestartComplete (s : State) : Res := doneQuiet s (mastheadRestartComplete s)

/-- WATCHDOG_RENEW (R393). -/
def watchdogRenew (s : State) : State := if s.boot.ready && s.masthead.on then armWatchdog s else s

/-- The meaning of WATCHDOG_RENEW. -/
def execWatchdogRenew (s : State) : Res := doneQuiet s (watchdogRenew s)

/-! ## Pennants (R396 to R401) -/

/-- The outcome of a mailbox write counted (R398). -/
def countPennant (status : Nat) (s : State) : State :=
  if status = 0 then s.bump 0x1800 0x02 1 else if status = 5 then s.bump 0x1800 0x03 1 else if status = 6 then s.bump 0x1800 0x04 1
  else s

/-- The word stored in host mailbox m, and FULL set (R396). -/
def storeWord (m word : Nat) (s : State) : State := (s.wr (0x1810 + m) 0x01 word).wr (0x1810 + m) 0x02 1

/-- A write of a host mailbox, judged by R378 and counted (R396, R398). -/
def mailboxWrite (r : DictReq) (m : Nat) (data : Bytes) (s : State) : Nat × Bytes × State :=
  let a := judgeWrite r (0x1810 + m) 0x01 false data (fun _ _ => true) (fun _ c s => storeWord m c.value s) (fun _ s => s) s
  (a.1, a.2.1, countPennant a.1 a.2.2)

/-- PENNANT (R379, R398): a WRITE of object 0x1810 + m:01; a mailbox number from 8 upward is answered RANGE. -/
def pennant (r : DictReq) (m : Nat) (word : Word) (s : State) : State :=
  dictServe r (fun s =>
    if 8 ≤ m then ((if (roleOf s r).isNone then 7 else 3), [], s)
    else mailboxWrite r m (beBytes 4 word.toNat) s) s

/-- The meaning of PENNANT. -/
def execPennant (r : DictReq) (mailbox : Nat) (word : Word) (s : State) : Res := doneQuiet s (pennant r mailbox word s)

/-- CODE of a word (R399). -/
def wordCode (w : Nat) : Nat := w / 0x1000000 % 0x100

/-- TAG of a word. -/
def wordTag (w : Nat) : Nat := w / 0x10000 % 0x100

/-- ARG or VALUE of a word. -/
def wordArg (w : Nat) : Nat := w % 0x10000

/-- A word from Masthead written to mailbox m, with FULL set (R399). -/
def writeWord (m code tag value : Nat) (s : State) : State :=
  (s.wr (0x1818 + m) 0x01 (code % 0x100 * 0x1000000 + tag % 0x100 * 0x10000 + value % 0x10000)).flag (0x1818 + m) 0x02 0

/-- The word taken from mailbox m that waits for its answer. -/
def State.takenWord (s : State) (m : Nat) : Option Nat := (s.masthead.taken.find? fun t => t.1 = m).map fun t => t.2.toNat

/-- The answer to mailbox m's taken word (R401). -/
def answerWord (m code value : Nat) (s : State) : State :=
  match s.takenWord m with
  | none => s
  | some w => (writeWord m code (wordTag w) value s).modMast fun x => { x with taken := x.taken.filter fun t => t.1 ≠ m }

/-- Masthead carries out a word's code with its argument (R400). -/
def wordOk (w : Nat) : Bool :=
  wordCode w = 1 || ((wordCode w = 2 || wordCode w = 3) && wordArg w = 0) || (wordCode w = 4 && decide (wordArg w ≤ 7))

/-- A full calibration window of a die requested by CAL_DIE (R400, R422). -/
def requestWindow (m w : Nat) (s : State) : State :=
  if wordCode w ≠ 4 || (s.die (wordArg w)).lost then s
  else s.modCal fun c => { c with
    waiting := addWindow ⟨wordArg w, true, s.nextBoundary s.beat, false, some m, none, 0⟩ c.waiting }

/-- MAILBOX_TAKE (R397, R401): Masthead takes the word of host mailbox m when every earlier word of it is answered and the answer
has been read; what it does not carry out is refused at once (R400). -/
def mailboxTake (m : Nat) (s : State) : State :=
  if 8 ≤ m || !s.masthead.on || s.rd (0x1810 + m) 0x02 = 0 || (s.takenWord m).isSome || bitOf (s.rd (0x1818 + m) 0x02) 0 then s
  else
    let w := s.rd (0x1810 + m) 0x01
    let s := (s.wr (0x1810 + m) 0x02 0).modMast fun x => { x with taken := x.taken ++ [(m, BitVec.ofNat 32 w)] }
    if !wordOk w then answerWord m 0x7F (wordCode w) s else s

/-- The meaning of MAILBOX_TAKE. -/
def execMailboxTake (mailbox : Nat) (s : State) : Res := doneQuiet s (mailboxTake mailbox s)

/-- Masthead acts on the taken word of mailbox m where it has a code. -/
def actOn (m code : Nat) (act : Nat → State → State) (s : State) : State :=
  match s.takenWord m with
  | none => s
  | some w => if !s.masthead.on || wordCode w ≠ code || !wordOk w then s else act w s

/-- The meaning of ECHO (R400). -/
def execEcho (mailbox : Nat) (s : State) : Res := doneQuiet s (actOn mailbox 1 (fun w s => answerWord mailbox 1 (wordArg w) s) s)

/-- The meaning of STATUS (R400): the mode and the load state. -/
def execStatus (mailbox : Nat) (s : State) : Res :=
  doneQuiet s (actOn mailbox 2 (fun _ s => answerWord mailbox 2 (s.rd 0x1000 0x08 * 0x100 + s.rd 0x4000 0x11) s) s)

/-- The meaning of LOG_FLUSH (R400): answered once no record is held in Masthead's SRAM. -/
def execLogFlush (mailbox : Nat) (s : State) : Res :=
  doneQuiet s (actOn mailbox 3 (fun _ s => if s.recsHeld.isEmpty then answerWord mailbox 3 s.flash.log.length s else s) s)

/-- The window that a CAL_DIE of mailbox m waits for. -/
def State.windowFor (s : State) (m : Nat) : Bool :=
  (s.cal.waiting.any fun w => w.answer = some m) || (s.cal.current.any fun w => w.answer = some m)

/-- CAL_DIE (R400): the die's FULL window is scheduled, once for a taken word; the window's end answers it. -/
def calDie (m : Nat) (s : State) : State :=
  actOn m 4 (fun w s => if s.windowFor m then s else requestWindow m w s) s

/-- The meaning of CAL_DIE. -/
def execCalDie (mailbox : Nat) (s : State) : Res := doneQuiet s (calDie mailbox s)

/-- NOTICE (R402): the waiting notice of the lowest code goes into mailbox 7 while that holds no answer and no word waits. -/
def notice (s : State) : State :=
  match s.masthead.notices with
  | [] => s
  | (code, value, count) :: rest =>
    if !s.masthead.on || bitOf (s.rd 0x181F 0x02) 0 || s.rd 0x1817 0x02 = 1 || (s.takenWord 7).isSome then s
    else writeWord 7 code count value (s.modMast fun m => { m with notices := rest })

/-- The meaning of NOTICE. -/
def execNotice (s : State) : Res := doneQuiet s (notice s)

/-! ## Profiles and firmware (R405, R483, R484) -/

/-- A store's result, and its notice (R402, R405). -/
def storeResult (slot result : Nat) (s : State) : State := (s.wr 0x1400 0x06 result).notice 0x81 (slot * 0x100 + result)

/-- A profile accepted for the slot in object 0x1400:04: checked, and its flash write queued (R405, R484). -/
def acceptProfile (data : Bytes) (s : State) : State :=
  let slot := s.rd 0x1400 0x04
  let s := s.wr 0x1400 0x06 0
  match profileFails data s with
  | 0 => s.modMast fun m => { m with jobs := m.jobs ++ [.profile slot data] }
  | n => storeResult slot n s

/-- The meaning of PROFILE_STORE: a whole profile written to object 0x1400:05. -/
def execProfileStore (r : DictReq) (data : Bytes) (s : State) : Res :=
  doneQuiet s (dictBlock r 0x1400 0x05 data (fun _ _ => true) (fun _ c s => acceptProfile c.data s) s)

/-- PROFILE_STORE_COMPLETE (R405): Masthead's flash write of the first waiting job has ended; a failed one leaves the slot. -/
def profileStoreComplete (flashOk : Bool) (s : State) : State :=
  match s.masthead.jobs with
  | .profile slot data :: rest =>
    if !s.masthead.on then s
    else
      let s := s.modMast fun m => { m with jobs := rest }
      if flashOk then
        storeResult slot 1 ({ s with flash := { s.flash with profiles := s.flash.profiles.set slot data } }.putOct 0x1400 (0x07 + slot) 0
          (profileDigest data))
      else storeResult slot 4 s
  | _ => s

/-- The meaning of PROFILE_STORE_COMPLETE. -/
def execProfileStoreComplete (flashOk : Bool) (s : State) : Res := done s (profileStoreComplete flashOk s)

/-- A state of the firmware update, and its notice (R402, R483). -/
def updateState (v : Nat) (s : State) : State := (s.wr 0x1400 0x0D v).notice 0x82 v

/-- A whole firmware image accepted: verified by R481, then writing or failed (R483). -/
def acceptFirmware (data : Bytes) (s : State) : State :=
  let s := updateState 2 s
  if firmwareOk data s then updateState 3 (s.modMast fun m => { m with jobs := m.jobs ++ [.firmware data] }) else updateState 5 s

/-- The meaning of FIRMWARE_UPDATE: a whole image written to object 0x1400:0C. -/
def execFirmwareUpdate (r : DictReq) (data : Bytes) (s : State) : Res :=
  doneQuiet s (dictBlock r 0x1400 0x0C data (fun _ _ => true) (fun _ c s => acceptFirmware c.data s) s)

/-- FIRMWARE_WRITE_COMPLETE (R483, R486): the flash holds what the read-back shows, which is compared with the held copy. -/
def firmwareWriteComplete (readback : Bytes) (s : State) : State :=
  match s.masthead.jobs with
  | .firmware image :: rest =>
    if !s.masthead.on && !s.boot.recovery then s
    else
      let s := s.modMast fun m => { m with jobs := rest }
      updateState (if readback = image then 4 else 5) { s with flash := { s.flash with firmware := readback } }
  | _ => s

/-- The meaning of FIRMWARE_WRITE_COMPLETE. -/
def execFirmwareWriteComplete (readback : Bytes) (s : State) : Res := done s (firmwareWriteComplete readback s)

/-! ## Commanded resets (R408, R485) -/

/-- A write of object 0x1400:0B: 1 resets at the next frame boundary, 2 resets into recovery mode. -/
def resetCommand (c : WriteCtx) (s : State) : State := s.modPower fun p => { p with resetDue := some c.value }

/-- The meaning of DEVICE_RESET_COMMAND. -/
def execDeviceResetCommand (r : DictReq) (data : Bytes) (s : State) : Res :=
  doneQuiet s (dictWrite r 0x1400 0x0B data (fun c _ => c.value = 1) (fun _ c s => resetCommand c s) s)

/-- The meaning of RECOVERY_RESET_COMMAND. -/
def execRecoveryResetCommand (r : DictReq) (data : Bytes) (s : State) : Res :=
  doneQuiet s (dictWrite r 0x1400 0x0B data (fun c _ => c.value = 2) (fun _ c s => resetCommand c s) s)

/-! ## The fault log (R474) -/

/-- FAULT_RECORD_WRITE (R474, R484): the first waiting flash write is a record, and it enters the log, or is counted where the log
is full. -/
def faultRecordWrite (s : State) : State :=
  match s.masthead.jobs with
  | .record r :: rest =>
    if !s.masthead.on then s
    else
      let s := s.modMast fun m => { m with jobs := rest }
      if s.flash.log.length < 1024 then
        let s := { s with flash := { s.flash with log := s.flash.log ++ [r] } }.send (.logged r)
        s.notice 0x80 s.flash.log.length
      else s.bump 0x7000 0x02 1
  | _ => s

/-- The meaning of FAULT_RECORD_WRITE. -/
def execFaultRecordWrite (s : State) : Res := done s (faultRecordWrite s)

/-- LOG_ERASE (R474): the log is erased at the next frame boundary. -/
def logErase (s : State) : State := s.modMast fun m => { m with eraseDue := true }

/-- The meaning of LOG_ERASE: a write of 1 to object 0x7000:05. -/
def execLogErase (r : DictReq) (data : Bytes) (s : State) : Res :=
  doneQuiet s (dictWrite r 0x7000 0x05 data (fun _ _ => true) (fun _ _ s => logErase s) s)

/-! ## Half-mast and context resets (R461, R470) -/

/-- The device leaves half-mast at the next frame boundary. -/
def leaveNext (s : State) : State := { s with faults := { s.faults with leaveDue := true } }

/-- The meaning of LEAVE_HALF_MAST: a write of 1 to object 0x7002:05 (R470). -/
def execLeaveHalfMast (r : DictReq) (data : Bytes) (s : State) : Res :=
  doneQuiet s (dictWrite r 0x7002 0x05 data (acceptOf 0x7002 0x05) (fun _ _ s => leaveNext s) s)

/-- HALF_MAST_WINDOW_EXPIRY (R470): an entry caused by escalation alone and not held ends once the window has passed. -/
def halfMastWindowExpiry (s : State) : State :=
  match s.faults.hmEntered with
  | none => s
  | some b =>
    if s.rd 0x7001 0x07 = 1 && (s.faults.causes.all fun c => c = 1) && !s.faults.causes.isEmpty &&
      decide (b + s.rd 0x7002 0x02 ≤ s.beat) then leaveNext s else s

/-- The meaning of HALF_MAST_WINDOW_EXPIRY. -/
def execHalfMastWindowExpiry (s : State) : Res := doneQuiet s (halfMastWindowExpiry s)

/-- The meaning of CONTEXT_RESET_REQUEST: a context number written to object 0x7003:02 (R461). -/
def execContextResetRequest (r : DictReq) (data : Bytes) (s : State) : Res :=
  doneQuiet s (dictWrite r 0x7003 0x02 data (fun _ _ => true) (fun _ c s => resetContextCause c.value false s) s)

end Sys2Proof.Machine
end

