-- ==== Sys2Proof/Machine/Security.lean ====
section
/-! DEFINITION. The security engine's SPDM sessions and measurements (R367, R488 to R493), secured messages, and the end of sessions. -/

namespace Sys2Proof.Machine
open Sys2Proof

/-- The security record changed. -/
def State.modSec (s : State) (f : Sec → Sec) : State := { s with sec := f s.sec }

/-- An SPDM request reaches the responder's queue and is answered by `body` (R364, R505): before the device is ready every one is
answered ERROR Busy; in S2 it wakes the engine (R446). -/
def spdmServe (xid : Nat) (session : Option Nat) (body : State → State) (s : State) : State :=
  if !s.dictUp then s
  else if 1088 ≤ s.backlog then s.bump 0x1105 0x03 1
  else
    let s := raiseWake ((s.enqueueRequest).bump 0x1105 0x01 1)
    if !s.boot.ready && !s.boot.recovery then s.send (.spdm xid session "ERROR Busy" [])
    else body s

/-- A secured message that names no open session, or fails its check, is answered SESSION (R366). -/
def answerSession (xid : Nat) (s : State) : State :=
  ((s.send (.dict xid none 7 false [])).bump 0x1105 0x02 1).bump 0x7800 0x07 1

/-- The session is open. -/
def State.sessionOpen (s : State) (id : Nat) : Bool := s.sec.sessions.any fun x => x.id = id && x.opened

/-- A session ends, and its open block writes with it (R491). -/
def endSessionNow (id : Nat) (s : State) : State :=
  let s := s.modSec fun x => { x with
    sessions := x.sessions.filter fun y => y.id ≠ id, sigQueue := x.sigQueue.filter fun q => q.session ≠ some id }
  { s with eth := { s.eth with blocks := s.eth.blocks.filter fun b => b.2.1 ≠ some id } }

/-- SECURED (R367): a message that passes its check keeps its session alive, and its inner frame is served as its own command in
the session's role; any other is answered SESSION. -/
def secured (session xid : Nat) (intact : Bool) (s : State) : State :=
  if !s.dictUp then s
  else if s.sessionOpen session && intact then s.modSession session fun x => { x with lastBeat := s.beat }
  else if 1088 ≤ s.backlog then s.bump 0x1105 0x03 1
  else answerSession xid ((s.enqueueRequest).bump 0x1105 0x01 1)

/-- The meaning of SECURED. -/
def execSecured (session xid : Nat) (intact : Bool) (s : State) : Res := doneQuiet s (secured session xid intact s)

/-! ## Certificates and algorithms (R488, R489) -/

/-- GET_CERTIFICATE (R488): a portion of slot 0's chain and the bytes that remain after it. -/
def getCertificate (xid offset length : Nat) (s : State) : State :=
  spdmServe xid none (fun s =>
    let c := Config.certificateChain
    if c.length < offset then s.send (.spdm xid none "ERROR" [])
    else s.send (.spdm xid none "CERTIFICATE"
      [(c.drop offset).take length, leBytes 2 (((c.drop offset).drop length).length)])) s

/-- The meaning of GET_CERTIFICATE. -/
def execGetCertificate (xid offset length : Nat) (s : State) : Res := doneQuiet s (getCertificate xid offset length s)

/-- The bits of SPDM 1.2 that name the algorithms of R489: TPM_ALG_RSASSA_4096, TPM_ALG_SHA_512, ffdhe4096, AES-256-GCM, the SPDM
key schedule. PRESUMED: their bit numbers are the standard's. -/
def algorithmBits : List Nat := [5, 2, 2, 1, 0]

/-- NEGOTIATE_ALGORITHMS (R489): only the device's own algorithms are selected; an offer of none of them receives an ERROR. -/
def negotiateAlgorithms (xid : Nat) (offer : List Nat) (s : State) : State :=
  spdmServe xid none (fun s =>
    let common := (offer.zip algorithmBits).map fun x => bitOf x.1 x.2
    if !common.any id then s.send (.spdm xid none "ERROR" [])
    else
      (s.modSec fun x => { x with algOk := common.all id }).send (.spdm xid none "ALGORITHMS"
        ((common.zip algorithmBits).map fun x => leBytes 4 (if x.1 then 2 ^ x.2 else 0)))) s

/-- The meaning of NEGOTIATE_ALGORITHMS. -/
def execNegotiateAlgorithms (xid asym hash dhe aead sched : Nat) (s : State) : Res :=
  doneQuiet s (negotiateAlgorithms xid [asym, hash, dhe, aead, sched] s)

/-! ## Sessions (R489 to R491) -/

/-- The device offers sessions: its ensign key is unwrapped, and no private instruction has been loaded (R487, R524). -/
def State.offersSessions (s : State) : Bool := s.sec.ensign && !s.sec.privUsed

/-- The lowest session number that no session has. -/
def State.freeSession (s : State) : Option Nat :=
  (List.range 64).find? fun i => !(s.sec.sessions.any fun x => x.id = i)

/-- KEY_EXCHANGE (R489, R491): a session is set up with mutual authentication, and its signed response waits for the engine; where
all 64 sessions or all 64 places of the signature queue are taken it is answered ERROR Busy. -/
def keyExchange (xid : Nat) (s : State) : State :=
  spdmServe xid none (fun s =>
    if !s.offersSessions || !s.sec.algOk then s.send (.spdm xid none "ERROR" [])
    else
      match s.freeSession with
      | none => s.send (.spdm xid none "ERROR Busy" [])
      | some i =>
        if 64 ≤ s.sec.sigQueue.length then s.send (.spdm xid none "ERROR Busy" [])
        else s.modSec fun x => { x with
          sessions := x.sessions ++ [⟨i, false, 2, 0, none, (0, false, []), s.beat, 0, 0, 0, 0, 0xFFFF⟩]
          sigQueue := x.sigQueue ++ [⟨1, xid, some i, [], []⟩] }) s

/-- The meaning of KEY_EXCHANGE. -/
def execKeyExchange (xid : Nat) (s : State) : Res := doneQuiet s (keyExchange xid s)

/-- ASCII "psiti-". -/
def namePrefix : Bytes := [0x70#8, 0x73#8, 0x69#8, 0x74#8, 0x69#8, 0x2D#8]

/-- A decimal digit. -/
def digitOf (b : Byte) : Option Nat := if 0x30 ≤ b.toNat && b.toNat ≤ 0x39 then some (b.toNat - 0x30) else none

/-- The role and burgee that a leaf's commonName sets (R490): psiti-op operator, psiti-obs observer, psiti-t001 to psiti-t255 tenant. -/
def roleOfName (name : Bytes) : Option (Nat × Nat) :=
  if name = namePrefix ++ [0x6F#8, 0x70#8] then some (0, 0)
  else if name = namePrefix ++ [0x6F#8, 0x62#8, 0x73#8] then some (2, 0)
  else if name.take 7 = namePrefix ++ [0x74#8] && name.length = 10 then
    match (name.drop 7).map digitOf with
    | [some a, some b, some c] =>
      let n := 100 * a + 10 * b + c
      if 1 ≤ n && n ≤ 255 then some (1, n) else none
    | _ => none
  else none

/-- The requester chain's root key is accepted (R477, R485, R490): a key-table entry for sessions, and in recovery mode the Ronnar
root key alone. -/
def rootOk (rootKey : Nat) (s : State) : Bool :=
  if s.boot.recovery then rootKey = leAt Config.rootHash 0 8 else (s.keyFor rootKey 2).isSome

/-- FINISH (R489, R490): the chain sets the session's role, or the handshake ends with an ERROR that is counted. -/
def finish (session xid : Nat) (name : Bytes) (rootKey : Nat) (chainOk : Bool) (s : State) : State :=
  spdmServe xid (some session) (fun s =>
    if !s.sec.sessions.any fun x => x.id = session && !x.opened then s.send (.spdm xid (some session) "ERROR" [])
    else
      match roleOfName name with
      | some (role, b) =>
        if chainOk && rootOk rootKey s && (!s.boot.recovery || role = 0) then
          ((s.modSession session fun x => { x with opened := true, role := role, burgee := b, lastBeat := s.beat }).bump
            0x7800 0x05 1).send (.spdm xid (some session) "FINISH_RSP" [])
        else ((endSessionNow session s).bump 0x7800 0x06 1).send (.spdm xid (some session) "ERROR" [])
      | none => ((endSessionNow session s).bump 0x7800 0x06 1).send (.spdm xid (some session) "ERROR" [])) s

/-- The meaning of FINISH. -/
def execFinish (session xid : Nat) (name : Bytes) (rootKey : Nat) (chainOk : Bool) (s : State) : Res :=
  doneQuiet s (finish session xid name rootKey chainOk s)

/-- END_SESSION (R491). -/
def endSession (session xid : Nat) (s : State) : State :=
  spdmServe xid (some session) (fun s =>
    if s.sessionOpen session then (endSessionNow session s).send (.spdm xid (some session) "END_SESSION_ACK" [])
    else answerSession xid s) s

/-- The meaning of END_SESSION. -/
def execEndSession (session xid : Nat) (s : State) : Res := doneQuiet s (endSession session xid s)

/-- Beats after which a session without a secured message ends (R491): 60 s. -/
def sessionBeats : Nat := 58593750

/-- SESSION_TIMEOUT (R491). -/
def sessionTimeout (session : Nat) (s : State) : State :=
  match s.session? session with
  | none => s
  | some x => if s.beat < x.lastBeat + sessionBeats then s else endSessionNow session (s.late (x.lastBeat + sessionBeats))

/-- The meaning of SESSION_TIMEOUT. -/
def execSessionTimeout (session : Nat) (s : State) : Res := doneQuiet s (sessionTimeout session s)

/-- The meaning of SESSION_CLOSE: a session number written to object 0x7800:08 (R491). -/
def execSessionClose (r : DictReq) (data : Bytes) (s : State) : Res :=
  doneQuiet s (dictWrite r 0x7800 0x08 data (fun _ _ => true) (fun _ c s => endSessionNow c.value s) s)

/-! ## Measurements (R492, R493) -/

/-- The digest object of the profile in effect (R492). -/
def State.profileInEffect (s : State) : Bytes := s.oct? 0x1400 (0x07 + s.rd 0x1400 0x01 % 4) 0 (zeros 64)

/-- The six measurement blocks as they stand (R492). -/
def State.measurements (s : State) : List Bytes :=
  [s.oct? 0x1000 0x07 0 (zeros 64), Config.sha512 s.sec.keyTable, s.profileInEffect,
    if s.loadState = 4 then s.oct? 0x4001 0x01 0 (zeros 64) else zeros 64, s.oct? 0x7800 0x03 0 (zeros 64),
    Config.sha512 (leBytes 4 Config.bootRomVersion ++ leBytes 1 s.sec.minSvn ++ leBytes 1 (b2n s.sec.privUsed) ++ zeros 2)]

/-- GET_MEASUREMENTS (R491, R492): the blocks as they stand wait for the ensign key's signature; served in and outside a session. -/
def getMeasurements (session : Option Nat) (xid : Nat) (nonce : Bytes) (s : State) : State :=
  spdmServe xid session (fun s =>
    if session.any fun i => !s.sessionOpen i then answerSession xid s
    else if !s.offersSessions then s.send (.spdm xid session "ERROR" [])
    else if 64 ≤ s.sec.sigQueue.length then s.send (.spdm xid session "ERROR Busy" [])
    else s.modSec fun x => { x with sigQueue := x.sigQueue ++ [⟨0, xid, session, nonce, s.measurements⟩] }) s

/-- The meaning of GET_MEASUREMENTS. -/
def execGetMeasurements (session : Option Nat) (xid : Nat) (nonce : Bytes) (s : State) : Res :=
  doneQuiet s (getMeasurements session xid nonce s)

/-- RESPONSE_SIGNED (R491): the engine has signed the first waiting response and sends it. -/
def responseSigned (s : State) : State :=
  match s.sec.sigQueue with
  | [] => s
  | q :: rest =>
    if !s.offersSessions || !s.domainOn 97 then s
    else
      let content := if q.kind = 0 then q.blocks else [leBytes 2 (q.session.getD 0)]
      (s.modSec fun x => { x with sigQueue := rest }).send
        (.spdm q.xid (if q.kind = 0 then q.session else none) (if q.kind = 0 then "MEASUREMENTS" else "KEY_EXCHANGE_RSP")
          (content ++ [Config.sign (content.flatten ++ q.nonce)]))

/-- The meaning of RESPONSE_SIGNED. -/
def execResponseSigned (s : State) : Res := doneQuiet s (responseSigned s)

end Sys2Proof.Machine
end

