-- ==== Sys2Proof/Machine/TestAccess.lean ====
section
/-! DEFINITION. Loopbacks (R390, R391, R510 to R515), array self-tests (R516 to R519) and the test access port (R520 to R524). What
the pattern traffic of a loopback meets comes with the frame boundary. -/

namespace Sys2Proof.Machine
open Sys2Proof

/-! ## Loopbacks -/

/-- The Ethernet loopback: it ends by itself after the duration in effect, and the port carries no other frame until it has
retrained (R390, R391, R513). -/
def setEthLoopback (v : Nat) (s : State) : State :=
  let s := s.wr 0x7F00 0x01 v
  if v = 0 then s.wr 0x7F00 0x03 0 else ((s.wr 0x7F00 0x03 (s.beat + s.rd 0x7F00 0x02)).wr 0x1100 0x03 0)

/-- A loopback object stored; reserved bits read as zero (R390). -/
def setLoopback (index v : Nat) (s : State) : State :=
  if index = 0x7F00 then setEthLoopback v s
  else if 0x7F20 ≤ index && index ≤ 0x7F27 then s.wr index 0x01 (v % 4096)
  else s.wr index 0x01 v

/-- A loopback object. -/
def isLoopback (index : Nat) : Bool :=
  index = 0x7F00 || (0x7F10 ≤ index && index ≤ 0x7F15) || (0x7F20 ≤ index && index ≤ 0x7F27) || (0x7F30 ≤ index && index ≤ 0x7F3B)

/-- What an interface in loopback has met is counted (R510): frames of the port, flits of a link, and from depth 2 on the codewords
of either; bits of a memory or a die-to-die module. -/
def countLoop (s : State) (c : LoopCount) : State :=
  let depth := s.rd c.index 0x01
  if !isLoopback c.index || depth = 0 then s
  else if c.index = 0x7F00 then
    if depth = 4 then s
    else
      let s := (s.bump 0x1100 0x07 c.checked).bump 0x1100 0x06 (c.checked - c.errors)
      if depth = 1 then s else (s.bump 0x1100 0x08 c.corrected).bump 0x1100 0x09 c.uncorrectable
  else if c.index ≤ 0x7F15 then
    let s := (s.bump c.index 0x02 c.checked).bump c.index 0x03 c.errors
    let link := 0x3010 + (c.index - 0x7F10)
    if depth = 1 then s else (s.bump link 0x06 c.corrected).bump link 0x07 c.uncorrectable
  else s.bump c.index 0x02 c.errors

/-- A write that places an interface in a loopback of the depths that `depth` admits. -/
def loopbackWrite (r : DictReq) (index : Nat) (depth : Nat → Bool) (data : Bytes) (s : State) : State :=
  if !isLoopback index then s
  else dictWrite r index 0x01 data (fun c s => depth c.value && acceptOf index 0x01 c s) (fun _ c s => setLoopback index c.value s) s

/-- The meaning of ETH_LOOPBACK_MAC. -/
def execEthLoopbackMac (r : DictReq) (data : Bytes) (s : State) : Res := doneQuiet s (loopbackWrite r 0x7F00 (fun v => v = 1) data s)

/-- The meaning of ETH_LOOPBACK_PCS. -/
def execEthLoopbackPcs (r : DictReq) (data : Bytes) (s : State) : Res := doneQuiet s (loopbackWrite r 0x7F00 (fun v => v = 2) data s)

/-- The meaning of ETH_LOOPBACK_PMA. -/
def execEthLoopbackPma (r : DictReq) (data : Bytes) (s : State) : Res := doneQuiet s (loopbackWrite r 0x7F00 (fun v => v = 3) data s)

/-- The meaning of ETH_LOOPBACK_FAR_END. -/
def execEthLoopbackFarEnd (r : DictReq) (data : Bytes) (s : State) : Res :=
  doneQuiet s (loopbackWrite r 0x7F00 (fun v => v = 4) data s)

/-- ETH_LOOPBACK_END (R391): at the beat in object 0x7F00:03 the loopback ends, and the port may retrain. -/
def ethLoopbackEnd (s : State) : State :=
  let e := s.rd 0x7F00 0x03
  if e = 0 || s.beat < e then s else setEthLoopback 0 (s.late e)

/-- The meaning of ETH_LOOPBACK_END. -/
def execEthLoopbackEnd (s : State) : Res := doneQuiet s (ethLoopbackEnd s)

/-- A loopback write of one of several like interfaces. -/
def unitLoopback (r : DictReq) (base count unit : Nat) (depth : Nat → Bool) (data : Bytes) (s : State) : State :=
  if count ≤ unit then s else loopbackWrite r (base + unit) depth data s

/-- The meaning of LINK_LOOPBACK_LINK_LAYER. -/
def execLinkLoopbackLinkLayer (r : DictReq) (link : Nat) (data : Bytes) (s : State) : Res :=
  doneQuiet s (unitLoopback r 0x7F10 6 link (fun v => v = 1) data s)

/-- The meaning of LINK_LOOPBACK_FEC_PCS. -/
def execLinkLoopbackFecPcs (r : DictReq) (link : Nat) (data : Bytes) (s : State) : Res :=
  doneQuiet s (unitLoopback r 0x7F10 6 link (fun v => v = 2) data s)

/-- The meaning of LINK_LOOPBACK_NEAR_END_SERIAL. -/
def execLinkLoopbackNearEndSerial (r : DictReq) (link : Nat) (data : Bytes) (s : State) : Res :=
  doneQuiet s (unitLoopback r 0x7F10 6 link (fun v => v = 3) data s)

/-- The meaning of LINK_LOOPBACK_FAR_END_REMOTE. -/
def execLinkLoopbackFarEndRemote (r : DictReq) (link : Nat) (data : Bytes) (s : State) : Res :=
  doneQuiet s (unitLoopback r 0x7F10 6 link (fun v => v = 4) data s)

/-- The meaning of UCIE_LOOPBACK: the modules whose bits the value sets. -/
def execUcieLoopback (r : DictReq) (die : Nat) (data : Bytes) (s : State) : Res :=
  doneQuiet s (unitLoopback r 0x7F20 8 die (fun v => v % 4096 ≠ 0) data s)

/-- The meaning of HBM_LOOPBACK_CONTROLLER. -/
def execHbmLoopbackController (r : DictReq) (stack : Nat) (data : Bytes) (s : State) : Res :=
  doneQuiet s (unitLoopback r 0x7F30 4 stack (fun v => v = 1) data s)

/-- The meaning of HBM_LOOPBACK_PHY. -/
def execHbmLoopbackPhy (r : DictReq) (stack : Nat) (data : Bytes) (s : State) : Res :=
  doneQuiet s (unitLoopback r 0x7F30 4 stack (fun v => v = 2) data s)

/-- The meaning of LPDDR_LOOPBACK_CONTROLLER. -/
def execLpddrLoopbackController (r : DictReq) (device : Nat) (data : Bytes) (s : State) : Res :=
  doneQuiet s (unitLoopback r 0x7F34 8 device (fun v => v = 1) data s)

/-- The meaning of LPDDR_LOOPBACK_PHY. -/
def execLpddrLoopbackPhy (r : DictReq) (device : Nat) (data : Bytes) (s : State) : Res :=
  doneQuiet s (unitLoopback r 0x7F34 8 device (fun v => v = 2) data s)

/-- The meaning of LOOPBACK_OFF: 0, or reserved bits alone, written to a loopback object (R390, R510). -/
def execLoopbackOff (r : DictReq) (index : Nat) (data : Bytes) (s : State) : Res :=
  doneQuiet s (loopbackWrite r index (fun v => if 0x7F20 ≤ index && index ≤ 0x7F27 then v % 4096 = 0 else v = 0) data s)

/-! ## Array self-tests -/

/-- A test of the die and kind that objects 0x7F40:02 and 0x7F40:01 hold is queued like a CAL_DIE window (R516). -/
def requestTest (s : State) : State :=
  let kind := s.rd 0x7F40 0x01
  let die := s.rd 0x7F40 0x02
  (s.wr 0x7F40 0x04 1).modCal fun c => { c with
    testKind := kind, testDie := die
    waiting := addWindow ⟨die, true, s.nextBoundary s.beat, false, none, some kind, 0⟩ c.waiting }

/-- A write of 1 to object 0x7F40:03. -/
def testWrite (r : DictReq) (data : Bytes) (s : State) : State :=
  dictWrite r 0x7F40 0x03 data (acceptOf 0x7F40 0x03) (fun _ _ s => requestTest s) s

/-- The meaning of ARRAY_TEST_TRIM_DAC: the start write while object 0x7F40:01 holds 0. -/
def execArrayTestTrimDac (r : DictReq) (data : Bytes) (s : State) : Res := doneQuiet s (testWrite r data s)

/-- The meaning of ARRAY_TEST_REFERENCE: the start write while object 0x7F40:01 holds 1. -/
def execArrayTestReference (r : DictReq) (data : Bytes) (s : State) : Res := doneQuiet s (testWrite r data s)

/-- ARRAY_TEST_START (R516). -/
def arrayTestStart (s : State) : State :=
  match s.nextWindow with
  | some w => if w.test.isSome then startWindow w s else s
  | none => s

/-- The meaning of ARRAY_TEST_START. -/
def execArrayTestStart (s : State) : Res := doneQuiet s (arrayTestStart s)

/-- A failing array is retired and logged (R518). -/
def failArray (s : State) (a : Nat) : State :=
  let s := retireArray a s
  s.log { newRec s 2 0 with classification := 2, unitClass := 7, action := 2, unit := a }

/-- ARRAY_TEST_RESULT (R517, R518): at the first tick after the test's last beat; `failing` names the arrays whose codes or
reference columns failed. -/
def arrayTestResult (failing : List Nat) (s : State) : State :=
  match s.cal.current with
  | none => s
  | some w =>
    if w.test.isNone || s.beat < w.start + w.beats then s
    else
      let s := s.late (w.start + w.beats)
      let bad := (failing.eraseDups).filter fun a => dieOf a = w.die && decide (a < 33792) && !(s.arr a).retired
      let s := ((s.wr 0x7F40 0x04 (if bad.isEmpty then 2 else 3)).wr 0x7F40 0x05 bad.length).wr 0x2200 0x03 0xFF
      (bad.foldl failArray s).modCal fun c => { c with current := none }

/-- The meaning of ARRAY_TEST_RESULT. -/
def execArrayTestResult (failing : List Nat) (s : State) : Res := doneQuiet s (arrayTestResult failing s)

/-- A test whose die has entered T4 ends with result 4, and nothing is retired (R519). -/
def abortHotTest (s : State) : State :=
  if s.rd 0x7F40 0x04 ≠ 1 || (s.die s.cal.testDie).band ≠ 4 then s
  else
    let running := (s.cal.current.bind (·.test)).isSome
    let s := s.wr 0x7F40 0x04 4
    let s := if running then s.wr 0x2200 0x03 0xFF else s
    s.modCal fun c => { c with
      waiting := c.waiting.filter fun w => w.test.isNone
      current := if running then none else c.current }

/-! ## The test access port -/

/-- An instruction that holds the device: under one the device is held as under RESET_N, and where the port leaves them the device
performs a reset with cause 1 (R523). In S3 RESET_N is ignored (R500). -/
def setInstruction (ir : Nat) (hold : Bool) (boundary dr : Bytes) (s : State) : State :=
  let s :=
    if s.power.s3.isSome then s
    else if hold && !s.tap.hold then loseVolatile s
    else if !hold && s.tap.hold then beginReset 1 false s
    else s
  { s with tap := ⟨ir, boundary, dr, hold⟩ }

/-- The identification register (R521). -/
def idRegister : Nat :=
  Config.stepping / 256 % 16 * 0x10000000 + 0xA501 * 0x1000 + Config.idcode.toNat / 2 % 2048 * 2 + 1

/-- The meaning of TAP_RESET: IDCODE is selected (R520). -/
def execTapReset (s : State) : Res := done s (setInstruction 1 false s.tap.boundary (leBytes 4 idRegister) s)

/-- The meaning of IDCODE (R521). -/
def execIdcode (s : State) : Res := done s (setInstruction 1 false s.tap.boundary (leBytes 4 idRegister) s)

/-- SAMPLE/PRELOAD (R520, R522): the boundary register captures the lands, whose levels are free values, and takes the data. -/
def samplePreload (data : Bytes) (s : State) : State :=
  let n := data.length
  let seen := (List.range n).map fun i => BitVec.ofNat 8 (Config.freeValue (s.draws + i))
  setInstruction 2 false data seen { s with draws := s.draws + n }

/-- The meaning of SAMPLE_PRELOAD. -/
def execSamplePreload (data : Bytes) (s : State) : Res := done s (samplePreload data s)

/-- The meaning of EXTEST (R523). -/
def execExtest (data : Bytes) (s : State) : Res := done s (setInstruction 3 true data data s)

/-- The meaning of EXTEST_PULSE (R523). -/
def execExtestPulse (data : Bytes) (s : State) : Res := done s (setInstruction 4 true data data s)

/-- The meaning of EXTEST_TRAIN (R523). -/
def execExtestTrain (data : Bytes) (s : State) : Res := done s (setInstruction 5 true data data s)

/-- The meaning of CLAMP: the bypass register is selected while the lands hold the boundary values (R523). -/
def execClamp (data : Bytes) (s : State) : Res := done s (setInstruction 6 true data [0#8] s)

/-- The meaning of HIGHZ (R523). -/
def execHighz (s : State) : Res := done s (setInstruction 7 true s.tap.boundary [0#8] s)

/-- An opcode that R520 assigns to another instruction. -/
def assignedOpcode (op : Nat) : Bool := (1 ≤ op && op ≤ 7) || (0x80 ≤ op && op ≤ 0xFE)

/-- The meaning of BYPASS: opcode 0xFF, or any opcode without an instruction of its own (R520). -/
def execBypass (opcode : Nat) (s : State) : Res :=
  done s (if assignedOpcode opcode || 0xFF < opcode then s else setInstruction 0xFF false s.tap.boundary [0#8] s)

/-- PRIVATE_INSTRUCTION (R524): marked for measurement block 6, the security engine's memory cleared and every session ended. -/
def privateInstruction (opcode : Nat) (s : State) : State :=
  if opcode < 0x80 || 0xFE < opcode then s
  else
    let s := setInstruction opcode false s.tap.boundary [] s
    let s := s.sec.sessions.foldl (fun s x => endSessionNow x.id s) s
    s.modSec fun x => { x with sessions := [], sigQueue := [], ensign := false, privUsed := true }

/-- The meaning of PRIVATE_INSTRUCTION. -/
def execPrivateInstruction (opcode : Nat) (s : State) : Res := done s (privateInstruction opcode s)

end Sys2Proof.Machine
end

