-- ==== Sys2Proof/Machine/Cper.lean ====
section
/-! DEFINITION. A fault record as one UEFI CPER record (R471): the Ronnar section byte for byte from R471; the record header, the section
descriptors and the two standard sections as the UEFI Specification defines them (PRESUMED: that specification is named and not
restated). -/

namespace Sys2Proof.Machine
open Sys2Proof

/-- A GUID as it is stored: its first three fields least significant byte first, the last eight bytes in order. -/
def guidBytes (a b c d : Nat) : Bytes := leBytes 4 a ++ leBytes 2 b ++ leBytes 2 c ++ beBytes 8 d

/-- Creator and notification GUID of R471. -/
def ronnarGuid : Bytes := guidBytes 0x2C7E4A90 0x1B36 0x4F5D 0xA8E26D0B93C5F714

/-- GUID of the Ronnar section. -/
def sectionGuid : Bytes := guidBytes 0x5A3C0E71 0x94B2 0x4D1F 0x8E06B7C4F1A29D35

/-- GUID of the Memory Error Section. -/
def memoryGuid : Bytes := guidBytes 0xA5BC1114 0x6F64 0x4EDE 0xB8633E83ED7C83B1

/-- GUID of the Generic Processor Error Section. -/
def processorGuid : Bytes := guidBytes 0x9876CCAD 0x47B4 0x4BDB 0xB65E16F193C4F3DB

/-- The Ronnar section of a record (R471). -/
def ronnarSection (pos : Nat) (r : FaultRec) : Bytes :=
  leBytes 2 1 ++ leBytes 1 r.kind ++ leBytes 1 r.detector ++ leBytes 4 pos ++ leBytes 8 r.beat ++ leBytes 4 r.step ++ leBytes 1 r.run ++
  leBytes 1 r.classification ++ leBytes 1 r.unitClass ++ leBytes 1 r.action ++ leBytes 2 r.unit ++ leBytes 2 r.context ++
  leBytes 2 r.entry ++ leBytes 1 r.layer ++ leBytes 1 r.space ++ leBytes 8 r.address ++ leBytes 4 r.detail ++
  leBytes 4 r.payload.length ++ zeros 16 ++ r.payload

/-- A Memory Error Section: physical address and error type multi-bit ECC valid. -/
def memorySection (r : FaultRec) : Bytes :=
  leBytes 8 0x4002 ++ zeros 8 ++ leBytes 8 r.address ++ zeros 48 ++ leBytes 1 3 ++ zeros 7

/-- A Generic Processor Error Section in which no field is marked valid. -/
def processorSection : Bytes := zeros 192

/-- The sections of a record as (GUID, bytes): the Ronnar section first, a memory section for an HBM4 or LPDDR5X error, a processor
section for a Masthead record. -/
def cperSections (pos : Nat) (r : FaultRec) : List (Bytes × Bytes) :=
  [(sectionGuid, ronnarSection pos r)] ++
  (if (r.kind = 1 || r.kind = 2) && decide (4 ≤ r.detector) && decide (r.detector ≤ 7) then [(memoryGuid, memorySection r)] else []) ++
  (if r.unitClass = 10 then [(processorGuid, processorSection)] else [])

/-- Error Severity: 1 fatal for KIND 8 and 9, 3 informational for KIND 4 and 10, 0 recoverable otherwise. -/
def cperSeverity (r : FaultRec) : Nat := if r.kind = 8 || r.kind = 9 then 1 else if r.kind = 4 || r.kind = 10 then 3 else 0

/-- Section descriptors for sections that start at an offset. -/
def cperDescriptors (severity : Nat) : Nat → Bool → List (Bytes × Bytes) → Bytes
  | _, _, [] => []
  | off, first, x :: l =>
    leBytes 4 off ++ leBytes 4 x.2.length ++ leBytes 2 0x0100 ++ zeros 2 ++ leBytes 4 (b2n first) ++ x.1 ++ zeros 16 ++ leBytes 4 severity ++
      zeros 20 ++ cperDescriptors severity (off + x.2.length) false l

/-- The record, with its place in the log as Record ID. -/
def cperRecord (pos seq : Nat) (r : FaultRec) : Bytes :=
  let secs := cperSections pos r
  let first := 128 + 72 * secs.length
  let total := secs.foldl (fun n x => n + x.2.length) first
  [0x43#8, 0x50#8, 0x45#8, 0x52#8] ++ leBytes 2 0x0101 ++ leBytes 4 0xFFFFFFFF ++ leBytes 2 secs.length ++ leBytes 4 (cperSeverity r) ++
    leBytes 4 1 ++ leBytes 4 total ++ zeros 8 ++ Config.serial ++ zeros 16 ++ ronnarGuid ++ ronnarGuid ++ leBytes 8 seq ++ zeros 4 ++
    zeros 8 ++ zeros 12 ++ cperDescriptors (cperSeverity r) first true secs ++ secs.flatMap (·.2)

end Sys2Proof.Machine
end

