-- ==== Sys2Proof/Machine/Objects.lean ====
section
/-! DEFINITION. The value that a read of each object returns, with the objects that are computed from the state (R55, R92, R120, R122,
R166, R199, R228, R266, R293 to R295, R345, R346, R370, R382 to R390), and what an accepted or rejected write of each object does. -/

namespace Sys2Proof.Machine
open Sys2Proof

/-! ## Computed values -/

/-- V_u of a band in units of 0.01 mV (R122, R76). -/
def bandVoltage (band : Nat) : Nat := [6000, 5455, 5000, 4660, 4444].getD band 4444

/-- A drift gain in units of 1/4,096. -/
def gainUnits (g : F32) : Nat := (f32ToIntScaled g 12).toNat

/-- Arrays that serve the image: none without one. -/
def State.servingArrays (s : State) : List Nat := if s.img.isSome then s.placed.map (·.1) else []

/-- The largest drift gain of some arrays in units of 1/4,096; 4,096 for none. -/
def State.largestGd (s : State) (l : List Nat) : Nat := l.foldl (fun m a => max m (gainUnits (s.arr a).gd)) 4096

/-- The skew of largest magnitude of some arrays, in units of 2^−16. -/
def State.largestSkew (s : State) (l : List Nat) : Int :=
  l.foldl (fun m a =>
    let v := f32ToIntScaled (s.arr a).skew 16
    if m.natAbs < v.natAbs then v else m) 0

/-- The largest NSTAT of any row block of a slot (R166). -/
def State.largestNstat (s : State) (slot : Nat) : Nat :=
  (s.image.outl.filter fun o => s.slotOfMat o.mat = slot).foldl (fun m o => max m o.rows.length) 0

/-- The first frame boundary after the beat at which a routine window falls due, if one does within a period. -/
def State.routineNext (s : State) : Option Nat :=
  ((List.range (s.windowPeriod + 1)).find? fun k => !(s.dueWindows (s.frameStart + (k + 1) * s.frameLen)).isEmpty).map
    fun k => s.frameStart + (k + 1) * s.frameLen

/-- The start beat of the next window (R422): a waiting one, or the routine one that falls due next, at a frame boundary that the
window in progress leaves free. Where no window is to come, the manual states no value. -/
def State.nextWindowBeat (s : State) : Nat :=
  let free := match s.cal.current with
    | some w => s.boundaryFrom (w.start + w.beats)
    | none => 0
  let waits := (s.cal.waiting.filter fun w => w.test.isNone).map fun w => max w.due (s.nextBoundary s.beat)
  match waits ++ s.routineNext.toList with
  | [] => Config.freeValue s.draws
  | b :: l => max (l.foldl min b) free

/-- Counts of R199: arrays in service, free, retired and worn, and strips divided over dies. -/
def State.arrayCount (s : State) (sub : Nat) : Nat :=
  if sub = 1 then s.servingArrays.length
  else if sub = 2 then (List.range 8).foldl (fun n d => n + ((dieArrays d).filter s.freeArray).length) 0
  else if sub = 3 then (s.arrays.filter fun a => a.2.retired).length
  else if sub = 4 then (s.arrays.filter fun a => decide (s.rd 0x4004 0x03 ≤ a.2.cycles)).length
  else if s.img.isSome then dividedStrips s.placed else 0

/-- Pages of the KV pool, free ones, and those that await zeroing (R266). -/
def State.poolCount (s : State) (sub : Nat) : Nat :=
  let total := s.pool.size.foldl (· + ·) 0
  if sub = 1 then total else if sub = 2 then total - s.pool.used.length - s.pool.zeroing.length else s.pool.zeroing.length

/-- Request entries that are not FREE and meet a condition. -/
def State.heldEntries (s : State) (p : Entry → Bool) : Nat := (s.entriesWhere fun e => live e && p e).length

/-- A field of the window slot object (R228). -/
def winNumber (w sub : Nat) (x : Win) : Nat :=
  if sub = 1 then x.state
  else if sub = 2 then x.ctx
  else if sub = 3 then x.base
  else if sub = 4 then x.len
  else if sub = 5 then windowId x.gen w
  else if sub = 6 then x.expiry
  else if sub = 8 then x.close
  else if sub = 9 then x.accepted
  else x.refused

/-- A value kept for the reading session (R380). -/
def State.ofSession (s : State) (session : Option Nat) (f : Session → Nat) (dflt : Nat) : Nat :=
  match session.bind s.session? with
  | some x => f x
  | none => dflt

/-- The value of a numeric object that is computed from the state; none where the store holds it. -/
def State.computed (s : State) (session : Option Nat) (index sub inst : Nat) : Option Nat :=
  match index with
  | 0x1000 =>
    if sub = 4 then some Config.stepping else if sub = 5 then some Config.bootRomVersion else if sub = 0x0B then some s.flash.resets
    else none
  | 0x1105 => if sub = 4 then some (s.sec.sessions.filter (·.opened)).length else none
  | 0x1110 => some (s.ofSession session (·.selRing) 0)
  | 0x1111 =>
    if sub = 4 then some (Config.queuePair inst) else if sub = 0x0A then some (Config.ringRegion inst)
    else if sub = 0x0B then some (Config.rkey inst) else none
  | 0x1200 =>
    if sub = 1 then some (1024 * s.beat) else if sub = 2 then some s.beat
    else if sub = 4 || sub = 5 then some (s.boundNow sub) else none
  | 0x1201 => if sub = 3 then some s.slot else none
  | 0x1400 => if sub = 2 then some s.power.straps else none
  | 0x1800 => if sub = 1 then some (b2n s.masthead.on) else none
  | 0x2003 => some (s.domainState sub)
  | 0x2200 => if sub = 4 then some s.nextWindowBeat else none
  | 0x2210 => if sub ≤ 8 then some (s.die (sub - 1)).band else none
  | 0x2211 => some (bandVoltage (s.die (sub - 1)).band)
  | 0x2212 =>
    if sub = 1 then some (s.arrays.filter fun a => a.2.requested).length
    else if sub = 2 then some (s.servingArrays.filter fun a => decide (s.rd 0x2212 0x03 ≤ gainUnits (s.arr a).gd)).length
    else if sub = 5 then some (s.largestGd s.servingArrays) else none
  | 0x3000 => if sub = 1 then some s.linksUp else none
  | 0x3100 => if sub = 4 then some s.pos else none
  | 0x3200 => if sub = 5 then some (s.freeGranules 0) else if sub = 6 then some (s.freeGranules 1) else none
  | 0x3201 => if 0x11 ≤ sub then some (s.engine (sub - 0x11)).queue.length else none
  | 0x3202 =>
    if sub = 1 then some (b2n s.windowsAllowed) else if sub = 6 then some (s.ofSession session (·.winReason) 0) else none
  | 0x3203 => if sub = 3 then some (s.ofSession session (·.winId) 0xFFFF) else none
  | 0x4002 => some (s.arrayCount sub)
  | 0x4003 => some (s.capacity (sub - 1))
  | 0x4004 =>
    if sub = 4 then some s.movesWaiting
    else if sub = 7 then some (s.servingArrays.foldl (fun m a => max m (s.arr a).cycles) 0) else none
  | 0x4200 => if sub = 6 then some s.samples.length else none
  | 0x5000 => some (s.entriesIn (sub - 1))
  | 0x5001 => if sub = 6 then some s.cmdDelay else none
  | 0x5010 => if sub = 1 then some (s.ofSession session (·.selEntry) 0) else none
  | 0x5020 => some (s.ofSession session (·.selCtx) 0)
  | 0x5021 => if sub = 6 then some (s.heldEntries fun e => e.context = inst) else none
  | 0x6000 =>
    if sub = 5 then some s.kvT else if sub = 6 then some (laneCount s.image) else if sub = 7 then some s.kvZ else none
  | 0x6001 => if sub ≤ 3 then some (s.poolCount sub) else none
  | 0x6003 =>
    if sub = 2 then some (0x400000 - (s.pool.retired.filter fun p => decide (0x400000 ≤ p)).length)
    else if sub = 3 then
      some (0x400000 - (s.pool.retired.filter fun p => decide (0x400000 ≤ p)).length - s.pool.resUsed.length - s.pool.resZeroing.length)
    else none
  | 0x7000 => if sub = 1 then some s.flash.log.length else none
  | 0x7800 => if sub = 2 then some (b2n s.boot.recovery) else if sub = 4 then some 6 else none
  | 0x7801 => some ((s.sec.keys.map (·.1)).getD (sub - 1) 0)
  | _ =>
    if 0x3280 ≤ index && index ≤ 0x32FF then some (winNumber (index - 0x3280) sub (s.win (index - 0x3280)))
    else if 0x4100 ≤ index && index ≤ 0x41FF then
      if sub = 0x0B then some (s.largestNstat (index - 0x4100))
      else if sub = 0x1F then some (s.largestGd (if s.img.isSome then s.slotArrays (index - 0x4100) else []))
      else if sub = 0x20 then some (intBits 32 (s.largestSkew (if s.img.isSome then s.slotArrays (index - 0x4100) else [])))
      else none
    else if 0x5100 ≤ index && index ≤ 0x51FF && sub = 8 then some (s.heldEntries fun e => e.burgee = index - 0x5100)
    else none

/-- The DEVICES of a window slot as 32 bytes (R218). -/
def devicesBytes (l : List Nat) : Bytes := l.flatMap (leBytes 2)

/-- The value of an OCTETS, STR or DOMAIN object; OCTETS without a value are zeros. -/
def State.octNow (s : State) (row : ObjRow) (index sub inst : Nat) : Bytes :=
  if index = 0x1000 && sub = 1 then asciiBytes "RPN1-A"
  else if index = 0x1000 && sub = 2 then asciiBytes "Ronnar Semiconductor AB"
  else if index = 0x1000 && sub = 3 then Config.serial
  else if index = 0x1100 && sub = 1 then Config.macAddress
  else if index = 0x1101 && sub = 4 then linkLocal
  else if index = 0x3101 && sub = 0x0C then
    (let l := s.fab.bypassed.filter s.inBox
     if !s.hasRegion || l.isEmpty then zeros 8 else (Config.bypassOctets l.length (l.take 2) ++ zeros 8).take 8)
  else if 0x3280 ≤ index && index ≤ 0x32FF then devicesBytes (s.win (index - 0x3280)).devices
  else if index = 0x5010 then s.entryBytes inst
  else if index = 0x7000 && sub = 4 then
    (match s.flash.log[s.rd 0x7000 0x03]? with
    | some r => cperRecord s.pos (s.rd 0x7000 0x03) r
    | none => [])
  else if index = 0x7800 && sub = 1 then Config.certificateChain
  else s.oct? index sub inst (if row.type = .octets then zeros row.len else [])

/-- The bytes that a read of a present object returns: a WO object reads as zeros of its length, a WO DOMAIN as nothing (R376);
numbers most significant byte first (R364). -/
def State.readValue (s : State) (session : Option Nat) (row : ObjRow) (index sub inst : Nat) : Bytes :=
  if sub = 0 then beBytes 1 row.dflt
  else
    match row.type with
    | .str | .octets | .domain =>
      if row.access = .wo then (if row.type = .domain then [] else zeros row.len) else s.octNow row index sub inst
    | _ =>
      if row.access = .wo then zeros row.len
      else beBytes row.len ((s.computed session index sub inst).getD (s.rdI index sub inst))

/-! ## What a write does -/

/-- A write of root capability (R34, R368): PTP listens, or stops and its lock is gone. -/
def rootCapable (v : Nat) (s : State) : State :=
  if v = 1 then electRoot (if s.rd 0x1104 0x02 = 0 && s.portUp then s.wr 0x1104 0x02 1 else s)
  else electRoot ((s.modTime fun t => { t with ptpLock := false, ptpGood := 0, ptpBad := 0, lockLostAt := none }).wr 0x1104 0x02 0)

/-- The effect of an accepted write of an object. -/
def effectOf (index sub : Nat) (row : ObjRow) (c : WriteCtx) (s : State) : State :=
  let kept := storeWrite row index sub c s
  match index with
  | 0x1110 | 0x5020 => storeSelector index c s
  | 0x1111 => if sub = 9 then switchRing c s else kept
  | 0x1201 => if sub = 7 then frameArm row c s else kept
  | 0x1202 => if sub = 1 then rootCapable c.value kept else if sub = 2 then electRoot kept else kept
  | 0x1400 =>
    if sub = 5 then acceptProfile c.data s
    else if sub = 0x0B then resetCommand c s
    else if sub = 0x0C then acceptFirmware c.data s
    else kept
  | 0x3000 =>
    if sub = 2 then storeWrite row index sub c (applyEnables c.value s)
    else if sub = 4 then s.modPower fun p => { p with bypRequest := some (c.value = 1) }
    else kept
  | 0x3100 => kept.modPower fun p => { p with heldRings := sput sub c.value p.heldRings }
  | 0x3101 =>
    if sub = 7 then kept.modFab fun f => { f with armed := some (c.value, s.nextBox.1, s.nextBox.2) } else kept
  | 0x3203 => if sub = 1 then openWindow c s else closeById c s
  | 0x3210 => if sub = 1 then enqueueDesc (s.rd 0x3210 0x02) c.data (s.wr 0x3210 0x03 0) else kept
  | 0x4000 => if sub = 0x10 then loadCommand c s else kept
  | 0x4004 => if sub = 0x0A then s.modLoad fun l => { l with replace := l.replace ++ [c.value] } else kept
  | 0x5010 => storeSelector index c s
  | 0x5021 => if sub = 4 || sub = 5 then resetRing c.inst kept else kept
  | 0x6000 => repool kept
  | 0x7000 => if sub = 5 then logErase s else kept
  | 0x7002 => if sub = 5 then leaveNext s else kept
  | 0x7003 => if sub = 2 then resetContextCause c.value false s else kept
  | 0x7800 => endSessionNow c.value s
  | 0x7F40 => if sub = 3 then requestTest s else kept
  | _ =>
    if isHostMailbox index sub then storeWord (index - 0x1810) c.value s
    else if 0x3280 ≤ index && index ≤ 0x32FF then s.modWin (index - 0x3280) fun x => { x with expiry := c.value }
    else if isLoopback index && sub = 1 then setLoopback index c.value s
    else kept

/-- What a write that an object's own rule turns away leaves behind (R33, R185, R212, R218). -/
def rejectOf (index sub : Nat) (c : WriteCtx) (s : State) : State :=
  if index = 0x1201 && sub = 7 then s.flag 0x1200 0x0A 5
  else if index = 0x3203 && sub = 1 then windowResult c (windowReason c.role (parseWinReq c.data) s) none s
  else if index = 0x3210 && sub = 1 then s.wr 0x3210 0x03 1
  else if index = 0x4000 && sub = 0x10 then loadStartRejected c s
  else s

/-! ## READ and WRITE (R365, R375, R376, R378) -/

/-- A memory that holds request entries is in loopback, so that a read of one waits (R514). -/
def State.entryWaits (s : State) (index sub : Nat) : Bool :=
  index = 0x5010 && sub = 2 && (List.range 4).any fun i => s.rd (0x7F30 + i) 0x01 ≠ 0

/-- A read that returns a free value draws it anew at each request. -/
def drawRead (index : Nat) (s : State) : State := if index = 0x2003 || index = 0x2200 then s.draw.2 else s

/-- READ of a whole value. -/
def readObject (r : DictReq) (index sub : Nat) (s : State) : State :=
  if s.entryWaits index sub then s
  else dictServe r (fun s =>
    match judgeAccess s r index sub 0 false with
    | .inl st => (st, [], s)
    | .inr (_, row) =>
      if row.type = .domain then (4, [], s)
      else (0, s.readValue r.session row index sub (instOf s r.session index sub), drawRead index s)) s

/-- The meaning of READ. -/
def execRead (r : DictReq) (index sub : Nat) (s : State) : Res := doneQuiet s (readObject r index sub s)

/-- WRITE of a whole value, under the rules and with the effect of its object. -/
def writeObject (r : DictReq) (index sub : Nat) (data : Bytes) (s : State) : State :=
  if isHostMailbox index sub then dictServe r (mailboxWrite r (index - 0x1810) data) s
  else dictWriteElse r index sub data (acceptOf index sub) (effectOf index sub) (rejectOf index sub) s

/-- The meaning of WRITE. -/
def execWrite (r : DictReq) (index sub : Nat) (data : Bytes) (s : State) : Res := done s (writeObject r index sub data s)

/-! ## Block transfers (R365, R375, R376) -/

/-- An object that block transfers carry. -/
def blockType (row : ObjRow) : Bool := row.type = .domain || row.type = .octets || row.type = .str

/-- READ_BLOCK: a segment of at most 1,024 bytes, with LAST at the end; beyond the end RANGE. -/
def readSegment (r : DictReq) (index sub offset : Nat) (s : State) : State :=
  if s.entryWaits index sub then s
  else dictServeLast r (fun s =>
    match judgeAccess s r index sub 0 false with
    | .inl st => (st, false, [], s)
    | .inr (_, row) =>
      if !blockType row then (4, false, [], s)
      else
        let v := s.readValue r.session row index sub (instOf s r.session index sub)
        if v.length < offset then (3, false, [], s)
        else (0, decide (v.length ≤ offset + 1024), (v.drop offset).take 1024, s)) s

/-- The meaning of READ_BLOCK. -/
def execReadBlock (r : DictReq) (index sub offset : Nat) (s : State) : Res := doneQuiet s (readSegment r index sub offset s)

/-- The open transfers without that of an object and session. -/
def State.closeBlock (s : State) (key : Nat) (session : Option Nat) : State :=
  { s with eth := { s.eth with blocks := s.eth.blocks.filter fun b => !(b.1 = key && b.2.1 = session) } }

/-- What has arrived of a transfer: the offset reached and the bytes; a segment at OFFSET 0 begins anew. -/
def State.blockSoFar (s : State) (key : Nat) (session : Option Nat) (offset : Nat) : Nat × Bytes :=
  if offset = 0 then (0, [])
  else match s.eth.blocks.find? fun b => b.1 = key && b.2.1 = session with
    | some b => (b.2.2.1, b.2.2.2.1)
    | none => (0, [])

/-- A segment joined to what has arrived: one out of order spoils the transfer, whose offset then differs from its length. -/
def joinSegment (sofar : Nat × Bytes) (offset : Nat) (data : Bytes) : Nat × Bytes :=
  if offset = sofar.1 && sofar.1 = sofar.2.length then (offset + data.length, sofar.2 ++ data) else (sofar.2.length + 1, sofar.2)

/-- A segment without LAST is held; the first of a firmware image begins its update (R483). -/
def holdSegment (index sub key : Nat) (session : Option Nat) (x : Nat × Bytes) (s : State) : State :=
  let begins := index = 0x1400 && sub = 0x0C && s.rd 0x1400 0x0D ≠ 1
  let s := s.closeBlock key session
  let s := { s with eth := { s.eth with blocks := s.eth.blocks ++ [(key, session, x.1, x.2, s.beat)] } }
  if begins then updateState 1 s else s

/-- A segment judged: R378 in order, and the whole write at LAST. -/
def segmentWrite (r : DictReq) (index sub offset : Nat) (last : Bool) (data : Bytes) (s : State) : Nat × Bytes × State :=
  match judgeAccess s r index sub 0 true with
  | .inl st => (st, [], s)
  | .inr (_, row) =>
    let inst := instOf s r.session index sub
    let key := objKey index sub inst
    if !blockType row then (4, [], s)
    else if 1024 < data.length then (3, [], s)
    else if blockBusy s r index sub inst then (5, [], s)
    else
      let x := joinSegment (s.blockSoFar key r.session offset) offset data
      if !last then (0, [], holdSegment index sub key r.session x s)
      else
        let t := s.closeBlock key r.session
        if x.1 ≠ x.2.length then (3, [], t)
        else judgeWrite r index sub true x.2 (acceptOf index sub) (effectOf index sub) (rejectOf index sub) t

/-- The meaning of WRITE_BLOCK. -/
def execWriteBlock (r : DictReq) (index sub offset : Nat) (last : Bool) (data : Bytes) (s : State) : Res :=
  done s (dictServe r (segmentWrite r index sub offset last data) s)

/-- BLOCK_TRANSFER_TIMEOUT: transfers to the object without a segment for 1,024 beats are abandoned; an image that was being received
is no more. -/
def blockTransferTimeout (index sub : Nat) (s : State) : State :=
  let idle (b : Nat × Option Nat × Nat × Bytes × Nat) : Bool := b.1 % 0x1000000 = index * 0x100 + sub && decide (b.2.2.2.2 + 1024 ≤ s.beat)
  if !s.eth.blocks.any idle then s
  else
    let t := { s with eth := { s.eth with blocks := s.eth.blocks.filter fun b => !idle b } }
    if index = 0x1400 && sub = 0x0C && t.rd 0x1400 0x0D = 1 then updateState 0 t else t

/-- The meaning of BLOCK_TRANSFER_TIMEOUT. -/
def execBlockTransferTimeout (index sub : Nat) (s : State) : Res := doneQuiet s (blockTransferTimeout index sub s)

end Sys2Proof.Machine
end

