-- ==== Sys2Proof/Machine/Boot.lean ====
section
/-! DEFINITION. Resets by pin (R497 to R500), the stages of start-up (R501 to R508) with the firmware check (R481), the key unwrap
(R487) and the application of the profile (R406, R407), and the device's becoming ready (R506). -/

namespace Sys2Proof.Machine
open Sys2Proof

/-! ## Resets by pin -/

/-- The meaning of POWER_ON_RESET (R497, R498): PORST_N low ends every state, S3 included. -/
def execPowerOnReset (s : State) : Res := done s (powerOn s)

/-- WARM_RESET (R497, R500): RESET_N has read low on 1,000 ticks; in S3 it is ignored. -/
def warmReset (s : State) : State := if s.power.s3.isSome then s else beginReset 1 false s

/-- The meaning of WARM_RESET. -/
def execWarmReset (s : State) : Res := done s (warmReset s)

/-! ## Stages 1 to 4 -/

/-- The boot record changed. -/
def State.modBoot (s : State) (f : Boot → Boot) : State := { s with boot := f s.boot }

/-- The Halyard at a release (R504, R43): UNLOCKED after a power-on reset; otherwise HOLDOVER, with both bounds grown by 30 ppm of
the time in reset, that is 30.72 ps for each beat. In recovery mode the count runs free, UNLOCKED (R485). -/
def startTime (s : State) : State :=
  match s.time.lostAt with
  | none => s
  | some b =>
    if s.boot.recovery then s
    else
      let s := (s.wr 0x1200 0x03 3).modTime fun t => { t with growth := t.growth + 307200 * (s.beat - b), lostAt := some s.beat }
      checkBounds s

/-- STARTUP_RELEASE (R501, R503): straps and position are sampled; core clock 600 MHz with no DVFS point in effect; the domains are on.
Recovery mode that a reset requested reports its mode (R485). -/
def startupRelease (x y z profile : Nat) (s : State) : State :=
  if s.boot.released || s.tap.hold || s.power.s3.isSome then s
  else
    let s := s.modPower fun p => { p with posX := x % 64, posY := y % 64, posZ := z % 64, straps := profile % 4, vid := 0, duty8 := 8 }
    let s := (s.wr 0x2000 0x05 7).wr 0x2000 0x03 600
    let s := s.modBoot fun b => { b with released := true }
    startTime (if s.boot.recovery then s.wr 0x1000 0x08 2 else s)

/-- The meaning of STARTUP_RELEASE. -/
def execStartupRelease (posX posY posZ profile : Nat) (s : State) : Res := doneQuiet s (startupRelease posX posY posZ profile s)

/-- FIRMWARE_CHECK (R481, R478, R479, R485): an image that passes is in use with its keys; otherwise the device is in recovery mode, its
count UNLOCKED. -/
def firmwareCheck (s : State) : State :=
  if !s.boot.released || s.boot.fwOk || s.boot.recovery then s
  else
    let b := s.flash.firmware
    if firmwareOk b s then
      let s := (s.wr 0x1000 0x06 (leAt b 16 4)).putOct 0x1000 0x07 0 (Config.sha512 (storedSigned b))
      (s.modSec fun x => { x with keys := imageKeys b, keyTable := keyTableOf b }).modBoot fun x => { x with fwOk := true }
    else ((s.modBoot fun x => { x with recovery := true }).wr 0x1000 0x08 2).wr 0x1200 0x03 0

/-- The meaning of FIRMWARE_CHECK. -/
def execFirmwareCheck (s : State) : Res := doneQuiet s (firmwareCheck s)

/-- KEY_UNWRAP (R487, R485): the ensign key is in the engine, or the failure is logged; Masthead starts from a verified image only. -/
def keyUnwrap (pufOk : Bool) (s : State) : State :=
  if !(s.boot.fwOk || (s.boot.released && s.boot.recovery)) || s.boot.keyDone then s
  else
    let s := if pufOk then s.modSec fun x => { x with ensign := true } else s.log (newRec s 10 0)
    (s.modMast fun m => { m with on := s.boot.fwOk && !s.boot.recovery }).modBoot fun b => { b with keyDone := true }

/-- The meaning of KEY_UNWRAP. -/
def execKeyUnwrap (pufOk : Bool) (s : State) : Res := doneQuiet s (keyUnwrap pufOk s)

/-! ## Stage 5: the profile (R405 to R407, R502) -/

/-- An entry as the object's rules see it: an operator's write of its instance. -/
def entryCtx (inst : Nat) (v : Bytes) : WriteCtx := ⟨none, .operator, inst, beNat v, v⟩

/-- An entry that the rules accept is applied: RWF values directly, the ring lengths without being held, everything else as a
write. -/
def applyEntry (row : ObjRow) (e : ProfileEntry) (c : WriteCtx) (s : State) : State :=
  if row.access = .rwf || e.index = 0x3100 then s.wrI e.index e.sub c.inst c.value else effectOf e.index e.sub row c s

/-- One entry under the profile's selectors: applied, or skipped and logged (R407, R505). -/
def takeProfileEntry (sel : Nat × Nat) (e : ProfileEntry) (s : State) : State :=
  match objRow e.index e.sub with
  | none => s.log (newRec s 10 20)
  | some row =>
    let v := frameValue row e.value
    let c := entryCtx (entryInst sel e) v
    let effectBeat := (e.index = 0x1201 || e.index = 0x3101) && e.sub = 7
    if effectBeat || !entryOk e || !acceptOf e.index e.sub c s then s.log (newRec s 10 20) else applyEntry row e c s

/-- The entries in stored order; those of 0x1110:01, 0x5020:01 set the profile's own selectors. -/
def applyEntries : Nat × Nat → List ProfileEntry → State → State
  | _, [], s => s
  | sel, e :: es, s =>
    let selects := (e.index = 0x1110 && e.sub = 1) || (e.index = 0x5020 && e.sub = 1)
    applyEntries (nextSelectors sel e) es (if selects then s else takeProfileEntry sel e s)

/-- A slot checked under the first two checks of R405: its digest object is set, or the failure is logged. -/
def checkSlot (s : State) (slot : Nat) : State :=
  let b := s.flash.profiles.getD slot []
  if b.isEmpty then s
  else if profileFails b s = 0 then s.putOct 0x1400 (0x07 + slot) 0 (profileDigest b)
  else s.log (newRec s 10 20)

/-- The slot that start-up selects (R406). -/
def State.selectedSlot (s : State) : Nat := if s.rd 0x1400 0x03 ≤ 3 then s.rd 0x1400 0x03 else s.power.straps

/-- The bytes of a slot that is not treated as empty. -/
def State.goodProfile (s : State) (slot : Nat) : Option Bytes :=
  let b := s.flash.profiles.getD slot []
  if b.isEmpty || profileFails b s ≠ 0 then none else some b

/-- Ring lengths in effect (R502, R322): the profile's, or the values held over the reset, which are then cleared; a position beyond
them sets POSITION. -/
def settleRingLengths (s : State) : State :=
  let s := s.power.heldRings.foldl (fun s h => s.wr 0x3100 h.1 h.2) s
  let s := (s.modPower fun p => { p with heldRings := [] }).modFab fun f =>
    { f with rings := [s.rd 0x3100 1, s.rd 0x3100 2, s.rd 0x3100 3] }
  if [0, 1, 2].all fun a => decide (coord s.pos a < s.ringLen a) then s else s.flag 0x3103 0x0A 0

/-- PROFILE_APPLY (R406, R407, R503): every slot checked, the selected profile applied over the defaults, the pending record of the
always-on domain logged. -/
def profileApply (s : State) : State :=
  if !s.boot.keyDone || !s.boot.fwOk || s.boot.profileDone then s
  else
    let s := (List.range 4).foldl checkSlot s
    let slot := s.selectedSlot
    let s := (s.wr 0x1400 0x01 slot).wr 0x1400 0x03 0xFF
    let s := match s.goodProfile slot with
      | some b => applyEntries (0, 0) (profileEntries b) (s.wr 0x1100 0x02 (leAt b 24 1 % 4))
      | none => s.wr 0x1100 0x02 0
    let s := settleRingLengths s
    let s := match s.power.pending with
      | some r => (s.log r).modPower fun p => { p with pending := none }
      | none => s
    s.modBoot fun b => { b with profileDone := true }

/-- The meaning of PROFILE_APPLY. -/
def execProfileApply (s : State) : Res := done s (profileApply s)

/-! ## Stages 6 and 7 -/

/-- D2D_TRAINING (R503, R340, R19): BYP_HOLD is driven high; a die that did not train is lost. -/
def d2dTraining (trained : List Bool) (s : State) : State :=
  if !s.boot.profileDone || s.boot.d2dDone then s
  else
    let s := s.modPower fun p => { p with bypHold := 1, bypReleased := false }
    let s := (List.range 8).foldl (fun s d => if trained.getD d false then s else loseDie d s) s
    s.modBoot fun b => { b with d2dDone := true }

/-- The meaning of D2D_TRAINING. -/
def execD2dTraining (trained : List Bool) (s : State) : Res := doneQuiet s (d2dTraining trained s)

/-- MEMORY_TRAINING (R503, R207): every word of the memories, scratchpads and staging buffers is zero; the pool follows from the KV
settings (R236). -/
def memoryTraining (ok : Bool) (s : State) : State :=
  if !s.boot.profileDone || s.boot.memDone then s
  else repool { (s.modBoot fun b => { b with memDone := true, memOk := ok }) with mem := [], table := [], bufs := [], granZero := [] }

/-- The meaning of MEMORY_TRAINING. -/
def execMemoryTraining (ok : Bool) (s : State) : Res := done s (memoryTraining ok s)

/-! ## Ready (R506 to R508) -/

/-- MIN_SVN raised to the SVN of the image in use (R482). -/
def raiseMinSvn (s : State) : State := s.modSec fun x => { x with minSvn := max x.minSvn (imageSvn s.flash.firmware) }

/-- The region box of the profile takes effect, or is logged where it is none of this device's (R506). -/
def startRegion (s : State) : State :=
  let b := s.nextBox
  if b.2.all (· = 0) then s
  else if s.boxOk b.1 b.2 then setRegion b.1 b.2 s
  else s.log (newRec s 10 0)

/-- A memory that failed training holds the device in half-mast until a reset (R507); its failure is logged. Cause 0 stands for it
beside the causes of R467. -/
def memoryHold (s : State) : State :=
  if s.boot.memOk then s
  else
    let s := { s with faults := { s.faults with causes := [0], hmEntered := some s.beat } }
    ((s.wr 0x7001 0x07 2).wr 0x1000 0x08 1).log (newRec s 5 0)

/-- The recorded strips' arrays become free (R508). -/
def freeRecorded (s : State) : State :=
  { s with
    arrays := s.arrays.foldl (fun l x => sset Arr.blank x.1 { x.2 with place := none } l) []
    flash := { s.flash with placement := none, interrupted := [] } }

/-- The image after a reset (R508). -/
def startImage (s : State) : State :=
  if s.flash.placement.isNone then s
  else if (s.oct? 0x4000 0x01 0 []).any (· ≠ 0#8) then beginLoad true s
  else freeRecorded s

/-- The stages that ready waits for are done (R503, R504): time is LOCKED, or held over since before the reset. -/
def State.mayBeReady (s : State) : Bool :=
  s.atBoundary && s.boot.d2dDone && s.boot.memDone && !s.boot.ready && s.synced && s.power.s3.isNone

/-- READY (R506): a rank 1 effect of a frame boundary, before that boundary's governor decision and sleep state. -/
def becomeReady (s : State) : State :=
  if !s.mayBeReady then s
  else
    let s := s.modBoot fun b => { b with ready := true }
    let s := (s.wr 0x1000 0x08 0).wr 0x1000 0x0A s.beat
    startImage (armWatchdog (memoryHold (startRegion (raiseMinSvn s))))

/-- The meaning of READY. -/
def execReady (s : State) : Res := done s (becomeReady s)

end Sys2Proof.Machine
end

