-- ==== Sys2Proof/Machine/Boundary.lean ====
section
/-! DEFINITION. FRAME_BOUNDARY (R49): the rank 1 effects of a frame boundary in their order, and the budget refill of rank 5. -/

namespace Sys2Proof.Machine
open Sys2Proof

/-! ## RWF values and what follows from them (R8, R278, R288, R493) -/

/-- Pending values take effect. -/
def applyPending (s : State) : State :=
  { s with obj := s.pend.foldl (fun l x => sset (objDefault x.1) x.1 x.2 l) s.obj, pend := [] }

/-- An enable that the boundary takes away (R288): the head multicasts the disable of its burgee or context. -/
def disableInEffect (old : State) (s : State) (key : Nat) : State :=
  let index := key / 0x100 % 0x10000
  let sub := key % 0x100
  let inst := key / 0x1000000
  let off := old.rdI index sub inst = 1 && s.rdI index sub inst = 0
  if off && decide (0x5100 ≤ index) && decide (index ≤ 0x51FF) && sub = 1 then headCommand 5 (index - 0x5100) 0 0 0 s
  else if off && index = 0x5021 && sub = 2 then headCommand 6 inst 0 0 0 s
  else s

/-- A limit that the boundary lowers (R278): the head multicasts the end of each entry that it strands. -/
def limitsInEffect (old : State) (s : State) : State :=
  (s.entriesWhere fun e => s.stranded e && !old.stranded e).foldl
    (fun s q => headCommand 8 q (s.entry q).tag 0 (s.entry q).ring s) s

/-- A recipe object took effect, so the digest of the recipe table is formed anew (R493). -/
def recipesChanged (old : State) : Bool :=
  old.pend.any fun x => decide (0x4100 ≤ x.1 / 0x100 % 0x10000) && decide (x.1 / 0x100 % 0x10000 ≤ 0x41FF)

/-- RWF_EFFECT, DISABLE_IN_EFFECT and LIMIT_CHANGE_IN_EFFECT. -/
def rwfEffect (s : State) : State :=
  let t := applyPending s
  if s.isHead then limitsInEffect s (s.pend.foldl (fun t x => disableInEffect s t x.1) t) else t

/-- QMON_COPY (R118). -/
def qmonAtBoundary (s : State) : State := { s with qmonCopy := (List.range 256).filter fun n => bitOf (s.rdSlot n 0x1C) 0 }

/-! ## Pages (R237, R292) and leases (R465) -/

/-- POOL_BACKING_RETRY for an entry on a member other than the head: every page obtained is kept, and the report is sent once
every page is backed. -/
def retryBacking (s : State) (q : Nat) : State :=
  let r := (s.entry q).awaiting.foldl (backChunk q) (backStates q s)
  if r.1 then
    (r.2.modEntry q fun e => { e with poolWait := false, awaiting := [] }).report s.headPos (.backed s.pos [q])
  else r.2

/-- RESTORING_CLEAR on the head (R292), and the waits of restorations for pool pages. -/
def restoringAtBoundary (s : State) : State :=
  let waits := s.entriesWhere fun e => (e.state = 2 || e.state = 3) && hasReserve e && (s.takePage 0).isNone
  let s := s.bump 0x6003 0x08 waits.length
  if s.isHead then
    (s.entriesWhere fun e => e.restoring && e.awaiting.isEmpty).foldl (fun s q => s.modEntry q fun e => { e with restoring := false }) s
  else s

/-- Backing and restoration at a boundary. -/
def pagesAtBoundary (s : State) : State :=
  let s := if s.isHead || !s.hasRegion then s else (s.entriesWhere fun e => e.poolWait && live e).foldl retryBacking s
  restoringAtBoundary s

/-- Buffers of live contexts have their lease renewed. -/
def renewBuffers (s : State) : State :=
  { s with bufs := s.bufs.map fun (b : Buf) => if s.contextLive b.ctx then { b with live := s.beat } else b }

/-! ## Service, links and the rest -/

/-- The device leaves half-mast, where that is due and a failed memory does not hold it, and then enters it after its causes (R467,
R470, R507). -/
def halfMastAtBoundary (s : State) : State :=
  let s := if s.faults.leaveDue then
      (if s.boot.memOk then leaveHalfMastNow { s with faults := { s.faults with leaveDue := false } }
       else { s with faults := { s.faults with leaveDue := false } })
    else s
  enterHalfMast s

/-- Routes and bounds follow a change of links or of what is bypassed (R325, R343). -/
def linksAtBoundary (s : State) : State :=
  let byp := s.bypassedNow
  if s.fab.linkChanged || byp ≠ s.fab.bypassed then
    computeBounds (s.modFab fun f => { f with bypassed := byp, linkChanged := false })
  else s

/-- A CAL_DIE of a lost die, for which no window is to come, is answered (R400, R401). -/
def answerLost (s : State) (m : Nat) : State :=
  match s.takenWord m with
  | some w =>
    if s.masthead.on && wordCode w = 4 && wordOk w && (s.die (wordArg w)).lost && !s.windowFor m then answerWord m 4 (wordArg w) s else s
  | none => s

/-- The log erased where that is due (R474). -/
def eraseLog (s : State) : State :=
  if s.masthead.eraseDue then { (s.modMast fun m => { m with eraseDue := false }) with flash := { s.flash with log := [] } } else s

/-- BUDGET_REFILL (R274), on the head. -/
def refillBudgets (s : State) : State :=
  if !s.isHead then s
  else (List.range 256).foldl (fun s b => s.wr (0x5100 + b) 0x04 (min (s.budget b + s.rd (0x5100 + b) 0x02) (s.rd (0x5100 + b) 0x03))) s

/-- RESET_START at the boundary (R408, R466, R484, R485): a command waits for the end of a firmware write. -/
def resetAtBoundary (s : State) : State :=
  match s.power.resetDue with
  | none => s
  | some k =>
    if k = 3 then beginReset 2 false s
    else if s.rd 0x1400 0x0D = 3 then s
    else beginReset 3 (k = 2) s

/-- The effects on arrays and dies in their order (R95, R99 to R107, R414, R429, R519). -/
def diesAtBoundary (s : State) : State :=
  levelsAtBoundary (predictDrift (driftAtBoundary (correctionsAtBoundary (abortHotTest (bandsAtBoundary s)))))

/-- The effects on the image, its placement and the calibration windows (R188, R191, R421). -/
def imageAtBoundary (s : State) : State := windowsDue (placementAtBoundary (enterService s))

/-- Every effect of a boundary of a device that runs; the digest of the recipe table, the counts of the frame just ended and the
governor come last. -/
def boundaryEffects (est : PowerEst) (s : State) : State :=
  let t := imageAtBoundary (diesAtBoundary (qmonAtBoundary (rwfEffect s)))
  let t := applyBypass (halfMastAtBoundary (renewBuffers (pagesAtBoundary (linksAtBoundary t))))
  let t := sleepTransition (eraseLog ((List.range 8).foldl answerLost t))
  let t := if recipesChanged s then digestRecipes t else t
  refillBudgets (governorDecision est (est.loops.foldl countLoop (t.bump 0x2000 0x07 est.slewed)))

/-- FRAME_BOUNDARY (R49). In recovery mode a commanded reset alone is left of it (R485). -/
def frameBoundary (est : PowerEst) (s : State) : State :=
  if !s.atBoundary || !s.boot.released || s.power.s3.isSome then s
  else resetAtBoundary (if s.boot.recovery then s else boundaryEffects est s)

/-- The meaning of FRAME_BOUNDARY. -/
def execFrameBoundary (est : PowerEst) (s : State) : Res := done s (frameBoundary est s)

end Sys2Proof.Machine
end

