-- ==== Sys2Proof/Machine/Commit.lean ====
section
/-! DEFINITION. The commands of multicasts and of the region commit (R311, R332 to R339): one definition for each row. -/

namespace Sys2Proof.Machine
open Sys2Proof

/-- STEP_WORK_DONE (R335): with every read of the step done and no error met, the member's work counts as complete, the tail
computes its output tokens, and the acknowledgement leaves once the children's are held. -/
def stepWorkDone (s : State) : State :=
  match s.fab.step with
  | none => s
  | some st =>
    if !st.started || st.workDone || st.discardSent || st.resolved || !s.inService
        || s.work.reads.any fun r => r.phase ≠ .done then s
    else
      let rowOf (t : Nat) : Option Nat :=
        ((s.work.rows.filter fun r => r.token = t &&
          (s.image.mats.getD r.mat default).role = 8).map (·.argmax)).head?
      let toks := st.len.filterMap fun l =>
        if l.kind = 0 then some (l.req, (List.range l.count).filterMap fun i => rowOf (l.tokbase + i))
        else if l.kind = 2 then some (l.req, (rowOf (l.tokbase + l.count - 1)).toList)
        else none
      tryAck (s.modStep fun st => { st with workDone := true, tokens := toks })

/-- The meaning of STEP_WORK_DONE. -/
def execStepWorkDone (s : State) : Res := done s (stepWorkDone s)

/-- STEP_ACK (R311, R335): an acknowledgement from a child of the tail's region tree is combined. -/
def stepAck (step run count child : Nat) (s : State) : State :=
  match s.fab.step with
  | none => s
  | some st =>
    if st.num ≠ step || st.run ≠ run || st.resolved then s
    else
      let s := s.modStep fun st => { st with childAcks := sput child count st.childAcks }
      if s.isTail && st.workDone then tryDecide s else tryAck s

/-- The meaning of STEP_ACK. -/
def execStepAck (step run count child : Nat) (s : State) : Res := done s (stepAck step run count child s)

/-- STEP_DISCARD (R311, R545): a member forwards it toward the tail; the tail holds it and decides, and drops one that comes
after its decision. -/
def stepDiscard (step run reason : Nat) (entries : List Nat) (s : State) : State :=
  if !s.hasRegion then s
  else if !s.isTail then
    s.send (.packet 0 0x03 s.tailPos step ([step, run, reason, entries.length] ++ entries))
  else
    match s.fab.step with
    | none => s
    | some st =>
      if st.num ≠ step || st.run ≠ run || st.decided || st.resolved then s
      else tryDecide (s.modStep fun st => { st with discards := st.discards ++ [(reason, entries)] })

/-- The meaning of STEP_DISCARD. -/
def execStepDiscard (step run reason : Nat) (entries : List Nat) (s : State) : Res :=
  done s (stepDiscard step run reason entries s)

/-- COMMIT_DEADLINE (R336, R545): at C_n − CL the tail that has sent no DECISION discards the step at C_n. -/
def commitDeadline (s : State) : State :=
  match s.fab.step with
  | none => s
  | some st =>
    let cn := s.commitDeadlineOf st.frame
    if !s.isTail || st.decided || st.resolved || s.beat + s.commitLead < cn then s
    else sendDecision (discardOutcome st) cn (poolRecs st) (s.late (cn - s.commitLead))

/-- The meaning of COMMIT_DEADLINE. -/
def execCommitDeadline (s : State) : Res := done s (commitDeadline s)

/-- COMMIT (R337): at beat c the member applies a released DECISION, discards on a withdrawn one, and treats a step whose BATCH
never became visible to it as discarded at C_n (R338). -/
def commit (s : State) : State :=
  match s.fab.step with
  | none => s
  | some st =>
    if st.resolved || s.fab.inDoubt.isSome then s
    else
      match st.decision with
      | some d =>
        if s.beat < d.commitBeat then s
        else if st.withdrawn then discardStep st 0 [] (s.late d.commitBeat)
        else if st.released then applyDecision st d (s.late d.commitBeat)
        else s
      | none =>
        if !st.visible && decide (s.commitDeadlineOf st.frame ≤ s.beat) then discardStep st 0 [] s else s

/-- The meaning of COMMIT. -/
def execCommit (s : State) : Res := doneQuiet s (commit s)

/-- STEP_LEASE_EXPIRY (R465, R451): at the commit deadline the step's buffers, partial buffers and staging space are released;
a step that did not commit forfeits them. -/
def stepLeaseExpiry (s : State) : State :=
  match s.fab.step with
  | none => s
  | some st =>
    let cn := s.commitDeadlineOf st.frame
    if s.beat < cn then s
    else
      let s := s.late cn
      let won := st.released && (st.decision.map (·.outcome)) = some 1
      let s := if won then s else forfeit false 0xFFFF s
      let s := dropWork st.num s
      if st.resolved then s.modFab fun f => { f with step := none } else s

/-- The meaning of STEP_LEASE_EXPIRY. -/
def execStepLeaseExpiry (s : State) : Res := doneQuiet s (stepLeaseExpiry s)

/-- A QUERY of the step in doubt sent to the tail (R316, R338). -/
def sendQuery (st : Step) (s : State) : State :=
  (s.send (.packet 0 0x09 s.tailPos st.num [st.num, st.run])).modFab fun f => { f with lastQuery := s.beat }

/-- IN_DOUBT (R338): no outcome held at the copy's c, or no copy at all at C_n for a visible BATCH. -/
def inDoubt (s : State) : State :=
  match s.fab.step with
  | none => s
  | some st =>
    let due := match st.decision with
      | some d => !st.released && !st.withdrawn && decide (d.commitBeat ≤ s.beat)
      | none => st.visible && decide (s.commitDeadlineOf st.frame ≤ s.beat)
    if st.resolved || s.fab.inDoubt.isSome || !due then s
    else
      let s := s.modFab fun f => { f with inDoubt := some (st.num, s.beat + s.rd 0x3102 0x05) }
      sendQuery st ((s.bump 0x3103 0x03 1).flag 0x3103 0x0A 3)

/-- The meaning of IN_DOUBT. -/
def execInDoubt (s : State) : Res := doneQuiet s (inDoubt s)

/-- QUERY_RETRY (R338, R470): every 16 beats a member in doubt asks again, in half-mast too. -/
def queryRetry (s : State) : State :=
  match s.fab.step, s.fab.inDoubt with
  | some st, some _ => if s.fab.lastQuery + 16 ≤ s.beat then sendQuery st s else s
  | _, _ => s

/-- The meaning of QUERY_RETRY. -/
def execQueryRetry (s : State) : Res := doneQuiet s (queryRetry s)

/-- The content of a DECISION as the fields of a packet (R313). -/
def decisionFields (d : DecMsg) : List Nat :=
  [d.step, d.run, d.outcome, d.recs.length, d.commitBeat] ++ d.recs.flatMap fun r => [r.entry, r.accept, r.mark]

/-- QUERY (R338, R470): the tail answers with the released DECISION(COMMIT) it holds, or with "discarded". -/
def query (step run src : Nat) (s : State) : State :=
  if !s.isTail then s
  else
    match s.fab.decisions.find? fun d => d.step = step && d.run = run && d.outcome = 1 with
    | some d => s.send (.packet 1 0x13 src step ([step, 1] ++ decisionFields d))
    | none => s.send (.packet 1 0x13 src step [step, 0])

/-- The meaning of QUERY. -/
def execQuery (step run src : Nat) (s : State) : Res := doneQuiet s (query step run src s)

/-- QUERY_ANSWER (R338): the member in doubt applies the outcome as every other member applied it. -/
def queryAnswer (step : Nat) (released : Option DecMsg) (s : State) : State :=
  match s.fab.step, s.fab.inDoubt with
  | some st, some (n, _) =>
    if n ≠ step || st.num ≠ step then s
    else
      match released with
      | some d => applyDecision st d s
      | none => discardStep st 0 [] s
  | _, _ => s

/-- The meaning of QUERY_ANSWER. -/
def execQueryAnswer (step : Nat) (released : Option DecMsg) (s : State) : Res :=
  doneQuiet s (queryAnswer step released s)

/-- IN_DOUBT_LEASE_EXPIRY (R339, R465): without an answer by the lease's end the member goes to half-mast, still in doubt. -/
def inDoubtLeaseExpiry (s : State) : State :=
  match s.fab.inDoubt with
  | none => s
  | some (n, e) =>
    if e = 0 || s.beat < e then s
    else
      let s := (s.late e).modFab fun f => { f with inDoubt := some (n, 0) }
      (forfeit true 0xFFFF s).halfMastCause 2

/-- The meaning of IN_DOUBT_LEASE_EXPIRY. -/
def execInDoubtLeaseExpiry (s : State) : Res := doneQuiet s (inDoubtLeaseExpiry s)

/-! ## Held multicasts at a receiver and at the sender (R331 to R333) -/

/-- This device's children on the tree of a copy. -/
def copyChildren (src mode : Nat) (targets : List Nat) (s : State) : List Nat :=
  s.treeChildren src ((if mode = 0 then s.members else targets).filter (· ≠ s.pos))

/-- A MACK to the parent once this device and everything below it have acknowledged (R332). -/
def tryMack (mcnum src : Nat) (s : State) : State :=
  match s.fab.ins.find? fun i => i.mcnum = mcnum && i.src = src with
  | none => s
  | some i =>
    let kids := copyChildren src i.mode i.targets s
    let whole := decide (i.parts.length = i.total)
    let all := kids.all fun c => i.childAcks.any fun a => a.1 = c
    if !whole || !all || i.ackSent then s
    else
      let mine := if i.mode = 0 || i.targets.contains s.pos then 1 else 0
      let n := mine + i.childAcks.foldl (fun n a => n + a.2) 0
      let s := s.modFab fun f => { f with ins := f.ins.map fun x =>
        if x.mcnum = mcnum && x.src = src then { x with ackSent := true } else x }
      s.send (.packet 1 0x10 (s.treeParent src s.pos) mcnum [mcnum, n])

/-- MULTICAST_COPY (R307, R332): the copy is held as pending and forwarded down the tree; with every part held and every child
acknowledged, a MACK goes to the parent. A pending DECISION makes its outcome known to be under way (R338). -/
def multicastCopy (c : McCopy) (s : State) : State :=
  if !s.hasRegion || !s.inBox s.pos then s
  else
    let kids := copyChildren c.src c.mode c.targets s
    let s := if kids.isEmpty then s else s.send (.multicast c.mcnum c.deadline kids c.body)
    let known := s.fab.ins.any fun i => i.mcnum = c.mcnum && i.src = c.src
    let s := if known then
        s.modFab fun f => { f with ins := f.ins.map fun i =>
          if i.mcnum = c.mcnum && i.src = c.src && !i.parts.contains c.part then { i with parts := c.part :: i.parts } else i }
      else s.modFab fun f => { f with ins := f.ins ++
        [⟨c.mcnum, c.src, c.link, c.mode, c.targets, c.deadline, [c.part], c.parts, false, [], c.body⟩] }
    let s := match c.body with
      | .decision d => s.modStep fun st => if st.num = d.step then { st with decided := true, decision := some d } else st
      | _ => s
    tryMack c.mcnum c.src s

/-- The meaning of MULTICAST_COPY. -/
def execMulticastCopy (c : McCopy) (s : State) : Res := doneQuiet s (multicastCopy c s)

/-- MACK (R332, R334): combined on the tree; at the sender of a held multicast the last one leads to RELEASE, and at the head
the last one of a scheduled multicast completes it. -/
def mack (mcnum acked child : Nat) (s : State) : State :=
  match s.fab.outs.find? fun o => o.mcnum = mcnum && !o.closed with
  | some o =>
    let a := sput child acked o.acked
    let s := s.modFab fun f => { f with outs := f.outs.map fun x => if x.mcnum = mcnum then { x with acked := a } else x }
    if o.expected ≤ a.foldl (fun n x => n + x.2) 0 then releaseOwn mcnum s else s
  | none =>
    match s.fab.schedOuts.find? fun o => o.mcnum = mcnum with
    | some o =>
      let n := o.acked + acked
      if s.otherMembers.length ≤ n then s.modFab fun f => { f with schedOuts := f.schedOuts.filter fun x => x.mcnum ≠ mcnum }
      else s.modFab fun f => { f with schedOuts := f.schedOuts.map fun x => if x.mcnum = mcnum then { x with acked := n } else x }
    | none =>
      match s.fab.ins.find? fun i => i.mcnum = mcnum with
      | some i =>
        let s := s.modFab fun f => { f with ins := f.ins.map fun x =>
          if x.mcnum = mcnum && x.src = i.src then { x with childAcks := sput child acked x.childAcks } else x }
        tryMack mcnum i.src s
      | none =>
        if s.hasRegion && !s.isHead then s.send (.packet 1 0x10 (s.treeParent s.headPos s.pos) mcnum [mcnum, acked]) else s

/-- The meaning of MACK. -/
def execMack (mcnum acked child : Nat) (s : State) : Res := done s (mack mcnum acked child s)

/-- RELEASE (R332): the pending copy becomes visible and the RELEASE goes on down the tree. -/
def release (mcnum src : Nat) (s : State) : State :=
  match s.fab.ins.find? fun i => i.mcnum = mcnum && i.src = src with
  | none => s
  | some i =>
    if i.parts.length ≠ i.total then s
    else
      let s := forwardDown 0x06 src mcnum s
      let s := s.modFab fun f => { f with ins := f.ins.filter fun x => !(x.mcnum = mcnum && x.src = src) }
      if i.mode = 0 || i.targets.contains s.pos then makeVisible i.body s else s

/-- The meaning of RELEASE. -/
def execRelease (mcnum src : Nat) (s : State) : Res := done s (release mcnum src s)

/-- A withdrawn DECISION is an outcome: discard (R337). -/
def withdrawBody (body : McBody) (s : State) : State :=
  match body with
  | .decision d => s.modStep fun st => if st.num = d.step then { st with withdrawn := true, decision := some d } else st
  | _ => s

/-- WITHDRAW (R332): the pending copy and every flit of the multicast are discarded. -/
def withdraw (mcnum src : Nat) (s : State) : State :=
  match s.fab.ins.find? fun i => i.mcnum = mcnum && i.src = src with
  | none => s
  | some i =>
    let s := forwardDown 0x07 src mcnum s
    let s := s.modFab fun f => { f with ins := f.ins.filter fun x => !(x.mcnum = mcnum && x.src = src) }
    withdrawBody i.body s

/-- The meaning of WITHDRAW. -/
def execWithdraw (mcnum src : Nat) (s : State) : Res := doneQuiet s (withdraw mcnum src s)

/-- MULTICAST_DEADLINE (R332, R284, R262): a missing MACK withdraws the multicast and its client receives MCAST_FAIL: an
expert dispatch is a detected error, a command goes out again under its message number. -/
def multicastDeadline (mcnum : Nat) (s : State) : State :=
  match s.fab.outs.find? fun o => o.mcnum = mcnum && !o.closed with
  | some o =>
    if s.beat < o.deadline then s
    else
      let s := forwardDown 0x07 s.pos mcnum (s.late o.deadline)
      let s := s.modFab fun f => { f with outs := f.outs.filter fun x => x.mcnum ≠ mcnum }
      let s := s.bump 0x3103 0x02 1
      match o.body with
      | .mcdata _ => stepErrorAt 14 0 0 0 (s.bump 0x6002 0x05 1)
      | b => withdrawBody b s
  | none =>
    match s.fab.schedOuts.find? fun o => o.mcnum = mcnum with
    | none => s
    | some o =>
      if s.beat < o.deadline then s
      else
        let s := s.modFab fun f => { f with schedOuts := f.schedOuts.filter fun x => x.mcnum ≠ mcnum }
        let had := s.fab.scheds
        let s := sendSched { o.msg with effect := s.beat + s.cmdDelay } (s.bump 0x3103 0x02 1)
        if s.fab.acted.contains o.msg.msgnum then s.modFab fun f => { f with scheds := had } else s

/-- The meaning of MULTICAST_DEADLINE. -/
def execMulticastDeadline (mcnum : Nat) (s : State) : Res := doneQuiet s (multicastDeadline mcnum s)

/-- PENDING_COPY_TIMEOUT (R333): a pending BATCH or MCDATA copy without RELEASE or WITHDRAW by its deadline plus L1 is
discarded. -/
def pendingCopyTimeout (mcnum src : Nat) (s : State) : State :=
  match s.fab.ins.find? fun i => i.mcnum = mcnum && i.src = src with
  | none => s
  | some i =>
    let isDecision := match i.body with | .decision _ => true | _ => false
    if isDecision || s.beat < i.deadline + s.legBeats then s
    else s.modFab fun f => { f with ins := f.ins.filter fun x => !(x.mcnum = mcnum && x.src = src) }

/-- The meaning of PENDING_COPY_TIMEOUT. -/
def execPendingCopyTimeout (mcnum src : Nat) (s : State) : Res := doneQuiet s (pendingCopyTimeout mcnum src s)

/-- SCHED_COPY (R334, R50): held for its effect beat, once for a message number; one that comes after e is counted and not
acted on. -/
def schedCopy (m : SchedMsg) (s : State) : State :=
  if m.effect < s.beat then s.bump 0x3103 0x08 1
  else if s.fab.acted.contains m.msgnum || s.fab.scheds.contains m then s
  else s.modFab fun f => { f with scheds := f.scheds ++ [m] }

/-- The meaning of SCHED_COPY. -/
def execSchedCopy (m : SchedMsg) (s : State) : Res := doneQuiet s (schedCopy m s)

end Sys2Proof.Machine
end

