-- ==== Sys2Proof/Machine/Ingress.lean ====
section
/-! DEFINITION. The head's ingress poll and the commands it takes (R271 to R284, R357 to R361), the tail's completion writes
(R360), and reports on VC1. -/

namespace Sys2Proof.Machine
open Sys2Proof

/-- An ingress entry read from a ring (R357), with its SEQ. The prompt of a SUBMIT is read with it. -/
def readIngress (s : State) (ring n : Nat) : Nat × Taken :=
  let size := s.rdI 0x1111 0x02 ring
  let a := ringBase ring + 64 + 128 * (n % size)
  let b := memReadN s.ringMem a 128
  let f := leAt b
  let op := f 2 1
  let len := f 32 4
  let off := f 48 8
  let count := f 44 1
  let area := ringBase ring + 64 + 128 * size
  let inArea := decide (off % 4 = 0 ∧ off + 4 * len ≤ s.rdI 0x1111 0x0C ring)
  let prompt := if op = 1 && inArea then
      (List.range len).map fun i => leNat (memReadN s.ringMem (area + off + 4 * i) 4)
    else []
  let toks := if op = 2 then (List.range (min 15 count)).map fun i => f (64 + 4 * i) 4 else prompt
  (f 0 2,
    { ring := ring, op := op, prio := f 3 1, cls := f 4 1, spec := f 5 1, context := f 6 2, tag := f 8 4, entry := f 12 2,
      deadline := f 16 8, maxNew := f 24 4, stop := f 28 4, promptLen := len, ttl := f 36 4, base := f 40 4,
      tokens := toks, promptOff := if op = 2 then count else off })

/-- The conditions of R359; for CANDIDATES, `promptOff` holds COUNT. -/
def malformed (s : State) (t : Taken) : Bool :=
  t.op = 0 || decide (6 < t.op) ||
  (t.op = 1 && (decide (3 < t.prio) || decide (1 < t.cls) || decide (15 < t.spec) || decide (1023 < t.context)
    || t.promptOff % 4 ≠ 0 || decide (s.rdI 0x1111 0x0C t.ring < t.promptOff + 4 * t.promptLen))) ||
  (t.op = 2 && (t.promptOff = 0 || decide (15 < t.promptOff)))

/-- An entry taken from a ring: a credit spent, CONSUMED due, and MALFORMED answered without further tests (R358, R359, R361). -/
def takeIngress (ring : Nat) (t : Taken) (bad : Bool) (s : State) : State :=
  let s := s.wrI 0x1111 0x0F ring (s.rdI 0x1111 0x0F ring - 1)
  let s := s.modRing ring fun r => { r with taken := (r.taken + 1) % 0x100000000, mismatch := none, consumedDue := true }
  let s := { s with eth := { s.eth with lastServedRing := ring } }
  if bad || malformed s t then
    decideAtHead ring t.op t.tag (if t.op = 1 then 0xFFFF else t.entry) 22 0 none (s.bumpI 0x1111 0x0E ring 1)
  else { s with taken := s.taken ++ [t] }

/-- A command of R283 would exceed the SCHED limit of the frame (R320). -/
def schedFull (s : State) (op : Nat) : Bool :=
  let sent := if s.fab.schedFrame = s.frameStart then s.fab.schedSent else 0
  decide (3 ≤ op) && decide (op ≤ 6) && decide (256 ≤ sent + (s.taken.filter fun t => decide (3 ≤ t.op)).length)

/-- One attempt to take a ring's next entry: whether it was taken (R358). -/
def pollRing (ring : Nat) (s : State) : Bool × State :=
  let r := s.ring ring
  if s.rdI 0x1111 0x09 ring ≠ 1 || s.ringPi ring = r.taken || s.rdI 0x1111 0x0F ring = 0 then (false, s)
  else
    let (seq, t) := readIngress s ring r.taken
    if seq ≠ r.taken % 65536 then
      (false, if r.mismatch.isSome then s else s.modRing ring fun r => { r with mismatch := some s.beat })
    else if schedFull s t.op then (false, s)
    else (true, takeIngress ring t false s)

/-- The round robin of a poll over the rings that still give entries, at most n in all (R358). -/
def pollRounds : Nat → Nat → List Nat → List Nat → State → State
  | 0, _, _, _, s => s
  | _, 0, _, _, s => s
  | fuel + 1, n, [], kept, s => if kept.isEmpty then s else pollRounds fuel n kept [] s
  | fuel + 1, n + 1, ring :: rest, kept, s =>
    let r := pollRing ring s
    if r.1 then pollRounds fuel n rest (kept ++ [ring]) r.2 else pollRounds fuel (n + 1) rest kept r.2

/-- INGRESS_POLL (R358, R469): the head, ready and in service, takes up to 16 entries from the enabled rings, starting after
the ring served last. -/
def ingressPoll (s : State) : State :=
  if !s.isHead || !s.inService then s
  else
    let s := settleRings s
    let after := (List.range 256).map fun i => (s.eth.lastServedRing + 1 + i) % 256
    let rings := after.filter fun r => s.rdI 0x1111 0x09 r = 1
    pollRounds (18 * (rings.length + 1)) 16 rings [] s

/-- The meaning of INGRESS_POLL. -/
def execIngressPoll (s : State) : Res := done s (ingressPoll s)

/-- SEQ_MISMATCH_TIMEOUT (R358): a mismatch that has persisted for 64 beats takes the entry as MALFORMED. -/
def seqMismatchTimeout (ring : Nat) (s : State) : State :=
  let r := s.ring ring
  match r.mismatch with
  | none => s
  | some b =>
    if !s.isHead || !s.inService || s.beat < b + 64 || s.rdI 0x1111 0x0F ring = 0 then s
    else
      let (seq, t) := readIngress s ring r.taken
      if seq = r.taken % 65536 then s.modRing ring fun r => { r with mismatch := none }
      else takeIngress ring t true s

/-- The meaning of SEQ_MISMATCH_TIMEOUT. -/
def execSeqMismatchTimeout (ring : Nat) (s : State) : Res := doneQuiet s (seqMismatchTimeout ring s)

/-- The front of the taken entries, where it is of an operation. -/
def nextTaken (op : Nat) (s : State) : Option (Taken × State) :=
  match s.taken with
  | t :: l => if t.op = op then some (t, { s with taken := l }) else none
  | [] => none

/-- The image's digest, which reports name (R171, R509). -/
def State.imageDigest (s : State) : Bytes := s.image.digest

/-- Every member has reported the digest in service (R509). -/
def State.allReported (s : State) : Bool :=
  s.members.all fun p => s.fab.imageReports.any fun r => r.1 = p && r.2 = s.imageDigest

/-- An entry that R269 lets a submit take: FREE on the head, held by no step in flight and with no page left. -/
def State.takeable (s : State) (q : Nat) : Bool := s.entry q = Entry.free && !s.inFlight q

/-- The lowest-numbered entry that a submit may take. -/
def State.freeEntryNo (s : State) : Option Nat := (List.range 8192).find? s.takeable

/-- The class that the burgee's policy gives a request, where it is permitted (R272). -/
def policyClass (policy asked : Nat) : Option Nat :=
  if policy = 0 then (if asked = 0 then some 0 else none) else if policy = 1 then some asked else some 1

/-- A SUBMIT turned away (R271): DISABLED (4) or REJECTED (17) with its reason. -/
def turnAway (t : Taken) (status reason : Nat) (s : State) : State :=
  let s := s.bump 0x5002 0x02 1
  let s := if status = 17 then s.wr 0x5002 0x0A reason else s
  decideAtHead t.ring 1 t.tag 0xFFFF status reason none s

/-- A SUBMIT under the tests of R271, in order, and its admission (R272). -/
def serveSubmit (t : Taken) (s : State) : State :=
  let b := s.rdI 0x1111 0x01 t.ring
  let enc := hasEncoder s.image
  let cls := policyClass (s.rd (0x5100 + b) 0x05) t.cls
  let held := (s.entriesWhere fun e => live e && e.burgee = b).length
  if s.loadState ≠ 4 || !s.allReported then turnAway t 17 1 s
  else if s.burgeeOf t.context ≠ b || b = 0xFFFF then turnAway t 17 2 s
  else if s.rd (0x5100 + b) 0x01 ≠ 1 || s.rdI 0x5021 0x02 t.context ≠ 1 then turnAway t 4 0 s
  else if cls.isNone then turnAway t 17 3 s
  else if t.promptLen = 0 || s.maxCtx ≤ t.promptLen
      || (enc && (decide (s.rd 0x5001 0x01 < t.promptLen) || decide (s.rd (0x5100 + b) 0x03 < t.promptLen))) then
    turnAway t 17 4 s
  else if s.rd (0x5100 + b) 0x07 ≤ held then turnAway t 17 5 s
  else
    match s.freeEntryNo with
    | none => turnAway t 17 6 s
    | some q =>
      match State.takePages 0 (ceilDiv (4 * t.promptLen) 65536) s with
      | none => turnAway t 17 7 s
      | some (ps, s) =>
        let s := s.putEntry q { Entry.free with
          state := 1, cls := cls.getD 0, prio := min t.prio (s.rd (0x5100 + b) 0x06)
          spec := if (recurrentLayers s.image).isEmpty then t.spec else 0
          context := t.context, burgee := b, promptLen := t.promptLen, stop := t.stop, maxNew := t.maxNew, tag := t.tag
          ring := t.ring, deadline := t.deadline, prompt := t.tokens, tokPages := ps }
        decideAtHead t.ring 1 t.tag q 16 0 (some (admitOf s q)) (s.bump 0x5002 0x01 1)

/-- SUBMIT (R271, R272): the SUBMIT at the front of the taken entries is served. -/
def submit (s : State) : State :=
  match nextTaken 1 s with
  | some (t, s) => serveSubmit t s
  | none => s

/-- The meaning of SUBMIT. -/
def execSubmit (s : State) : Res := doneQuiet s (submit s)

/-- A command names, with its TAG, a non-FREE entry of the ring's burgee (R283). -/
def namesEntry (s : State) (t : Taken) : Bool :=
  let e := s.entry t.entry
  decide (t.entry < 8192) && e.state ≠ 0 && e.tag = t.tag && e.burgee = s.rdI 0x1111 0x01 t.ring

/-- A command that names no such entry is answered NO_ENTRY (R283). -/
def noEntry (t : Taken) (s : State) : State := decideAtHead t.ring t.op t.tag t.entry 18 0 none s

/-- A command multicast by the head with e = a + K; from now on no step is composed for the entry (R284). -/
def commandEntry (cmd ttl : Nat) (t : Taken) (s : State) : State :=
  let s := s.modEntry t.entry fun e => { e with cmdPending := e.cmdPending + 1 }
  headCommand cmd t.entry t.tag ttl t.ring s

/-- CANDIDATES (R279, R283, R257). -/
def candidates (s : State) : State :=
  match nextTaken 2 s with
  | none => s
  | some (t, s) =>
    if !namesEntry s t then noEntry t s
    else if (s.entry t.entry).state ≠ 3 then decideAtHead t.ring 2 t.tag t.entry 19 0 none s
    else if !(recurrentLayers s.image).isEmpty then
      decideAtHead t.ring 2 t.tag t.entry 16 0 none (s.bump 0x6002 0x03 t.promptOff)
    else
      decideAtHead t.ring 2 t.tag t.entry 16 0 none
        (s.modEntry t.entry fun e => { e with cand := some (t.base, t.tokens) })

/-- The meaning of CANDIDATES. -/
def execCandidates (s : State) : Res := doneQuiet s (candidates s)

/-- ABORT (R284). -/
def abort (s : State) : State :=
  match nextTaken 3 s with
  | none => s
  | some (t, s) => if namesEntry s t then commandEntry 1 0 t s else noEntry t s

/-- The meaning of ABORT. -/
def execAbort (s : State) : Res := doneQuiet s (abort s)

/-- CANCEL (R284). -/
def cancel (s : State) : State :=
  match nextTaken 4 s with
  | none => s
  | some (t, s) => if namesEntry s t then commandEntry 2 0 t s else noEntry t s

/-- The meaning of CANCEL. -/
def execCancel (s : State) : Res := doneQuiet s (cancel s)

/-- DIP (R283, R284): a TTL of 0 takes the value of object 0x6003:01 on the head at this poll. -/
def dip (s : State) : State :=
  match nextTaken 5 s with
  | none => s
  | some (t, s) =>
    if namesEntry s t then commandEntry 3 (if t.ttl = 0 then s.rd 0x6003 0x01 else t.ttl) t s else noEntry t s

/-- The meaning of DIP. -/
def execDip (s : State) : Res := doneQuiet s (dip s)

/-- RESUME (R284). -/
def resume (s : State) : State :=
  match nextTaken 6 s with
  | none => s
  | some (t, s) => if namesEntry s t then commandEntry 4 0 t s else noEntry t s

/-- The meaning of RESUME. -/
def execResume (s : State) : Res := doneQuiet s (resume s)

/-! ## Completion writes and reports -/

/-- A halved completion rate after a CNP lets every other completion beat pass (R352; the split into beats is the model's). -/
def rateAllows (s : State) (ring : Nat) : Bool :=
  match (s.ring ring).rateHalf with
  | some e => decide (e ≤ s.beat) || s.beat / s.rd 0x1103 0x01 % 2 = 0
  | none => true

/-- The tail writes what is ready and fits on a ring, then PRODUCED (R360, R356). -/
def writeRing (s : State) (ring : Nat) : State :=
  if !s.ringReady ring || !rateAllows s ring then s
  else
    let n := (s.ring ring).produced
    let r := s.ring ring
    let s := drainRing ring (r.toks.length + r.finals.length + r.cmds.length) s
    if (s.ring ring).produced = n then s else s.send (.produced ring (s.ring ring).produced)

/-- The head writes CONSUMED where it changed (R359, R356). -/
def writeConsumed (s : State) (ring : Nat) : State :=
  let r := s.ring ring
  if !r.consumedDue || !s.ringReady ring then s
  else (s.modRing ring fun r => { r with consumedDue := false }).send (.consumed ring r.taken)

/-- COMPLETION_WRITE (R360, R282). -/
def completionWrite (s : State) : State :=
  if !s.completionBeat || !s.portUp then s
  else
    let s := settleRings s
    let rings := s.rings.map (·.1)
    let s := if s.isTail then reportHeld (rings.foldl writeRing s) else s
    if s.isHead then rings.foldl writeConsumed s else s

/-- The meaning of COMPLETION_WRITE. -/
def execCompletionWrite (s : State) : Res := done s (completionWrite s)

/-- REPORT (R361, R237, R269, R282, R456, R461): what the tail or the head does with a report on VC1. -/
def report (m : ReportMsg) (s : State) : State :=
  match m with
  | .outcome ring op tag entry status reason beat adm =>
    if !s.isTail then s
    else
      let s := match adm with
        | some a => learnEntry a s
        | none => s
      s.modRing ring fun r => { r with cmds := r.cmds ++ [⟨ring, 1, status, tag, entry, [], op, reason, 0, 0, beat, false⟩] }
  | .credit ring => if s.isHead then creditBack ring s else s
  | .held entry on => if s.isHead then s.modEntry entry fun e => if e.state = 0 then e else { e with held := on } else s
  | .freed entry =>
    if s.isHead && ((s.entry entry).state = 5 || (s.entry entry).state = 6) then freeEntry entry s else s
  | .backed _ entries =>
    if s.isHead then entries.foldl (fun s q => s.modEntry q fun e => { e with poolWait := false }) s else s
  | .errors member _ run contexts =>
    if s.isHead then s.modFab fun f => { f with reports := f.reports ++ [(member, run, contexts)] } else s
  | .resetCause _ context _ => if s.isHead then headCommand 7 context 0 0 0 s else s

/-- The meaning of REPORT. -/
def execReport (m : ReportMsg) (s : State) : Res := doneQuiet s (report m s)

end Sys2Proof.Machine
end

