-- ==== Sys2Proof/Machine/Monitor.lean ====
section
/-! DEFINITION. The quality monitor (R112, R114 to R117): samples of strip results and their verdicts, computed exactly. -/

namespace Sys2Proof.Machine
open Sys2Proof

/-- β in thousandths of the class B setting with a threshold (R111). -/
def betaOf (tau : Nat) : Nat := if tau = 262 then 6 else if tau = 393 then 9 else if tau = 437 then 10 else 14

/-- The sampled part of a read's strip: its pass number, row blocks, whether it leaves in block form, and strip number. -/
def samplePart (s : State) (r : ReadRec) (m : MatEntry) : Option (Nat × List Nat × Bool × Nat) :=
  let ps := s.passes r.mat r.cb m
  let i := ps.findIdx fun p => p.2.2.contains r.rb
  (ps[i]?).map fun p =>
    (i, p.2.2, ps.length = 1, (stripsOf m.k).findIdx fun t => decide (t.1 ≤ r.rb) && decide (r.rb < t.1 + t.2))

/-- MONITOR_SAMPLE (R114, R115): once the sampled part's result has left its die, the sample enters the queue of 64, or is
skipped and counted. -/
def monitorSample (rid : Nat) (s : State) : State :=
  match s.work.samplesDue.find? (fun d => d.rid = rid), s.readRec? rid with
  | some d, some r =>
    match s.mat? r.mat with
    | none => s
    | some m =>
      match samplePart s r m with
      | none => s
      | some (pass, rbs, whole, strip) =>
        let here (b : Block) : Bool := b.mat = r.mat && b.token = r.token && b.block = d.block
        let blk := if whole then s.work.merged.find? fun b => here b && b.form = 0
          else s.work.blocks.find? fun b => here b && b.pass = pass
        match blk with
        | none => s
        | some b =>
          let s := s.modWork fun w => { w with samplesDue := w.samplesDue.filter fun x => x.rid ≠ rid }
          if 64 ≤ s.samples.length then s.bump 0x4200 0x04 1
          else
            let gP := s.blockGain r.mat r.cb rbs
            let cols := (List.range 32).filter fun j => decide (32 * d.block + j < m.n)
            let drives := rbs.map fun rb =>
              ((s.work.reads.find? fun x => x.mat = r.mat && x.rb = rb && x.cb = r.cb && x.token = r.token).map (·.drive)).getD []
            let sample : Sample := {
              slot := r.slot, mat := r.mat, rbs := rbs, drives := drives, col0 := 32 * d.block
              vals := cols.map fun j => analogValue gP (colScale s.image m r.mat (32 * d.block + j)) (b.vals.getD j 0) b.exp
              flags := b.flags, mu := s.recipe r.slot 7, classB := r.classB
              beta := betaOf ((s.stripB r.mat r.cb strip).getD 0)
              lsb := f32Mul (f32OfScaled 1 b.exp) gP, digest := s.image.digest }
            let s := { s with samples := s.samples ++ [sample] }
            (s.bump 0x4200 0x03 1).wr 0x4200 0x06 s.samples.length
  | _, _ => s

/-- The meaning of MONITOR_SAMPLE. -/
def execMonitorSample (rid : Nat) (s : State) : Res := doneQuiet s (monitorSample rid s)

/-- For one output of a sample: |ŷ − y|, s·3·Σ|x|, and s, all at one power of two, exact. -/
def sampleDiff (s : State) (x : Sample) (m : MatEntry) (j : Nat) : Int × Int × Int :=
  let col := x.col0 + j
  let sc := f32Val (colScale s.image m x.mat col)
  let y := f32Val (x.vals.getD j f32Zero)
  let base := min sc.e y.e
  let prod : Int := (x.rbs.zip x.drives).foldl (fun n rd =>
    (driveRows rd.2).foldl (fun n r => n + r.2 * shadowLevel s.image m x.mat (1024 * rd.1 + r.1) col) n) 0
  let a : Int := (x.drives.foldl (fun n d => n + driveSum d) 0 : Nat)
  (((y.at base - sc.at base * prod).natAbs : Int), sc.at base * 3 * a, sc.at base)

/-- δ of an output in units of 2^−16, to the nearest (R116). -/
def deltaUnits (d : Int × Int × Int) : Nat := divEven (d.1 * 65536).toNat d.2.1.toNat

/-- An output of a class B sample lies outside the bound of R112 on the sampled part (R117). -/
def outsideBound (x : Sample) (d : Int × Int × Int) : Bool :=
  let l := f32Val x.lsb
  let sh := (-(min l.e 0)).toNat
  let up := (max l.e 0).toNat
  decide (2 * x.beta * d.2.1 * 2 ^ sh + 1000 * l.m * 2 ^ up * d.2.2 < d.1 * 2000 * 2 ^ sh)

/-- MONITOR_VERDICT (R116, R117): the oldest sample is recomputed exactly and judged. -/
def monitorVerdict (s : State) : State :=
  match s.samples with
  | [] => s
  | x :: rest =>
    let s := ({ s with samples := rest } : State).wr 0x4200 0x06 rest.length
    match if x.digest = s.image.digest && s.img.isSome then s.mat? x.mat else none with
    | none => s.bump 0x4200 0x05 1
    | some m =>
      let ds := (if noVerdict x.flags then [] else (List.range x.vals.length).map (sampleDiff s x m)).filter fun d => decide (0 < d.2.1)
      if ds.isEmpty then s.bump 0x4200 0x05 1
      else
        let s := s.bumpSlot x.slot 0x18 1
        let big := min 0xFFFFFFFF (ds.foldl (fun b d => max b (deltaUnits d)) 0)
        let s := if s.rdSlot x.slot 0x1B < big then s.wr (0x4100 + x.slot) 0x1B big else s
        let s := if ds.any fun d => decide ((x.mu : Int) * d.2.1 < d.1 * 65536) then
            ((s.bumpSlot x.slot 0x19 1).flag (0x4100 + x.slot) 0x1C 0).wr 0x4200 0x07 x.slot
          else s
        if x.classB && !noBound x.flags && ds.any (outsideBound x) then
          (s.bumpSlot x.slot 0x1A 1).flag (0x4100 + x.slot) 0x1C 0
        else s

/-- The meaning of MONITOR_VERDICT. -/
def execMonitorVerdict (s : State) : Res := doneQuiet s (monitorVerdict s)

end Sys2Proof.Machine
end

