-- ==== Sys2Proof/Machine/Dispatch.lean ====
section
/-! DEFINITION. The dispatch of commands: one arm for each constructor of `Instr`, each a direct call of its meaning. -/

namespace Sys2Proof.Machine
open Sys2Proof

/-- What a command does to everything but the queue. -/
def exec (i : Instr) (s : State) : Host.Outcome State Fault Refusal :=
  match i with
  | .frameBoundary est => Sys2Proof.Machine.execFrameBoundary est s
  | .frameLengthArm r data => Sys2Proof.Machine.execFrameLengthArm r data s
  | .frameLengthChange => Sys2Proof.Machine.execFrameLengthChange s
  | .stepStart plan => Sys2Proof.Machine.execStepStart plan s
  | .driveVectorBroadcast mat rb token x hw => Sys2Proof.Machine.execDriveVectorBroadcast mat rb token x hw s
  | .arrayRead rid hw => Sys2Proof.Machine.execArrayRead rid hw s
  | .confidenceCheck rid => Sys2Proof.Machine.execConfidenceCheck rid s
  | .repeatReadMean rid hw => Sys2Proof.Machine.execRepeatReadMean rid hw s
  | .readGroupIdleEnd arr => Sys2Proof.Machine.execReadGroupIdleEnd arr s
  | .monitorSample rid => Sys2Proof.Machine.execMonitorSample rid s
  | .monitorVerdict => Sys2Proof.Machine.execMonitorVerdict s
  | .stripTree mat token cb strip die hw => Sys2Proof.Machine.execStripTree mat token cb strip die hw s
  | .partialMerge mat token block hw => Sys2Proof.Machine.execPartialMerge mat token block hw s
  | .secondPass slot planned hw => Sys2Proof.Machine.execSecondPass slot planned hw s
  | .blockMerge mat token block hw => Sys2Proof.Machine.execBlockMerge mat token block hw s
  | .rowReductionRecord mat token addr hw => Sys2Proof.Machine.execRowReductionRecord mat token addr hw s
  | .attentionSpan slot token head span hw => Sys2Proof.Machine.execAttentionSpan slot token head span hw s
  | .spanMerge slot token head hw => Sys2Proof.Machine.execSpanMerge slot token head hw s
  | .actArrival m => Sys2Proof.Machine.execActArrival m s
  | .stepWorkDone => Sys2Proof.Machine.execStepWorkDone s
  | .stepAck step run count child => Sys2Proof.Machine.execStepAck step run count child s
  | .stepDiscard step run reason entries => Sys2Proof.Machine.execStepDiscard step run reason entries s
  | .commitDeadline => Sys2Proof.Machine.execCommitDeadline s
  | .commit => Sys2Proof.Machine.execCommit s
  | .stepLeaseExpiry => Sys2Proof.Machine.execStepLeaseExpiry s
  | .inDoubt => Sys2Proof.Machine.execInDoubt s
  | .queryRetry => Sys2Proof.Machine.execQueryRetry s
  | .query step run src => Sys2Proof.Machine.execQuery step run src s
  | .queryAnswer step released => Sys2Proof.Machine.execQueryAnswer step released s
  | .inDoubtLeaseExpiry => Sys2Proof.Machine.execInDoubtLeaseExpiry s
  | .multicastCopy c => Sys2Proof.Machine.execMulticastCopy c s
  | .mack mcnum acked child => Sys2Proof.Machine.execMack mcnum acked child s
  | .release mcnum src => Sys2Proof.Machine.execRelease mcnum src s
  | .withdraw mcnum src => Sys2Proof.Machine.execWithdraw mcnum src s
  | .multicastDeadline mcnum => Sys2Proof.Machine.execMulticastDeadline mcnum s
  | .pendingCopyTimeout mcnum src => Sys2Proof.Machine.execPendingCopyTimeout mcnum src s
  | .schedCopy m => Sys2Proof.Machine.execSchedCopy m s
  | .abortEffect msgnum => Sys2Proof.Machine.execAbortEffect msgnum s
  | .cancelEffect msgnum => Sys2Proof.Machine.execCancelEffect msgnum s
  | .dipEffect msgnum => Sys2Proof.Machine.execDipEffect msgnum s
  | .resumeEffect msgnum => Sys2Proof.Machine.execResumeEffect msgnum s
  | .disableBurgee msgnum => Sys2Proof.Machine.execDisableBurgee msgnum s
  | .disableContext msgnum => Sys2Proof.Machine.execDisableContext msgnum s
  | .contextReset msgnum => Sys2Proof.Machine.execContextReset msgnum s
  | .limitEnd msgnum => Sys2Proof.Machine.execLimitEnd msgnum s
  | .ingressPoll => Sys2Proof.Machine.execIngressPoll s
  | .seqMismatchTimeout ring => Sys2Proof.Machine.execSeqMismatchTimeout ring s
  | .submit => Sys2Proof.Machine.execSubmit s
  | .candidates => Sys2Proof.Machine.execCandidates s
  | .abort => Sys2Proof.Machine.execAbort s
  | .cancel => Sys2Proof.Machine.execCancel s
  | .dip => Sys2Proof.Machine.execDip s
  | .resume => Sys2Proof.Machine.execResume s
  | .completionWrite => Sys2Proof.Machine.execCompletionWrite s
  | .report m => Sys2Proof.Machine.execReport m s
  | .reserveMove entry lane chunk => Sys2Proof.Machine.execReserveMove entry lane chunk s
  | .reserveExpiry entry => Sys2Proof.Machine.execReserveExpiry entry s
  | .restorePage entry lane chunk => Sys2Proof.Machine.execRestorePage entry lane chunk s
  | .restoreReport entry member => Sys2Proof.Machine.execRestoreReport entry member s
  | .pageZero page => Sys2Proof.Machine.execPageZero page s
  | .granuleZero granule => Sys2Proof.Machine.execGranuleZero granule s
  | .patrolScrub mat address found => Sys2Proof.Machine.execPatrolScrub mat address found s
  | .statusFrame => Sys2Proof.Machine.execStatusFrame s
  | .linkTimeExchange link sendPs => Sys2Proof.Machine.execLinkTimeExchange link sendPs s
  | .timeFlit link p arrTick arrPs => Sys2Proof.Machine.execTimeFlit link p arrTick arrPs s
  | .reparent => Sys2Proof.Machine.execReparent s
  | .loopGuardLapse => Sys2Proof.Machine.execLoopGuardLapse s
  | .rootHoldoverExpiry => Sys2Proof.Machine.execRootHoldoverExpiry s
  | .ptpMessage m => Sys2Proof.Machine.execPtpMessage m s
  | .ptpAnnounceTimeout => Sys2Proof.Machine.execPtpAnnounceTimeout s
  | .watchdogDeadline => Sys2Proof.Machine.execWatchdogDeadline s
  | .mastheadRestartComplete => Sys2Proof.Machine.execMastheadRestartComplete s
  | .watchdogRenew => Sys2Proof.Machine.execWatchdogRenew s
  | .housekeepingRound => Sys2Proof.Machine.execHousekeepingRound s
  | .housekeepingEvaluation h => Sys2Proof.Machine.execHousekeepingEvaluation h s
  | .comparatorTrip diode => Sys2Proof.Machine.execComparatorTrip diode s
  | .shutdownRelease => Sys2Proof.Machine.execShutdownRelease s
  | .supplyFault rail => Sys2Proof.Machine.execSupplyFault rail s
  | .supplyRelease => Sys2Proof.Machine.execSupplyRelease s
  | .pllLockLoss clock => Sys2Proof.Machine.execPllLockLoss clock s
  | .calibrationWindowStart => Sys2Proof.Machine.execCalibrationWindowStart s
  | .adcTrim arr adc range offset gain => Sys2Proof.Machine.execAdcTrim arr adc range offset gain s
  | .columnOffsetMeasure arr sums => Sys2Proof.Machine.execColumnOffsetMeasure arr sums s
  | .calibrationVectorReads arr => Sys2Proof.Machine.execCalibrationVectorReads arr s
  | .trimDecision => Sys2Proof.Machine.execTrimDecision s
  | .patternReadSet => Sys2Proof.Machine.execPatternReadSet s
  | .calibrationWindowEnd => Sys2Proof.Machine.execCalibrationWindowEnd s
  | .loadStart r data => Sys2Proof.Machine.execLoadStart r data s
  | .loadAbort r data => Sys2Proof.Machine.execLoadAbort r data s
  | .manifestVerify manifest layerTable directory recipes => Sys2Proof.Machine.execManifestVerify manifest layerTable directory recipes s
  | .nvmeReadComplete ok bytes => Sys2Proof.Machine.execNvmeReadComplete ok bytes s
  | .nvmeConnectionLoss => Sys2Proof.Machine.execNvmeConnectionLoss s
  | .keepAlive => Sys2Proof.Machine.execKeepAlive s
  | .sectionFetched sec stored => Sys2Proof.Machine.execSectionFetched sec stored s
  | .expertList member slots => Sys2Proof.Machine.execExpertList member slots s
  | .placementPlan => Sys2Proof.Machine.execPlacementPlan s
  | .programOperationStart arr => Sys2Proof.Machine.execProgramOperationStart arr s
  | .programPulse arr row col found => Sys2Proof.Machine.execProgramPulse arr row col found s
  | .programOperationEnd arr noise => Sys2Proof.Machine.execProgramOperationEnd arr noise s
  | .programOperationCap arr => Sys2Proof.Machine.execProgramOperationCap arr s
  | .imageReport member digest => Sys2Proof.Machine.execImageReport member digest s
  | .replaceSlot r data => Sys2Proof.Machine.execReplaceSlot r data s
  | .sectionRefetch sec stored => Sys2Proof.Machine.execSectionRefetch sec stored s
  | .descriptorSubmit r data => Sys2Proof.Machine.execDescriptorSubmit r data s
  | .descriptorStart engine => Sys2Proof.Machine.execDescriptorStart engine s
  | .copy engine seq parity => Sys2Proof.Machine.execCopy engine seq parity s
  | .transposeCopy engine seq parity => Sys2Proof.Machine.execTransposeCopy engine seq parity s
  | .fill engine seq parity => Sys2Proof.Machine.execFill engine seq parity s
  | .remoteWrite engine seq parity => Sys2Proof.Machine.execRemoteWrite engine seq parity s
  | .message engine seq parity => Sys2Proof.Machine.execMessage engine seq parity s
  | .descriptorComplete engine seq => Sys2Proof.Machine.execDescriptorComplete engine seq s
  | .remoteWriteArrival w => Sys2Proof.Machine.execRemoteWriteArrival w s
  | .messageArrival m => Sys2Proof.Machine.execMessageArrival m s
  | .answer a => Sys2Proof.Machine.execAnswer a s
  | .remoteWriteTimeout engine seq => Sys2Proof.Machine.execRemoteWriteTimeout engine seq s
  | .windowOpen r data => Sys2Proof.Machine.execWindowOpen r data s
  | .windowClose r data => Sys2Proof.Machine.execWindowClose r data s
  | .windowLeaseExpiry slot => Sys2Proof.Machine.execWindowLeaseExpiry slot s
  | .windowFree slot => Sys2Proof.Machine.execWindowFree slot s
  | .windowExpiryWrite r slot data => Sys2Proof.Machine.execWindowExpiryWrite r slot data s
  | .messageRingWrite r sub data => Sys2Proof.Machine.execMessageRingWrite r sub data s
  | .bufferLeaseExpiry ctx base => Sys2Proof.Machine.execBufferLeaseExpiry ctx base s
  | .creditLeaseExpiry link => Sys2Proof.Machine.execCreditLeaseExpiry link s
  | .linkTraining link => Sys2Proof.Machine.execLinkTraining link s
  | .trainingConverged link => Sys2Proof.Machine.execTrainingConverged link s
  | .trainingTimeout link => Sys2Proof.Machine.execTrainingTimeout link s
  | .trainingRetry link => Sys2Proof.Machine.execTrainingRetry link s
  | .infoFlit link p => Sys2Proof.Machine.execInfoFlit link p s
  | .flitReceive link f => Sys2Proof.Machine.execFlitReceive link f s
  | .replay link lack => Sys2Proof.Machine.execReplay link lack s
  | .lossOfSignal link lane => Sys2Proof.Machine.execLossOfSignal link lane s
  | .codewordLockLoss link => Sys2Proof.Machine.execCodewordLockLoss link s
  | .linkStateReport member bypassed => Sys2Proof.Machine.execLinkStateReport member bypassed s
  | .refuse7 id => Sys2Proof.Machine.execRefuse7 id s
  | .vc7Resend id => Sys2Proof.Machine.execVc7Resend id s
  | .regionChangeArm r data => Sys2Proof.Machine.execRegionChangeArm r data s
  | .regionChange => Sys2Proof.Machine.execRegionChange s
  | .linkEnable r data => Sys2Proof.Machine.execLinkEnable r data s
  | .bypassRelease r data => Sys2Proof.Machine.execBypassRelease r data s
  | .bypassDrive r data => Sys2Proof.Machine.execBypassDrive r data s
  | .ethPortTraining converged => Sys2Proof.Machine.execEthPortTraining converged s
  | .ethFrameReceive f => Sys2Proof.Machine.execEthFrameReceive f s
  | .neighborSolicitation target source => Sys2Proof.Machine.execNeighborSolicitation target source s
  | .echoRequest source dest data => Sys2Proof.Machine.execEchoRequest source dest data s
  | .packetTooBig dest mtu => Sys2Proof.Machine.execPacketTooBig dest mtu s
  | .rdmaWrite ring offset data ecn => Sys2Proof.Machine.execRdmaWrite ring offset data ecn s
  | .cnp ring => Sys2Proof.Machine.execCnp ring s
  | .localAckTimeout ring acked => Sys2Proof.Machine.execLocalAckTimeout ring acked s
  | .ringEnable r data => Sys2Proof.Machine.execRingEnable r data s
  | .ringDisable r data => Sys2Proof.Machine.execRingDisable r data s
  | .read r index sub => Sys2Proof.Machine.execRead r index sub s
  | .write r index sub data => Sys2Proof.Machine.execWrite r index sub data s
  | .readBlock r index sub offset => Sys2Proof.Machine.execReadBlock r index sub offset s
  | .writeBlock r index sub offset last data => Sys2Proof.Machine.execWriteBlock r index sub offset last data s
  | .blockTransferTimeout index sub => Sys2Proof.Machine.execBlockTransferTimeout index sub s
  | .pennant r mailbox word => Sys2Proof.Machine.execPennant r mailbox word s
  | .secured session xid intact => Sys2Proof.Machine.execSecured session xid intact s
  | .getCertificate xid offset length => Sys2Proof.Machine.execGetCertificate xid offset length s
  | .negotiateAlgorithms xid asym hash dhe aead sched => Sys2Proof.Machine.execNegotiateAlgorithms xid asym hash dhe aead sched s
  | .keyExchange xid => Sys2Proof.Machine.execKeyExchange xid s
  | .finish session xid name rootKey chainOk => Sys2Proof.Machine.execFinish session xid name rootKey chainOk s
  | .endSession session xid => Sys2Proof.Machine.execEndSession session xid s
  | .getMeasurements session xid nonce => Sys2Proof.Machine.execGetMeasurements session xid nonce s
  | .sessionTimeout session => Sys2Proof.Machine.execSessionTimeout session s
  | .sessionClose r data => Sys2Proof.Machine.execSessionClose r data s
  | .domainWake domain => Sys2Proof.Machine.execDomainWake domain s
  | .mailboxTake mailbox => Sys2Proof.Machine.execMailboxTake mailbox s
  | .echo mailbox => Sys2Proof.Machine.execEcho mailbox s
  | .status mailbox => Sys2Proof.Machine.execStatus mailbox s
  | .logFlush mailbox => Sys2Proof.Machine.execLogFlush mailbox s
  | .calDie mailbox => Sys2Proof.Machine.execCalDie mailbox s
  | .notice => Sys2Proof.Machine.execNotice s
  | .profileStore r data => Sys2Proof.Machine.execProfileStore r data s
  | .profileStoreComplete flashOk => Sys2Proof.Machine.execProfileStoreComplete flashOk s
  | .firmwareUpdate r data => Sys2Proof.Machine.execFirmwareUpdate r data s
  | .firmwareWriteComplete readback => Sys2Proof.Machine.execFirmwareWriteComplete readback s
  | .deviceResetCommand r data => Sys2Proof.Machine.execDeviceResetCommand r data s
  | .recoveryResetCommand r data => Sys2Proof.Machine.execRecoveryResetCommand r data s
  | .powerOnReset => Sys2Proof.Machine.execPowerOnReset s
  | .warmReset => Sys2Proof.Machine.execWarmReset s
  | .startupRelease posX posY posZ profile => Sys2Proof.Machine.execStartupRelease posX posY posZ profile s
  | .firmwareCheck => Sys2Proof.Machine.execFirmwareCheck s
  | .keyUnwrap pufOk => Sys2Proof.Machine.execKeyUnwrap pufOk s
  | .profileApply => Sys2Proof.Machine.execProfileApply s
  | .d2dTraining trained => Sys2Proof.Machine.execD2dTraining trained s
  | .memoryTraining ok => Sys2Proof.Machine.execMemoryTraining ok s
  | .ready => Sys2Proof.Machine.execReady s
  | .kvConfigWrite r sub data => Sys2Proof.Machine.execKvConfigWrite r sub data s
  | .logErase r data => Sys2Proof.Machine.execLogErase r data s
  | .faultRecordWrite => Sys2Proof.Machine.execFaultRecordWrite s
  | .leaveHalfMast r data => Sys2Proof.Machine.execLeaveHalfMast r data s
  | .halfMastWindowExpiry => Sys2Proof.Machine.execHalfMastWindowExpiry s
  | .contextResetRequest r data => Sys2Proof.Machine.execContextResetRequest r data s
  | .ethLoopbackMac r data => Sys2Proof.Machine.execEthLoopbackMac r data s
  | .ethLoopbackPcs r data => Sys2Proof.Machine.execEthLoopbackPcs r data s
  | .ethLoopbackPma r data => Sys2Proof.Machine.execEthLoopbackPma r data s
  | .ethLoopbackFarEnd r data => Sys2Proof.Machine.execEthLoopbackFarEnd r data s
  | .ethLoopbackEnd => Sys2Proof.Machine.execEthLoopbackEnd s
  | .linkLoopbackLinkLayer r link data => Sys2Proof.Machine.execLinkLoopbackLinkLayer r link data s
  | .linkLoopbackFecPcs r link data => Sys2Proof.Machine.execLinkLoopbackFecPcs r link data s
  | .linkLoopbackNearEndSerial r link data => Sys2Proof.Machine.execLinkLoopbackNearEndSerial r link data s
  | .linkLoopbackFarEndRemote r link data => Sys2Proof.Machine.execLinkLoopbackFarEndRemote r link data s
  | .ucieLoopback r die data => Sys2Proof.Machine.execUcieLoopback r die data s
  | .hbmLoopbackController r stack data => Sys2Proof.Machine.execHbmLoopbackController r stack data s
  | .hbmLoopbackPhy r stack data => Sys2Proof.Machine.execHbmLoopbackPhy r stack data s
  | .lpddrLoopbackController r device data => Sys2Proof.Machine.execLpddrLoopbackController r device data s
  | .lpddrLoopbackPhy r device data => Sys2Proof.Machine.execLpddrLoopbackPhy r device data s
  | .loopbackOff r index data => Sys2Proof.Machine.execLoopbackOff r index data s
  | .arrayTestTrimDac r data => Sys2Proof.Machine.execArrayTestTrimDac r data s
  | .arrayTestReference r data => Sys2Proof.Machine.execArrayTestReference r data s
  | .arrayTestStart => Sys2Proof.Machine.execArrayTestStart s
  | .arrayTestResult failing => Sys2Proof.Machine.execArrayTestResult failing s
  | .tapReset => Sys2Proof.Machine.execTapReset s
  | .idcode => Sys2Proof.Machine.execIdcode s
  | .samplePreload data => Sys2Proof.Machine.execSamplePreload data s
  | .extest data => Sys2Proof.Machine.execExtest data s
  | .extestPulse data => Sys2Proof.Machine.execExtestPulse data s
  | .extestTrain data => Sys2Proof.Machine.execExtestTrain data s
  | .clamp data => Sys2Proof.Machine.execClamp data s
  | .highz => Sys2Proof.Machine.execHighz s
  | .bypass opcode => Sys2Proof.Machine.execBypass opcode s
  | .privateInstruction opcode => Sys2Proof.Machine.execPrivateInstruction opcode s
  | .greundLinksFail die => Sys2Proof.Machine.execGreundLinksFail die s
  | .ethPortDown => Sys2Proof.Machine.execEthPortDown s
  | .cnpRateHalvingEnd ring => Sys2Proof.Machine.execCnpRateHalvingEnd ring s
  | .responseSigned => Sys2Proof.Machine.execResponseSigned s

end Sys2Proof.Machine
end

