-- ==== Sys2Proof/Machine/Step.lean ====
section
/-! DEFINITION. One step of the block: the command at the front of the queue, or one tick of Halyard where none waits; and
where a command that a word spells is put. -/

namespace Sys2Proof.Machine
open Sys2Proof

/-- One step: the command at the front of the queue takes effect on the state with the queue's rest; on an empty queue the
count advances by one tick of 1 ns (R31), up to the wrap, where the manual says that the N1 does not operate. -/
def step (s : State) : Host.Outcome State Fault Refusal :=
  match s.pending with
  | i :: rest => exec i { s with pending := rest }
  | [] => if s.count = BitVec.allOnes 64 then .fault .countWrap else .next { s with count := s.count + 1#64 }

/-- The command that a word spells put at the front of the queue; no row of the table has bits, so no word spells one. -/
def State.withFetchWord (s : State) (nbits w : Nat) : State :=
  match decodeTableWord nbits w with
  | some i => { s with pending := i :: s.pending }
  | none => s

end Sys2Proof.Machine
end

