-- ==== Sys2Proof/WellFormed.lean ====
section
/-! DEFINITION. Well-formed commands: every operand lies in the range that the manual gives its field. The machine does not ask for it;
an operand outside its range names nothing, and the command then has no effect. -/

namespace Sys2Proof
open Sys2Proof.Machine

/-- The fields of a request frame fit their widths, and a session is one of 64 (R364, R367). -/
def reqOk (r : DictReq) : Bool :=
  decide (r.magic < 65536) && decide (r.version < 256) && decide (r.op < 256) && decide (r.xid < 2 ^ 32) && r.session.all fun i => decide (i < 64)

/-- A request whose data fits one frame (R364). -/
def frameOk (r : DictReq) (data : Bytes) : Bool := reqOk r && decide (data.length ≤ 1024)

/-- An object's index and subindex (R371). -/
def objOk (index sub : Nat) : Bool := decide (index < 65536) && decide (sub < 256)

/-- A torus link (R296). -/
def linkOk (k : Nat) : Bool := decide (k < 6)

/-- A Greund die (R12). -/
def dieOk (d : Nat) : Bool := decide (d < 8)

/-- A physical array of the device (R471). -/
def arrOk (a : Nat) : Bool := decide (a < 33792)

/-- A request entry (R267). -/
def requestOk (q : Nat) : Bool := decide (q < 8192)

/-- A ring pair (R353). -/
def ringOk (r : Nat) : Bool := decide (r < 256)

/-- A DMA engine with a descriptor's sequence number (R211, R216). -/
def descOk (engine seq : Nat) : Bool := decide (engine < 16) && decide (seq < 2 ^ 32)

/-- A device position (R322). -/
def posOk (p : Nat) : Bool := decide (p < 262144)

/-- A U32. -/
def u32Ok (n : Nat) : Bool := decide (n < 2 ^ 32)

/-- A matrix-directory index, a column block or row block, and a batch token (R173, R277). -/
def workOk (mat block token : Nat) : Bool := decide (mat < 65536) && decide (block < 65536) && decide (token < 32768)

/-- A layer slot (R172). -/
def slotOk (n : Nat) : Bool := decide (n < 256)

/-- An operand vector of at most 1,024 signed 8-bit values (R151). -/
def vectorOk (x : List Int) : Bool := decide (x.length ≤ 1024) && x.all fun v => decide (-128 ≤ v) && decide (v ≤ 127)

/-- A housekeeping round: 63 codes of 12 bits, and the two codes of entry 63 (R409, R410). -/
def roundOk (h : HkRound) : Bool :=
  h.codes.length = 63 && (h.codes.all fun c => decide (c < 4096)) && decide (h.e63a < 4096) && decide (h.e63b < 4096)

/-- A window identifier is 16 bits, and an offset 32 (R219, R220). -/
def writeOk (w : RWrite) : Bool := decide (w.window < 65536) && u32Ok w.offset && descOk w.engine w.seq

/-- A flit's fields fit R304. -/
def flitOk (f : Flit) : Bool :=
  decide (f.vc < 8) && decide (f.dl < 2) && decide (f.ptype < 256) && posOk f.dst && posOk f.src && decide (f.payload.length ≤ 256)

/-- A plan of the sequencers: whole granules of contexts 0 to 1,023, and descriptors of 32 bytes for engines 0 to 15 (R202, R211, R213). -/
def planOk (p : SeqPlan) : Bool :=
  (p.allots.all fun a => decide (a.ctx < 1024) && decide (a.base < 2 ^ 40) && decide (a.base % 65536 = 0) && decide (a.count ≤ 2560)) &&
    p.submits.all fun x => decide (x.1 < 16) && x.2.length = 32

/-- Every operand of a command is in the range of its field. -/
def wellFormed : Instr → Bool
  | .frameBoundary _ | .frameLengthChange | .monitorVerdict | .stepWorkDone | .commitDeadline | .commit | .stepLeaseExpiry
  | .inDoubt | .queryRetry | .inDoubtLeaseExpiry | .ingressPoll | .submit | .candidates | .abort | .cancel | .dip | .resume
  | .completionWrite | .statusFrame | .reparent | .loopGuardLapse | .rootHoldoverExpiry | .ptpMessage _ | .ptpAnnounceTimeout
  | .watchdogDeadline | .mastheadRestartComplete | .watchdogRenew | .housekeepingRound | .shutdownRelease | .supplyRelease
  | .calibrationWindowStart | .trimDecision | .patternReadSet | .calibrationWindowEnd | .nvmeReadComplete _ _ | .nvmeConnectionLoss
  | .keepAlive | .placementPlan | .regionChange | .ethPortTraining _ | .ethFrameReceive _ | .notice | .profileStoreComplete _
  | .firmwareWriteComplete _ | .powerOnReset | .warmReset | .firmwareCheck | .keyUnwrap _ | .profileApply | .memoryTraining _ | .ready
  | .faultRecordWrite | .halfMastWindowExpiry | .ethLoopbackEnd | .arrayTestStart | .tapReset | .idcode | .samplePreload _ | .extest _
  | .extestPulse _ | .extestTrain _ | .clamp _ | .highz | .ethPortDown | .responseSigned | .actArrival _ | .queryAnswer _ _
  | .multicastCopy _ | .schedCopy _ | .report _ | .answer _ | .packetTooBig _ _ | .echoRequest _ _ _ => true
  | .frameLengthArm r d | .loadStart r d | .loadAbort r d | .replaceSlot r d | .descriptorSubmit r d | .windowOpen r d | .windowClose r d
  | .regionChangeArm r d | .linkEnable r d | .bypassRelease r d | .bypassDrive r d | .ringEnable r d | .ringDisable r d
  | .sessionClose r d | .deviceResetCommand r d | .recoveryResetCommand r d | .logErase r d | .leaveHalfMast r d
  | .contextResetRequest r d | .ethLoopbackMac r d | .ethLoopbackPcs r d | .ethLoopbackPma r d | .ethLoopbackFarEnd r d
  | .arrayTestTrimDac r d | .arrayTestReference r d => frameOk r d
  | .stepStart plan => planOk plan
  | .driveVectorBroadcast mat rb token x _ => workOk mat rb token && vectorOk x
  | .arrayRead _ _ | .confidenceCheck _ | .repeatReadMean _ _ | .monitorSample _ => true
  | .readGroupIdleEnd a | .calibrationVectorReads a | .programOperationStart a | .programOperationEnd a _ | .programOperationCap a => arrOk a
  | .stripTree mat token cb strip die _ => workOk mat cb token && decide (strip < 65536) && dieOk die
  | .partialMerge mat token block _ | .blockMerge mat token block _ => workOk mat block token
  | .secondPass slot _ _ => slotOk slot
  | .rowReductionRecord mat token addr _ => workOk mat 0 token && decide (addr < 2 ^ 40)
  | .attentionSpan slot token head span _ => slotOk slot && workOk 0 head token && u32Ok span
  | .spanMerge slot token head _ => slotOk slot && workOk 0 head token
  | .stepAck step run count child => u32Ok step && decide (run < 256) && u32Ok count && posOk child
  | .stepDiscard step run reason entries => u32Ok step && decide (run < 256) && decide (reason < 256) && entries.all requestOk
  | .query step run src => u32Ok step && decide (run < 256) && posOk src
  | .mack mcnum acked child => u32Ok mcnum && u32Ok acked && posOk child
  | .release mcnum src | .withdraw mcnum src | .pendingCopyTimeout mcnum src => u32Ok mcnum && posOk src
  | .multicastDeadline n | .abortEffect n | .cancelEffect n | .dipEffect n | .resumeEffect n | .disableBurgee n | .disableContext n
  | .contextReset n | .limitEnd n | .refuse7 n | .vc7Resend n => u32Ok n
  | .seqMismatchTimeout ring | .cnp ring | .localAckTimeout ring _ | .cnpRateHalvingEnd ring => ringOk ring
  | .rdmaWrite ring _ _ _ => ringOk ring
  | .reserveMove q lane chunk | .restorePage q lane chunk => requestOk q && decide (lane < 65536) && u32Ok chunk
  | .reserveExpiry q => requestOk q
  | .restoreReport q member => requestOk q && posOk member
  | .pageZero page => decide (page < 0x800000)
  | .granuleZero g => decide (g < 5120)
  | .patrolScrub _ address _ => decide (address < 2 ^ 40)
  | .linkTimeExchange link _ | .timeFlit link _ _ _ | .creditLeaseExpiry link | .linkTraining link | .trainingConverged link
  | .trainingTimeout link | .trainingRetry link | .infoFlit link _ | .codewordLockLoss link => linkOk link
  | .flitReceive link f => linkOk link && flitOk f
  | .replay link lack => linkOk link && decide (lack < 4096)
  | .lossOfSignal link lane => linkOk link && decide (lane < 16)
  | .housekeepingEvaluation h => roundOk h
  | .comparatorTrip diode => decide (diode < 24)
  | .supplyFault rail => decide (1 ≤ rail) && decide (rail ≤ 16)
  | .pllLockLoss clock => decide (clock < 4)
  | .adcTrim a adc range _ _ => arrOk a && decide (adc < 512) && decide (range < 4)
  | .columnOffsetMeasure a sums => arrOk a && decide (sums.length ≤ 560)
  | .manifestVerify _ _ _ _ => true
  | .sectionFetched sec _ | .sectionRefetch sec _ => decide (sec < 65536)
  | .expertList member slots => posOk member && slots.all fun x => slotOk x.1
  | .programPulse a row col _ => arrOk a && decide (row < 1024) && decide (col < 560)
  | .imageReport member digest => posOk member && digest.length = 64
  | .descriptorStart engine => decide (engine < 16)
  | .copy e q _ | .transposeCopy e q _ | .fill e q _ | .remoteWrite e q _ | .message e q _ => descOk e q
  | .descriptorComplete e q | .remoteWriteTimeout e q => descOk e q
  | .remoteWriteArrival w => writeOk w
  | .messageArrival m => decide (m.data.length ≤ 4096)
  | .windowLeaseExpiry slot | .windowFree slot => decide (slot < 128)
  | .windowExpiryWrite r slot d => frameOk r d && decide (slot < 128)
  | .messageRingWrite r sub d => frameOk r d && (sub = 4 || sub = 5)
  | .bufferLeaseExpiry ctx _ => decide (ctx < 1024)
  | .linkStateReport member byp => posOk member && byp.all posOk
  | .neighborSolicitation target source => target.length = 16 && source.length = 16
  | .read r index sub => reqOk r && objOk index sub
  | .write r index sub d => frameOk r d && objOk index sub
  | .readBlock r index sub offset => reqOk r && objOk index sub && u32Ok offset
  | .writeBlock r index sub offset _ d => frameOk r d && objOk index sub && u32Ok offset
  | .blockTransferTimeout index sub => objOk index sub
  | .pennant r mailbox _ => reqOk r && decide (mailbox < 256)
  | .secured session xid _ => decide (session < 65536) && u32Ok xid
  | .getCertificate xid offset length => u32Ok xid && decide (offset < 65536) && decide (length < 65536)
  | .negotiateAlgorithms xid _ _ _ _ _ | .keyExchange xid => u32Ok xid
  | .finish session xid _ _ _ | .endSession session xid => decide (session < 65536) && u32Ok xid
  | .getMeasurements session xid nonce => (session.all fun i => decide (i < 65536)) && u32Ok xid && nonce.length = 32
  | .sessionTimeout session => decide (session < 64)
  | .domainWake domain => decide (1 ≤ domain) && decide (domain ≤ 100)
  | .mailboxTake m | .echo m | .status m | .logFlush m | .calDie m => decide (m < 8)
  | .profileStore r d => reqOk r && decide (d.length ≤ 65536)
  | .firmwareUpdate r d => reqOk r && decide (d.length ≤ 33554432)
  | .startupRelease x y z p => decide (x < 64) && decide (y < 64) && decide (z < 64) && decide (p < 4)
  | .d2dTraining trained => trained.length = 8
  | .kvConfigWrite r sub d => frameOk r d && decide (1 ≤ sub) && decide (sub ≤ 4)
  | .linkLoopbackLinkLayer r k d | .linkLoopbackFecPcs r k d | .linkLoopbackNearEndSerial r k d | .linkLoopbackFarEndRemote r k d =>
    frameOk r d && linkOk k
  | .ucieLoopback r die d => frameOk r d && dieOk die
  | .hbmLoopbackController r stack d | .hbmLoopbackPhy r stack d => frameOk r d && decide (stack < 4)
  | .lpddrLoopbackController r device d | .lpddrLoopbackPhy r device d => frameOk r d && dieOk device
  | .loopbackOff r index d => frameOk r d && decide (0x7F00 ≤ index) && decide (index ≤ 0x7F3B)
  | .arrayTestResult failing => failing.all arrOk
  | .bypass opcode | .privateInstruction opcode => decide (opcode < 256)
  | .greundLinksFail die => dieOk die

end Sys2Proof
end

