-- ==== Sys2Proof/Safety.lean ====
section
/-! DEFINITION. What counts as a safe run, in the terms that the statements use. -/

namespace Sys2Proof.Machine
open Sys2Proof

/-- The two byte memories are in canonical form: device memory (R200) and the region that backs the ring pairs (R354). -/
def State.Canonical (s : State) : Prop := Memory.wf s.mem = true ∧ Memory.wf s.ringMem = true

/-- Every command that waits has its operands in the ranges of their fields. -/
def State.QueueWellFormed (s : State) : Prop := s.pending.all wellFormed = true

/-- A run of k steps from a state that neither faults nor is refused. -/
def Safe (k : Nat) (s : State) : Prop := ∃ t, Host.Core.run Sys2Proof.core k s = .next t

/-- Everything that the manual keeps through a reset, or that the port alone changes, is as it was: the boot flash and the test
access port. -/
def SameFlashAndTap (s t : State) : Prop := t.flash = s.flash ∧ t.tap = s.tap

/-- Every byte of both memories reads as before. -/
def SameMemory (s t : State) : Prop :=
  (∀ a, memRead t.mem a = memRead s.mem a) ∧ ∀ a, memRead t.ringMem a = memRead s.ringMem a

/-- The commands that neither store in a memory or the flash nor can start a reset. -/
def storesNothing : Instr → Bool
  | .frameBoundary _ | .stepStart _ | .blockMerge _ _ _ _ | .rowReductionRecord _ _ _ _ | .stepWorkDone | .stepAck _ _ _ _ |
    .stepDiscard _ _ _ _ | .commitDeadline | .mack _ _ _ | .release _ _ | .ingressPoll | .completionWrite |
    .reserveMove _ _ _ | .restorePage _ _ _ | .pageZero _ | .granuleZero _ | .watchdogDeadline | .housekeepingEvaluation _ |
    .comparatorTrip _ | .shutdownRelease | .supplyFault _ | .supplyRelease | .pllLockLoss _ | .placementPlan |
    .sectionRefetch _ _ | .copy _ _ _ | .transposeCopy _ _ _ | .fill _ _ _ | .descriptorComplete _ _ | .remoteWriteArrival _ |
    .messageArrival _ | .messageRingWrite _ _ _ | .write _ _ _ _ | .writeBlock _ _ _ _ _ _ | .profileStoreComplete _ |
    .firmwareWriteComplete _ | .powerOnReset | .warmReset | .profileApply | .memoryTraining _ | .ready | .faultRecordWrite |
    .tapReset | .idcode | .samplePreload _ | .extest _ | .extestPulse _ | .extestTrain _ | .clamp _ | .highz | .bypass _ |
    .privateInstruction _ => false
  | _ => true

/-- A counter advanced by n, wrapping at its length. -/
def Counted (s t : State) (index sub n : Nat) : Prop := t.rd index sub = (s.rd index sub + n) % objModulus index sub

/-! ## What a statement's hypotheses say in one word -/

/-- The responder takes the request up, and it repeats no XID of its session (R364, R367, R505). -/
def Served (r : DictReq) (s : State) : Prop :=
  s.dictUp = true ∧ r.magic = 0x5044 ∧ r.version = 1 ∧ s.backlog < 1088 ∧ repeated s r = none

/-- A request of an operator's open session with a known operation, on a device that is not in recovery mode (R10, R365, R381). -/
def ByOperator (r : DictReq) (s : State) : Prop :=
  Served r s ∧ roleOf s r = some .operator ∧ knownOp r.op = true ∧ s.boot.recovery = false

/-- No other session holds a block write open on an object (R365). -/
def NotBusy (r : DictReq) (s : State) (index sub : Nat) : Prop :=
  blockBusy s r index sub (instOf s r.session index sub) = false

/-- The last thing that left the device is the answer to the request: its status and a value. -/
def Answers (r : DictReq) (status : Nat) (value : Bytes) (t : State) : Prop :=
  t.out.getLast? = some (.dict r.xid r.session status false value)

/-- The step that this member holds, if it is open. -/
def OpenStep (s : State) (st : Step) : Prop := s.fab.step = some st ∧ st.resolved = false

/-- The device is the head or the tail of its region, which keep an entry until its completion is written (R269). -/
def KeepsEntries (s : State) : Prop := s.isHead = true ∨ s.isTail = true

/-- The scheduled command with a message number that this member holds is due now (R284, R334). -/
def DueNow (s : State) (m : SchedMsg) : Prop :=
  s.fab.scheds.find? (fun x => x.msgnum = m.msgnum && x.cmd = m.cmd && x.effect = s.beat) = some m

/-- The front of the entries that the poll has taken is a command for an entry that it names rightly (R283). -/
def FrontCommand (s : State) (t : Taken) (rest : List Taken) : Prop := s.taken = t :: rest ∧ namesEntry s t = true

/-- The rows that a descriptor writes are apart from the rows that it reads and from each other. -/
def RowsApart (d : Desc) : Prop :=
  (∀ p q i j, p < d.rows → q < d.rows → i < d.length → j < d.length → d.srcRow p + i ≠ d.dstRow q + j) ∧
  ∀ p q i j, p < d.rows → q < d.rows → p ≠ q → i < d.length → j < d.length → d.dstRow p + i ≠ d.dstRow q + j

/-- A byte outside every row that a descriptor writes. -/
def OutsideRows (d : Desc) (a : Nat) : Prop := ∀ q, q < d.rows → a < d.dstRow q ∨ d.dstRow q + d.length ≤ a

/-- A descriptor in progress that moves its rows now. -/
def MovesNow (s : State) (engine seq : Nat) (r : DescRun) : Prop :=
  s.run? engine seq = some r ∧ r.status = none ∧ r.row = 0 ∧ s.descWaits r.d = false

/-- SPDM requests are served: the responder is up, its queue has room, and the device is ready or in recovery mode (R364, R485, R505). -/
def SpdmServed (s : State) : Prop := s.dictUp = true ∧ s.backlog < 1088 ∧ (s.boot.ready = true ∨ s.boot.recovery = true)

/-- A word that Masthead has taken from mailbox m and acts on now, with its code. -/
def ActsOn (s : State) (m w code : Nat) : Prop :=
  s.masthead.on = true ∧ s.takenWord m = some w ∧ wordCode w = code ∧ wordOk w = true

/-- Masthead's answer stands in mailbox m: its code, the word's TAG and a value, with FULL set, and the word no longer waits. -/
def AnsweredWord (m w code value : Nat) (t : State) : Prop :=
  t.rd (0x1818 + m) 0x01 = code * 0x1000000 + wordTag w * 0x10000 + value ∧ bitOf (t.rd (0x1818 + m) 0x02) 0 = true ∧
    t.takenWord m = none

/-- A loopback write was accepted: the object holds v, and the table and memory are as before. -/
def Looped (r : DictReq) (index v : Nat) (s t : State) : Prop :=
  Answers r 0 [] t ∧ t.rd index 0x01 = v ∧ t.table = s.table ∧ t.mem = s.mem

/-- The Ethernet port was placed in a loopback that ends by itself after the duration in effect (R391, R513). -/
def EthLooped (r : DictReq) (v : Nat) (s t : State) : Prop :=
  Looped r 0x7F00 v s t ∧ t.rd 0x7F00 0x03 = s.beat + s.rd 0x7F00 0x02 ∧ t.portUp = false

/-- The device is held as under RESET_N by an instruction of the test access port, with its count running on (R523). -/
def HeldByTap (s t : State) : Prop :=
  t.tap.hold = true ∧ t.boot.released = false ∧ t.table = [] ∧ t.count = s.count ∧ t.pending = s.pending

end Sys2Proof.Machine
end

