-- ==== Sys2Proof/Certificates/Slice0/Obligations.lean ====
section
/-! DEFINITION. The statements for the provers. Each docstring names the rules of the manual that it formalises; where a clause
rests on a choice of the model, it names the log entry. -/

open Sys2Proof Sys2Proof.Machine

/-! ## The queue, the tick, and the whole machine -/

/-- The model's own rule of the block: a step runs the command at the front on the state with the queue's rest.
The model's own choices it rests on: log entry 1. -/
def Obligations.StepRunsTheFrontCommand : Prop :=
  ∀ (c : Instr) (rest : List Instr) (s : State), s.pending = c :: rest → step s = exec c { s with pending := rest }

/-- The model's own rule of the block: on an empty queue the count of R31 advances by one tick, and stops only where
it would wrap, where R31 says that the N1 does not operate.
The model's own choices it rests on: log entries 1, 2, 26. -/
def Obligations.IdleStepIsOneTick : Prop :=
  ∀ s : State, s.pending = [] →
    (s.count ≠ BitVec.allOnes 64 → step s = .next { s with count := s.count + 1#64 }) ∧
    (s.count = BitVec.allOnes 64 → step s = .fault .countWrap)

/-- Every command completes in every state, on every operand, and leaves the queue's rest as it was.
The model's own choices it rests on: log entries 3, 137. -/
def Obligations.EveryCommandCompletes : Prop :=
  ∀ (c : Instr) (s : State), ∃ t, exec c s = .next t ∧ t.pending = s.pending

/-- After a power-on reset both byte memories are in canonical form and list nothing, the queue is empty and the count is 0.
The model's own choices it rests on: log entries 7, 9. -/
def Obligations.ResetIsCanonical : Prop :=
  State.reset.Canonical ∧ State.reset.mem = [] ∧ State.reset.ringMem = [] ∧ State.reset.pending = [] ∧ State.reset.count = 0#64

/-- Every step, whatever command it runs, keeps both byte memories in canonical form.
The model's own choices it rests on: log entry 7. -/
def Obligations.EveryStepKeepsMemoryCanonical : Prop :=
  ∀ s t : State, s.Canonical → step s = .next t → t.Canonical

/-- What a command that neither stores in a memory nor starts a reset leaves as it was: device memory, ring memory, the flash and the
test access port.
The model's own choices it rests on: log entry 3. -/
def Obligations.QuietCommandsStoreNothing : Prop :=
  ∀ (c : Instr) (s t : State), storesNothing c = true → exec c s = .next t →
    t.mem = s.mem ∧ t.ringMem = s.ringMem ∧ t.flash = s.flash ∧ t.tap = s.tap

/-! ## The region's step: acknowledgement, decision, commit, discard, doubt (R335 to R339, R451, R465) -/

/-- R335: STEP_WORK_DONE at a member that holds its children's acknowledgements sends its own, with the members it speaks for;
R311, R335: STEP_ACK is combined under the child's number, and STEP_DISCARD goes on toward the tail. R336: at C_n − CL without a
decision, the tail decides DISCARD with commit beat C_n; the outcome is that of R545.
The model's own choices it rests on: log entries 4, 71. -/
def Obligations.AcknowledgementsClimbTheTailsTree : Prop :=
  (∀ (s : State) (st : Step), OpenStep s st → st.started = true → st.workDone = false → st.discardSent = false →
    st.ackSent = false → s.inService = true → (∀ r ∈ s.work.reads, r.phase = .done) → s.isTail = false →
    (∀ c ∈ s.tailChildren, ∃ a ∈ st.childAcks, a.1 = c) → s.fab.inDoubt = none → s.load.refetch = none → s.stripLost = false →
    ∃ t u, exec .stepWorkDone s = .next t ∧
      t.out = s.out ++ [.packet 0 0x02 s.tailParent st.num [st.num, st.run, 1 + st.childAcks.foldl (fun n c => n + c.2) 0]] ∧
      t.fab.step = some u ∧ u.workDone = true ∧ u.ackSent = true ∧ t.table = s.table ∧ t.obj = s.obj ∧ t.mem = s.mem) ∧
  (∀ (s : State) (st : Step) (count child : Nat), OpenStep s st → st.workDone = false →
    exec (.stepAck st.num st.run count child) s =
      .next (s.modStep fun x => { x with childAcks := sput child count x.childAcks })) ∧
  (∀ (s : State) (step run reason : Nat) (entries : List Nat), s.hasRegion = true → s.isTail = false →
    exec (.stepDiscard step run reason entries) s =
      .next (s.send (.packet 0 0x03 s.tailPos step ([step, run, reason, entries.length] ++ entries)))) ∧
  (∀ (s : State) (st : Step), OpenStep s st → s.isTail = true → st.decided = false → (∀ o ∈ s.fab.outs, o.mcnum ≠ s.fab.mcNext) →
      s.commitDeadlineOf st.frame ≤ s.beat + s.commitLead →
      ∃ t u d, exec .commitDeadline s = .next t ∧ t.fab.step = some u ∧ u.decided = true ∧ u.decision = some d ∧
        d.step = st.num ∧ d.run = st.run ∧ d.outcome ≠ 1 ∧ d.commitBeat = s.commitDeadlineOf st.frame ∧
        (st.discards = [] → d.outcome = 0) ∧ t.table = s.table ∧ t.count = s.count)

/-- R270, R337: at c a released DECISION(COMMIT) advances COMMITTED of every entry of the step by 1 and its accepted candidates
for GENERATE, by COUNT for a prefill, and changes no entry outside the step.
The model's own choices it rests on: log entries 4, 54. -/
def Obligations.CommitAdvancesEachEntryOfTheStep : Prop :=
  ∀ (s : State) (st : Step) (d : DecMsg), OpenStep s st → s.fab.inDoubt = none → st.decision = some d → st.released = true →
    st.withdrawn = false → d.outcome = 1 → d.commitBeat ≤ s.beat → (st.len.map (·.req)).Nodup →
    (∀ l ∈ st.len, (s.entry l.req).state = 1 ∨ (s.entry l.req).state = 2 ∨ (s.entry l.req).state = 3) →
    st.leftOut = [] → st.deferred = [] → (∀ r ∈ d.recs, r.mark = 0) →
    (∀ l ∈ st.len, l.kind = 2 → hasEncoder s.image = false ∧ hasOutputHead s.image = true) →
    ∃ t u, exec .commit s = .next t ∧ t.fab.step = some u ∧ u.resolved = true ∧
      (∀ l ∈ st.len,
        (t.entry l.req).committed = (s.entry l.req).committed + (if l.kind = 0 then
          1 + ((d.recs.find? fun r => r.entry = l.req).map (·.accept)).getD 0 else l.count) ∧
        (t.entry l.req).state = (if l.kind = 1 then 2 else 3)) ∧
      (∀ q, q ∉ st.len.map (·.req) → t.entry q = s.entry q) ∧ t.count = s.count ∧ t.mem = s.mem

/-- R337, R451: a withdrawn DECISION, and R338: the answer "discarded", discard the step on this member: no entry of the table
changes where no command waited for the step, and the step is resolved.
The model's own choices it rests on: log entry 4. -/
def Obligations.ADiscardedStepChangesNoEntry : Prop :=
  (∀ (s : State) (st : Step) (d : DecMsg), OpenStep s st → s.fab.inDoubt = none → st.decision = some d → st.withdrawn = true →
    d.commitBeat ≤ s.beat → st.deferred = [] → (∀ l ∈ st.len, (s.entry l.req).state ≠ 0) →
    ∃ t u, exec .commit s = .next t ∧ t.fab.step = some u ∧ u.resolved = true ∧ t.table = s.table ∧ t.mem = s.mem) ∧
  (∀ (s : State) (st : Step) (e : Nat), OpenStep s st → s.fab.inDoubt = some (st.num, e) → st.deferred = [] →
    (∀ l ∈ st.len, (s.entry l.req).state ≠ 0) →
    ∃ t u, exec (.queryAnswer st.num none) s = .next t ∧ t.fab.step = some u ∧ u.resolved = true ∧ t.fab.inDoubt = none ∧
      t.table = s.table ∧ t.mem = s.mem)

/-- R465: at the commit deadline the step's work is released, and a step that did not commit is counted as a forfeiture.
The model's own choices it rests on: log entries 4, 50. -/
def Obligations.TheStepLeaseReleasesItsWork : Prop :=
  ∀ (s : State) (st : Step), s.fab.step = some st → s.commitDeadlineOf st.frame ≤ s.beat →
    ∃ t, exec .stepLeaseExpiry s = .next t ∧ t.work.reads = [] ∧ t.work.blocks = [] ∧ t.work.merged = [] ∧ t.work.tiers = [] ∧
      (st.released = false → Counted s t 0x7001 0x08 1) ∧
      (st.released = true → st.decision.map (·.outcome) = some 1 → t.rd 0x7001 0x08 = s.rd 0x7001 0x08) ∧
      t.table = s.table ∧ t.mem = s.mem

/-- R338, R339: a member without an outcome at c is in doubt, asks the tail at once and every 16 beats, the tail answers with the
released DECISION or with "discarded", and a lease that ends without an answer takes the member to half-mast.
The model's own choices it rests on: log entry 4. -/
def Obligations.AMemberInDoubtAsksTheTail : Prop :=
  (∀ (s : State) (st : Step), OpenStep s st → s.fab.inDoubt = none → st.decision = none → st.visible = true →
    s.commitDeadlineOf st.frame ≤ s.beat →
    ∃ t, exec .inDoubt s = .next t ∧ t.fab.inDoubt = some (st.num, s.beat + s.rd 0x3102 0x05) ∧
      t.out = s.out ++ [.packet 0 0x09 s.tailPos st.num [st.num, st.run]] ∧ t.table = s.table ∧ t.mem = s.mem) ∧
  (∀ (s : State) (st : Step) (x : Nat × Nat), s.fab.step = some st → s.fab.inDoubt = some x → s.fab.lastQuery + 16 ≤ s.beat →
    exec .queryRetry s = .next ((s.send (.packet 0 0x09 s.tailPos st.num [st.num, st.run])).modFab fun f =>
      { f with lastQuery := s.beat })) ∧
  (∀ (s : State) (step run src : Nat), s.isTail = true →
    (∀ d ∈ s.fab.decisions, d.step = step → d.run = run → d.outcome ≠ 1) →
    exec (.query step run src) s = .next (s.send (.packet 1 0x13 src step [step, 0]))) ∧
  (∀ (s : State) (n e : Nat), s.fab.inDoubt = some (n, e) → e ≠ 0 → e ≤ s.beat →
    ∃ t, exec .inDoubtLeaseExpiry s = .next t ∧ t.fab.inDoubt = some (n, 0) ∧ t.faults.hmDue = s.faults.hmDue ++ [2] ∧
      Counted s t 0x7001 0x08 1 ∧ t.table = s.table ∧ t.mem = s.mem)

/-! ## Held and scheduled multicasts (R331 to R334) -/

/-- R332: a copy at a leaf is held as pending and acknowledged to the parent; the last MACK releases the sender's multicast down its
tree; a RELEASE makes a pending DECISION visible, and a WITHDRAW takes the copy away.
The model's own choices it rests on: log entry 52. -/
def Obligations.AHeldMulticastIsAcknowledgedAndReleased : Prop :=
  (∀ (s : State) (c : McCopy), s.hasRegion = true → s.inBox s.pos = true → copyChildren c.src c.mode c.targets s = [] →
    c.mode = 0 → c.parts = 1 → (∀ i ∈ s.fab.ins, ¬(i.mcnum = c.mcnum ∧ i.src = c.src)) → (∀ d, c.body ≠ .decision d) →
    ∃ t, exec (.multicastCopy c) s = .next t ∧
      t.fab.ins = s.fab.ins ++ [⟨c.mcnum, c.src, c.link, 0, c.targets, c.deadline, [c.part], 1, true, [], c.body⟩] ∧
      t.out = s.out ++ [.packet 1 0x10 (s.treeParent c.src s.pos) c.mcnum [c.mcnum, 1]] ∧ t.table = s.table ∧ t.obj = s.obj) ∧
  (∀ (s : State) (o : McOut) (d : DecMsg) (acked child : Nat), s.fab.outs = [o] → o.closed = false → o.body = .decision d →
    o.expected ≤ (sput child acked o.acked).foldl (fun n x => n + x.2) 0 →
    ∃ t, exec (.mack o.mcnum acked child) s = .next t ∧ t.fab.outs = [] ∧
      t.out = s.out ++ (s.treeChildren s.pos s.otherMembers).map (fun c => .packet 0 0x06 c o.mcnum [o.mcnum]) ∧
      t.table = s.table ∧ t.mem = s.mem) ∧
  (∀ (s : State) (i : McIn) (st : Step) (d : DecMsg), s.fab.ins = [i] → i.mode = 0 → i.parts.length = i.total →
    i.body = .decision d → OpenStep s st → st.num = d.step →
    ∃ t u, exec (.release i.mcnum i.src) s = .next t ∧ t.fab.ins = [] ∧ t.fab.step = some u ∧ u.released = true ∧
      u.decision = some d ∧ t.table = s.table ∧ t.mem = s.mem) ∧
  (∀ (s : State) (i : McIn) (b : BatchMsg), s.fab.ins = [i] → i.body = .batch b →
    ∃ t, exec (.withdraw i.mcnum i.src) s = .next t ∧ t.fab.ins = [] ∧ t.fab.step = s.fab.step ∧
      t.out = s.out ++ (s.treeChildren i.src s.otherMembers).map (fun c => .packet 0 0x07 c i.mcnum [i.mcnum]) ∧
      t.table = s.table ∧ t.obj = s.obj)

/-- R332, R333: a multicast without its MACKs at the deadline is withdrawn and counted; a pending BATCH without RELEASE or WITHDRAW
by its deadline plus L1 goes; R334, R50: a scheduled copy is held for its effect beat, or counted where it comes too late.
The model's own choices it rests on: log entries 4, 52. -/
def Obligations.MulticastsEndAtTheirDeadlines : Prop :=
  (∀ (s : State) (o : McOut) (b : BatchMsg), s.fab.outs = [o] → o.closed = false → o.body = .batch b → o.deadline ≤ s.beat →
    ∃ t, exec (.multicastDeadline o.mcnum) s = .next t ∧ t.fab.outs = [] ∧
      t.out = s.out ++ (s.treeChildren s.pos s.otherMembers).map (fun c => .packet 0 0x07 c o.mcnum [o.mcnum]) ∧
      Counted s t 0x3103 0x02 1 ∧ t.table = s.table ∧ t.mem = s.mem) ∧
  (∀ (s : State) (i : McIn) (b : BatchMsg), s.fab.ins = [i] → i.body = .batch b → i.deadline + s.rd 0x3102 0x02 ≤ s.beat →
    exec (.pendingCopyTimeout i.mcnum i.src) s = .next (s.modFab fun f => { f with ins := [] })) ∧
  (∀ (s : State) (m : SchedMsg), s.beat ≤ m.effect → m.msgnum ∉ s.fab.acted → m ∉ s.fab.scheds →
    exec (.schedCopy m) s = .next (s.modFab fun f => { f with scheds := f.scheds ++ [m] })) ∧
  (∀ (s : State) (m : SchedMsg), m.effect < s.beat → exec (.schedCopy m) s = .next (s.bump 0x3103 0x08 1))

/-! ## Scheduled commands at their effect beat (R278, R284 to R292) -/

/-- R286, R287: at e an ABORT, and a CANCEL of an entry that no step in flight holds, end a live entry as DONE with the final status
ABORTED or CANCELLED, and the tail completes the command OK; an ABORT that comes after the end is answered ABORT_LATE
and changes no entry of the table on the tail. R289, R292: a DIP of an entry in PREFILL or GENERATE that no step in flight holds makes
it DIPPED with its Reserve lease, and a RESUME returns it to the state it dipped from, RESTORING on the head.
The model's own choices it rests on: log entries 44, 46. -/
def Obligations.CommandsActAtTheirEffectBeat : Prop :=
  (∀ (s : State) (m : SchedMsg), DueNow s m → m.cmd = 1 → s.isTail = true → s.isHead = false →
    1 ≤ (s.entry m.target).state → (s.entry m.target).state ≤ 4 → (s.entry m.target).tag = m.tag →
    (s.entry m.target).ring ≠ m.ring → ∃ t c d, exec (.abortEffect m.msgnum) s = .next t ∧ (t.entry m.target).state = 5 ∧
      (t.ring (s.entry m.target).ring).finals = (s.ring (s.entry m.target).ring).finals ++ [c] ∧ c.status = 2 ∧
      c.entry = m.target ∧ c.tokens = [] ∧ c.final = true ∧
      (t.ring m.ring).cmds = (s.ring m.ring).cmds ++ [d] ∧ d.op = 3 ∧ d.status = 16 ∧ d.tag = m.tag ∧
      (∀ q, q ≠ m.target → t.entry q = s.entry q) ∧ t.mem = s.mem) ∧
  (∀ (s : State) (m : SchedMsg), DueNow s m → m.cmd = 2 → s.isTail = true → s.isHead = false → s.inFlight m.target = false →
    1 ≤ (s.entry m.target).state → (s.entry m.target).state ≤ 4 → (s.entry m.target).tag = m.tag →
    (s.entry m.target).ring ≠ m.ring → ∃ t c d, exec (.cancelEffect m.msgnum) s = .next t ∧ (t.entry m.target).state = 5 ∧
      (t.ring (s.entry m.target).ring).finals = (s.ring (s.entry m.target).ring).finals ++ [c] ∧ c.status = 3 ∧
      c.entry = m.target ∧ c.tokens = [] ∧ c.final = true ∧
      (t.ring m.ring).cmds = (s.ring m.ring).cmds ++ [d] ∧ d.op = 4 ∧ d.status = 16 ∧ d.tag = m.tag ∧
      (∀ q, q ≠ m.target → t.entry q = s.entry q) ∧ t.mem = s.mem) ∧
  (∀ (s : State) (m : SchedMsg), DueNow s m → m.cmd = 1 → s.isTail = true → s.isHead = false →
    (s.entry m.target).state = 5 → ∃ t d, exec (.abortEffect m.msgnum) s = .next t ∧
      (t.ring m.ring).cmds = (s.ring m.ring).cmds ++ [d] ∧ d.op = 3 ∧ d.status = 20 ∧ t.table = s.table ∧ t.mem = s.mem) ∧
  (∀ (s : State) (m : SchedMsg), DueNow s m → m.cmd = 3 → s.inFlight m.target = false → (s.entry m.target).tag = m.tag →
    (s.entry m.target).state = 2 ∨ (s.entry m.target).state = 3 →
    ∃ t, exec (.dipEffect m.msgnum) s = .next t ∧ (t.entry m.target).state = 4 ∧
      (t.entry m.target).dipfrom = (if (s.entry m.target).state = 3 then 1 else 0) ∧
      (t.entry m.target).ttlEnd = s.boundaryFrom s.beat + m.ttl * s.frameLen ∧
      (t.entry m.target).committed = (s.entry m.target).committed ∧
      (∀ q, q ≠ m.target → t.entry q = s.entry q) ∧ t.mem = s.mem) ∧
  (∀ (s : State) (m : SchedMsg), DueNow s m → m.cmd = 4 → (s.entry m.target).tag = m.tag → (s.entry m.target).state = 4 →
    ∃ t, exec (.resumeEffect m.msgnum) s = .next t ∧
      (t.entry m.target).state = (if (s.entry m.target).dipfrom = 1 then 3 else 2) ∧
      (t.entry m.target).restoring = s.isHead ∧ (t.entry m.target).ttlEnd = 0 ∧
      (t.entry m.target).committed = (s.entry m.target).committed ∧
      (∀ q, q ≠ m.target → t.entry q = s.entry q) ∧ t.mem = s.mem)


/-- R288, R278: at e every live entry of a disabled burgee or context that no step in flight holds is DONE on the head and the tail, and
a LIMIT_END ends a QUEUED entry.
The model's own choices it rests on: log entries 44, 53. -/
def Obligations.DisablesAndLimitsEndEntries : Prop :=
  (∀ (s : State) (m : SchedMsg) (q : Nat), DueNow s m → m.cmd = 5 → KeepsEntries s → s.inFlight q = false →
    1 ≤ (s.entry q).state → (s.entry q).state ≤ 4 → (s.entry q).burgee = m.target →
    ∃ t, exec (.disableBurgee m.msgnum) s = .next t ∧ (t.entry q).state = 5 ∧ t.mem = s.mem) ∧
  (∀ (s : State) (m : SchedMsg) (q : Nat), DueNow s m → m.cmd = 6 → KeepsEntries s → s.inFlight q = false →
    1 ≤ (s.entry q).state → (s.entry q).state ≤ 4 → (s.entry q).context = m.target →
    ∃ t, exec (.disableContext m.msgnum) s = .next t ∧ (t.entry q).state = 5 ∧ t.mem = s.mem) ∧
  (∀ (s : State) (m : SchedMsg), DueNow s m → m.cmd = 8 → KeepsEntries s → (s.entry m.target).state = 1 →
    ∃ t, exec (.limitEnd m.msgnum) s = .next t ∧ (t.entry m.target).state = 5 ∧
      (∀ q, q ≠ m.target → t.entry q = s.entry q) ∧ t.mem = s.mem)

/-! ## The Reserve tier and the page pool (R239, R290 to R292) -/

/-- R290 to R292, R239: a page of a dipped entry moves to a free Reserve page and its bytes go with it; expiry ends the entry; a Reserve
page of a resumed entry comes back; the head strikes off a member that has restored everything; a zeroed page is free again.
The model's own choices it rests on: log entry 41. -/
def Obligations.PagesMoveRestoreAndReturn : Prop :=
  (∀ (s : State) (q lane chunk p r : Nat) (s' : State), s.Canonical → (s.entry q).state = 4 → s.movePage q lane chunk = some p → p < 0x400000 →
    s.takeReserve (s.laneHalf lane) = some (r, s') → s.pool.used.contains p = true → s.pool.retired.contains p = false →
    ∃ t, exec (.reserveMove q lane chunk) s = .next t ∧ t.movePage q lane chunk = some r ∧ r ∈ t.pool.resUsed ∧
      p ∉ t.pool.used ∧ p ∈ t.pool.zeroing ∧ Counted s t 0x6003 0x04 1 ∧
      (∀ i, i < 65536 → memRead t.mem (r * 65536 + i) = memRead s.mem (p * 65536 + i)) ∧
      (∀ a, a < r * 65536 ∨ (r + 1) * 65536 ≤ a → memRead t.mem a = memRead s.mem a)) ∧
  (∀ (s : State) (q : Nat), (s.entry q).state = 4 → (s.entry q).ttlEnd ≤ s.beat → KeepsEntries s →
    ∃ t, exec (.reserveExpiry q) s = .next t ∧ (t.entry q).state = 5 ∧ (t.entry q).pages = [] ∧ Counted s t 0x6003 0x07 1 ∧
      Counted s t 0x7001 0x08 1 ∧ (∀ k, k ≠ q → t.entry k = s.entry k) ∧ t.mem = s.mem) ∧
  (∀ (s : State) (q lane chunk r p : Nat) (s' : State), s.Canonical → (s.entry q).state = 2 ∨ (s.entry q).state = 3 →
    s.movePage q lane chunk = some r → 0x400000 ≤ r → s.takePage (s.laneHalf lane) = some (p, s') →
    memReadN s.mem (r * 65536) 8 = pageHeader q lane chunk →
    ∃ t, exec (.restorePage q lane chunk) s = .next t ∧ t.movePage q lane chunk = some p ∧ r ∉ t.pool.resUsed ∧
      r ∈ t.pool.resZeroing ∧ Counted s t 0x6003 0x05 1 ∧
      (∀ i, i < 65536 → memRead t.mem (p * 65536 + i) = memRead s.mem (r * 65536 + i)) ∧
      (∀ a, a < p * 65536 ∨ (p + 1) * 65536 ≤ a → memRead t.mem a = memRead s.mem a)) ∧
  (∀ (s : State) (q member : Nat), s.isHead = true → (s.entry q).restoring = true →
    ∃ t, exec (.restoreReport q member) s = .next t ∧
      (t.entry q).awaiting = (s.entry q).awaiting.filter (· ≠ member) ∧ (∀ k, k ≠ q → t.entry k = s.entry k) ∧
      t.fab.mgmtQueue = s.fab.mgmtQueue.drop 1 ∧ t.mem = s.mem) ∧
  (∀ (s : State) (p : Nat), s.pool.zeroing.contains p = true →
    ∃ t, exec (.pageZero p) s = .next t ∧ p ∉ t.pool.zeroing ∧ Counted s t 0x6001 0x06 1 ∧
      (∀ a, p * 65536 ≤ a → a < (p + 1) * 65536 → memRead t.mem a = 0#8) ∧
      (∀ a, a < p * 65536 ∨ (p + 1) * 65536 ≤ a → memRead t.mem a = memRead s.mem a) ∧ t.table = s.table)

/-! ## Ingress and completions (R271 to R284, R357 to R362) -/

/-- R358: a poll takes the one entry that waits on the one enabled ring, for a credit; a SEQ that has mismatched for 64 beats
is answered MALFORMED by the tail. -/
def Obligations.ThePollTakesWaitingEntries : Prop :=
  (∀ (s : State) (ring : Nat), s.isHead = true → s.inService = true → s.landed = [] → ring < 256 →
    (∀ r, r < 256 → (s.rdI 0x1111 0x09 r = 1 ↔ r = ring)) → s.ringPi ring = ((s.ring ring).taken + 1) % 0x100000000 →
    s.ringPi ring ≠ (s.ring ring).taken → s.rdI 0x1111 0x0F ring ≠ 0 →
    (readIngress s ring (s.ring ring).taken).1 = (s.ring ring).taken % 65536 →
    schedFull s (readIngress s ring (s.ring ring).taken).2.op = false →
    malformed s (readIngress s ring (s.ring ring).taken).2 = false →
    ∃ t, exec .ingressPoll s = .next t ∧ t.taken = s.taken ++ [(readIngress s ring (s.ring ring).taken).2] ∧
      (t.ring ring).taken = ((s.ring ring).taken + 1) % 0x100000000 ∧ (t.ring ring).consumedDue = true ∧
      t.rdI 0x1111 0x0F ring = s.rdI 0x1111 0x0F ring - 1 ∧ t.table = s.table ∧ t.mem = s.mem ∧ t.ringMem = s.ringMem) ∧
  (∀ (s : State) (ring b : Nat), s.isHead = true → s.isTail = true → s.inService = true → (s.ring ring).mismatch = some b →
    b + 64 ≤ s.beat → s.rdI 0x1111 0x0F ring ≠ 0 →
    (readIngress s ring (s.ring ring).taken).1 ≠ (s.ring ring).taken % 65536 →
    ∃ t c, exec (.seqMismatchTimeout ring) s = .next t ∧ (t.ring ring).cmds = (s.ring ring).cmds ++ [c] ∧ c.status = 22 ∧
      (t.ring ring).taken = ((s.ring ring).taken + 1) % 0x100000000 ∧ (t.ring ring).mismatch = none ∧
      t.rdI 0x1111 0x0F ring = s.rdI 0x1111 0x0F ring - 1 ∧ t.taken = s.taken ∧ t.table = s.table ∧ t.mem = s.mem)

/-- R271, R272: a SUBMIT that meets every test becomes the lowest takeable entry, QUEUED, and is answered ACCEPTED; one without an
image in service is answered REJECTED with reason 1 and takes no entry. -/
def Obligations.SubmitAdmitsOrRejects : Prop :=
  (∀ (s s' : State) (t : Taken) (rest : List Taken) (q cls b : Nat) (ps : List Nat), s.taken = t :: rest → t.op = 1 →
    s.isTail = true → b = s.rdI 0x1111 0x01 t.ring → s.loadState = 4 → s.allReported = true → s.burgeeOf t.context = b →
    b ≠ 0xFFFF → s.rd (0x5100 + b) 0x01 = 1 → s.rdI 0x5021 0x02 t.context = 1 → policyClass (s.rd (0x5100 + b) 0x05) t.cls = some cls →
    0 < t.promptLen → t.promptLen < s.maxCtx → hasEncoder s.image = false →
    (s.entriesWhere fun e => live e && e.burgee = b).length < s.rd (0x5100 + b) 0x07 → s.freeEntryNo = some q →
    State.takePages 0 (ceilDiv (4 * t.promptLen) 65536) { s with taken := rest } = some (ps, s') →
    ∃ u c, exec .submit s = .next u ∧ (u.entry q).state = 1 ∧ (u.entry q).cls = cls ∧ (u.entry q).burgee = b ∧
      (u.entry q).context = t.context ∧ (u.entry q).promptLen = t.promptLen ∧ (u.entry q).tag = t.tag ∧
      (u.entry q).prompt = t.tokens ∧ (u.entry q).tokPages = ps ∧ (u.entry q).committed = 0 ∧ (u.entry q).ring = t.ring ∧
      (∀ k, k ≠ q → u.entry k = s.entry k) ∧ u.taken = rest ∧
      (u.ring t.ring).cmds = (s.ring t.ring).cmds ++ [c] ∧ c.status = 16 ∧ c.entry = q ∧ c.tag = t.tag ∧ u.mem = s.mem) ∧
  (∀ (s : State) (t : Taken) (rest : List Taken), s.taken = t :: rest → t.op = 1 → s.isTail = true → s.loadState ≠ 4 →
    ∃ u c, exec .submit s = .next u ∧ u.table = s.table ∧ u.pool = s.pool ∧ u.taken = rest ∧ u.rd 0x5002 0x0A = 1 ∧
      (u.ring t.ring).cmds = (s.ring t.ring).cmds ++ [c] ∧ c.status = 17 ∧ c.reason = 1 ∧ c.entry = 0xFFFF ∧ u.mem = s.mem)

/-- R284: ABORT, CANCEL, DIP and RESUME that name an entry rightly are multicast by the head under the next message number with
effect beat a + K; no step is composed for the entry until they are decided. A DIP with TTL 0 takes object 0x6003:01.
The model's own choices it rests on: log entry 44. -/
def Obligations.TheHeadMulticastsCommands : Prop :=
  ∀ (s : State) (t : Taken) (rest : List Taken), FrontCommand s t rest →
    (∀ (c : Instr) (op cmd ttl : Nat), (c, op, cmd, ttl) ∈ [(Instr.abort, 3, 1, 0), (Instr.cancel, 4, 2, 0),
        (Instr.dip, 5, 3, if t.ttl = 0 then s.rd 0x6003 0x01 else t.ttl), (Instr.resume, 6, 4, 0)] → t.op = op →
      ∃ u, exec c s = .next u ∧ u.taken = rest ∧
        u.fab.scheds = s.fab.scheds ++ [⟨s.fab.mcNext, t.ring, s.fab.msgNext, s.beat + (s.rd 0x3202 0x02 + 1), cmd, t.entry, t.tag, ttl⟩] ∧
        u.fab.msgNext = (s.fab.msgNext + 1) % 0x100000000 ∧
        (u.entry t.entry).cmdPending = (s.entry t.entry).cmdPending + 1 ∧ (u.entry t.entry).state = (s.entry t.entry).state ∧
        (∀ q, q ≠ t.entry → u.entry q = s.entry q) ∧ u.mem = s.mem) ∧
    (t.op = 2 → (s.entry t.entry).state = 3 → recurrentLayers s.image = [] →
      ∃ u, exec .candidates s = .next u ∧ (u.entry t.entry).cand = some (t.base, t.tokens) ∧
        (u.entry t.entry).state = 3 ∧ (∀ q, q ≠ t.entry → u.entry q = s.entry q) ∧ u.taken = rest ∧ u.mem = s.mem)

/-- R360, R362: at a completion beat the tail writes a waiting completion that fits, then PRODUCED.
The model's own choices it rests on: log entry 48. -/
def Obligations.TheTailWritesCompletions : Prop :=
  ∀ (s : State) (ring : Nat) (c : Compl), s.completionBeat = true → s.portUp = true → s.isTail = true → s.isHead = false →
    s.landed = [] → s.rings = [(ring, { Ring.idle with cmds := [c] })] → s.ringReady ring = true → s.ringRoom ring = true →
    s.table = [] → c.kind = 1 → c.final = false →
    ∃ t, exec .completionWrite s = .next t ∧
      t.out = s.out ++ [.completion c 0, .report s.headPos (.credit ring), .produced ring 1] ∧
      (t.ring ring).produced = 1 ∧ (t.ring ring).cmds = [] ∧ Counted s t 0x5002 0x08 1 ∧ t.table = [] ∧ t.mem = s.mem

/-- R361, R269, R237, R456: what the head and the tail do with a report: an outcome is queued as a command completion, a credit
returns, a written final frees the entry, backed pages end the wait, and errors are kept for the series.
The model's own choices it rests on: log entry 47. -/
def Obligations.ReportsReachTheirAddressee : Prop :=
  (∀ (s : State) (ring op tag entry status reason beat : Nat), s.isTail = true →
    exec (.report (.outcome ring op tag entry status reason beat none)) s =
      .next (s.modRing ring fun r => { r with cmds := r.cmds ++ [⟨ring, 1, status, tag, entry, [], op, reason, 0, 0, beat, false⟩] })) ∧
  (∀ (s : State) (ring : Nat), s.isHead = true →
    exec (.report (.credit ring)) s = .next (s.wrI 0x1111 0x0F ring (min 64 (s.rdI 0x1111 0x0F ring + 1)))) ∧
  (∀ (s : State) (q : Nat), s.isHead = true → s.inFlight q = false → (s.entry q).state = 5 →
    ∃ t, exec (.report (.freed q)) s = .next t ∧ t.entry q = Entry.free ∧ (∀ k, k ≠ q → t.entry k = s.entry k) ∧ t.mem = s.mem) ∧
  (∀ (s : State) (member q : Nat), s.isHead = true →
    ∃ t, exec (.report (.backed member [q])) s = .next t ∧ (t.entry q).poolWait = false ∧
      (∀ k, k ≠ q → t.entry k = s.entry k) ∧ t.obj = s.obj ∧ t.mem = s.mem) ∧
  (∀ (s : State) (member step run : Nat) (contexts : List Nat), s.isHead = true →
    exec (.report (.errors member step run contexts)) s =
      .next (s.modFab fun f => { f with reports := f.reports ++ [(member, run, contexts)] }))

/-! ## Halyard time (R33 to R44, R368) -/

/-- R33: an operator's write of an effect beat that is a boundary under both lengths and at least 64 beats ahead arms the change,
and at its beat the armed length is in effect; R33: a rejected arming write sets FRAME_MISMATCH and arms nothing.
The model's own choices it rests on: log entry 4. -/
def Obligations.FrameLengthChangesAtItsArmedBeat : Prop :=
  (∀ (s : State) (r : DictReq) (data : Bytes), ByOperator r s → NotBusy r s 0x1201 0x07 → data.length = 8 →
    64 ≤ s.rd 0x1201 0x06 → s.rd 0x1201 0x06 ≤ 65535 → beNat data % s.frameLen = 0 → beNat data % s.rd 0x1201 0x06 = 0 →
    s.beat + 64 ≤ beNat data →
    ∃ t, exec (.frameLengthArm r data) s = .next t ∧ t.time.armed = some (beNat data, s.rd 0x1201 0x06) ∧
      Answers r 0 [] t ∧ t.frameLen = s.frameLen ∧ t.table = s.table ∧ t.mem = s.mem) ∧
  (∀ (s : State) (r : DictReq) (data : Bytes), ByOperator r s → data.length = 8 → beNat data < s.beat + 64 →
    ∃ t, exec (.frameLengthArm r data) s = .next t ∧ t.time.armed = s.time.armed ∧ bitOf (t.rd 0x1200 0x0A) 5 = true ∧
      Answers r 3 [] t ∧ t.table = s.table ∧ t.mem = s.mem) ∧
  (∀ (s : State) (b n : Nat), s.time.armed = some (b, n) → b ≤ s.beat →
    ∃ t, exec .frameLengthChange s = .next t ∧ t.frameLen = n ∧ t.time.armed = none ∧ t.count = s.count ∧ t.table = s.table ∧
      t.mem = s.mem)

/-- R37, R309: every 16 beats a trained link sends one TIME flit with the device's lock state, bounds and root; R38, R39: a flit's
state and bounds are kept for its link, and the acting root changes nothing else for it but its counter.
The model's own choices it rests on: log entry 27. -/
def Obligations.TimeFlitsAreSentAndKept : Prop :=
  (∀ (s : State) (k ps : Nat), k < s.links.length → s.trained k = true → (s.link k).sentAt = [] →
    ¬(s.linkState k = 3 ∧ s.rd 0x1200 0x06 = k + 1) →
    ∃ t p, exec (.linkTimeExchange k ps) s = .next t ∧ t.out = s.out ++ [.time k p] ∧ p.sendTick = s.count.toNat ∧
      p.sync = s.rd 0x1200 0x03 ∧ p.regionBound = s.boundNow 0x04 ∧ p.rootBound = s.boundNow 0x05 ∧
      p.parentPos = s.parentPos ∧ (t.link k).timeSeq = ((s.link k).timeSeq + 1) % 65536 ∧ t.count = s.count ∧ t.table = s.table) ∧
  (∀ (s : State) (k tick ps : Nat) (p : TimePayload), k < s.links.length → s.trained k = true →
    ∃ t, exec (.timeFlit k p tick ps) s = .next t ∧ (t.link k).nbSync = p.sync ∧ (t.link k).nbRootBound = p.rootBound ∧
      (t.link k).nbRegionBound = p.regionBound ∧ (t.link k).nbParent = p.parentPos ∧ (t.link k).nbRootPos = p.rootPos ∧
      (s.rd 0x1200 0x03 ≠ 0 → t.count = s.count) ∧ t.table = s.table ∧ t.mem = s.mem)

/-- R44: a device in HOLDOVER without a parent takes an eligible neighbour whose advertised bound is below the one that it last
advertised, and, 64 beats after the loss, any eligible neighbour; R36, R368: what the end of holdover and of Announce do. R368, R35: on
a root-capable device an offset is reported, and the sixteenth beyond 1 µs in a row loses PTP lock; a device that is not
root-capable drops the message.
The model's own choices it rests on: log entry 30. -/
def Obligations.ParentsRootsAndPtpLockChange : Prop :=
  (∀ (s : State) (k : Nat), s.rd 0x1200 0x03 = 3 → s.rd 0x1200 0x06 = 0 → s.actingRoot = false →
    s.bestParent (fun j => s.eligible j && (s.time.guardLapsed || decide ((if s.byRegion then (s.link j).nbRegionBound
      else (s.link j).nbRootBound) < s.time.lastAdvertised))) = some k →
    ∃ t, exec .reparent s = .next t ∧ t.rd 0x1200 0x06 = k + 1 ∧ bitOf (t.rd 0x1200 0x0A) 4 = true ∧ t.count = s.count ∧
      t.table = s.table) ∧
  (∀ (s : State) (k b : Nat), s.rd 0x1200 0x03 = 3 → s.rd 0x1200 0x06 = 0 → s.actingRoot = false → s.time.lostAt = some b →
    b + 64 ≤ s.beat → s.bestParent s.eligible = some k →
    ∃ t, exec .loopGuardLapse s = .next t ∧ t.rd 0x1200 0x06 = k + 1 ∧ t.count = s.count ∧ t.table = s.table) ∧
  (∀ (s : State) (b : Nat), s.time.lockLostAt = some b → b + s.rd 0x1202 0x04 ≤ s.beat →
    ∃ t, exec .rootHoldoverExpiry s = .next t ∧ t.time.lockLostAt = none ∧ t.count = s.count ∧ t.table = s.table) ∧
  (∀ (s : State), s.rd 0x1202 0x01 = 1 → s.time.ptpLock = true →
    ∃ t, exec .ptpAnnounceTimeout s = .next t ∧ t.time.ptpLock = false ∧ t.rd 0x1104 0x02 = 1 ∧ t.count = s.count ∧
      t.table = s.table) ∧
  (∀ (s : State) (m : PtpMsg), s.rd 0x1202 0x01 ≠ 1 → exec (.ptpMessage m) s = .next s) ∧
  (∀ (s : State) (o : Int) (now : Nat), s.rd 0x1202 0x01 = 1 → s.portUp = true → s.time.ptpLock = true → s.time.ptpBad = 15 →
    1000 < o.natAbs →
    ∃ t, exec (.ptpMessage (.sync o now)) s = .next t ∧ t.time.ptpLock = false ∧ t.rd 0x1104 0x02 = 1 ∧
      t.rd 0x1202 0x05 = intBits 64 o ∧ t.count = s.count ∧ t.table = s.table) ∧
  (∀ (s : State) (o : Int) (now : Nat), s.rd 0x1202 0x01 = 1 → s.portUp = true → s.time.ptpLock = true → o.natAbs ≤ 50 →
    ∃ t, exec (.ptpMessage (.sync o now)) s = .next t ∧ t.time.ptpLock = true ∧ t.time.ptpBad = 0 ∧
      t.rd 0x1202 0x05 = intBits 64 o ∧ t.count = s.count ∧ t.table = s.table)


/-- R8: at a frame boundary of a device that runs, no pending value remains; R118, R49: nothing happens off a boundary.
The model's own choices it rests on: log entry 32. -/
def Obligations.TheBoundaryTakesPendingValues : Prop :=
  (∀ (s : State) (est : PowerEst), s.atBoundary = true → s.boot.released = true → s.power.s3 = none → s.boot.recovery = false →
    ∃ t, exec (.frameBoundary est) s = .next t ∧ t.pend = []) ∧
  (∀ (s : State) (est : PowerEst), s.atBoundary = false → exec (.frameBoundary est) s = .next s)

/-! ## The step's work (R51, R52, R73 to R91, R114 to R117, R127 to R143, R148 to R161, R240 to R249) -/

/-- R51, R76, R118: a member other than the head starts its part of the visible step of this frame, with the settings and the QMON
copies of its start beat, and without the work of earlier steps; the head composes no sequence in a blanked frame (R424). A run
of free granules that the sequencers allot becomes a buffer of its context (R202). The model's own choices it rests on: log
entries 56 and 75. -/
def Obligations.AStepStartsAtItsSlot : Prop :=
  (∀ (s : State) (plan : SeqPlan) (st : Step), OpenStep s st → s.synced = true → s.inService = true → s.hasRegion = true → s.fab.inDoubt = none →
    s.frameStart + s.slot ≤ s.beat → st.frame = s.frameStart → s.isHead = false → st.visible = true → st.started = false →
    ∃ t u, exec (.stepStart plan) s = .next t ∧ t.fab.step = some u ∧ u.started = true ∧ u.num = st.num ∧ u.len = st.len ∧
      t.work.snap.qmon = s.qmonCopy ∧ t.work.reads = [] ∧ t.work.merged = [] ∧ t.work.outs = [] ∧ t.table = s.table ∧
      t.mem = s.mem) ∧
  (∀ (s : State) (plan : SeqPlan), s.fab.step = none → s.fab.outs = [] → s.synced = true → s.inService = true → s.isHead = true →
    s.fab.inDoubt = none → s.frameStart + s.slot ≤ s.beat → s.blanked s.frameStart = true →
    ∃ t u, exec (.stepStart plan) s = .next t ∧ t.fab.step = some u ∧ u.started = true ∧ u.num = s.fab.nextStep ∧ u.len = [] ∧
      u.frame = s.frameStart ∧ t.fab.nextStep = s.fab.nextStep + 1 ∧ t.table = s.table ∧ t.mem = s.mem) ∧
  (∀ (s : State) (a : Allot) (st : Step), OpenStep s st → s.synced = true → s.inService = true → s.hasRegion = true → s.fab.inDoubt = none →
    s.frameStart + s.slot ≤ s.beat → st.frame = s.frameStart → s.isHead = false → st.visible = true → st.started = false →
    s.canAllot a = true →
    ∃ t, exec (.stepStart ⟨[a], []⟩) s = .next t ∧ t.bufs = s.bufs ++ [⟨a.ctx, a.base, 65536 * a.count, s.beat, false⟩] ∧
      t.mem = s.mem)

/-- R150, R151, R155: a broadcast lays down the tiers of a row block, C rows at most in each, and sends every array that holds it one
drive vector in which the rows of both tiers are zero. -/
def Obligations.TheDriveVectorLeavesOutTheTiers : Prop :=
  ∀ (s : State) (mat rb token : Nat) (x : List Int) (m : MatEntry) (l : LayerEntry), s.mat? mat = some m →
    s.layerOf? mat = some l → s.working = true → m.rbFirst ≤ rb → rb < m.rbFirst + m.rbCount → s.drivesMat m token = true →
    s.tier? mat rb token = none → m.role = 11 →
    ∃ t tr rs, exec (.driveVectorBroadcast mat rb token x .clean) s = .next t ∧
      t.work.tiers = s.work.tiers ++ [tr] ∧ t.work.reads = s.work.reads ++ rs ∧
      tr.mat = mat ∧ tr.rb = rb ∧ tr.token = token ∧ tr.x.length = blockRows m rb ∧
      tr.first.length ≤ s.recipe l.slot 9 ∧ tr.second.length ≤ s.recipe l.slot 9 ∧
      (∀ q ∈ rs, q.mat = mat ∧ q.rb = rb ∧ q.token = token ∧ q.drive.length = blockRows m rb ∧ q.asum = driveSum q.drive ∧
        ∀ i, i ∈ tr.first ∨ i ∈ tr.second → q.drive.getD i 0 = 0) ∧
      t.nextRid = s.nextRid + rs.length ∧ t.arrays = s.arrays ∧ t.table = s.table ∧ t.mem = s.mem

/-- R73, R59: an array that is free reads its drive vector once: 560 column totals, no cell changed; R86 to R88: the first check passes
the read on, starts its repeats, or delivers it with LOWCONF; R89: the mean of a group is checked once; R98: the idle time ends.
The model's own choices it rests on: log entries 11, 62. -/
def Obligations.ArrayReadsAreCheckedAndDelivered : Prop :=
  (∀ (s : State) (rid : Nat) (r : ReadRec), s.readRec? rid = some r → r.phase = .driven → s.working = true →
    s.readable r.arr = true → s.arrayBusy r.arr rid = false →
    ∃ t u o, exec (.arrayRead rid .clean) s = .next t ∧ t.readRec? rid = some u ∧ u.phase = .converted ∧
      u.reads = r.reads ++ [o] ∧ o.totals.length = 560 ∧ u.subphases ≥ r.subphases ∧ t.arrays = s.arrays ∧ t.table = s.table ∧
      t.mem = s.mem) ∧
  (∀ (s : State) (rid : Nat) (r : ReadRec) (o : ReadOut), s.readRec? rid = some r → r.reads = [o] → r.phase = .converted →
    s.working = true → checkPasses (goodRefs (s.arr r.arr)) (s.gainAt r.arr) r.tau r.asum r.rprod o.totals o.qsum = true →
    12 ≤ (goodRefs (s.arr r.arr)).length → (s.arr r.arr).failed = false → (∀ c, c < 512 → lostCol (s.arr r.arr) c = false) →
    ∃ t u, exec (.confidenceCheck rid) s = .next t ∧ t.readRec? rid = some u ∧ (u.phase = .done ∨ u.phase = .idle) ∧
      u.lowconf = false ∧ u.leaf.length = 512 ∧ t.table = s.table ∧ t.mem = s.mem) ∧
  (∀ (s : State) (rid : Nat) (r : ReadRec) (o : ReadOut), s.readRec? rid = some r → r.reads = [o] → r.phase = .converted →
    s.working = true → checkPasses (goodRefs (s.arr r.arr)) (s.gainAt r.arr) r.tau r.asum r.rprod o.totals o.qsum = false →
    ∃ t u, exec (.confidenceCheck rid) s = .next t ∧ t.readRec? rid = some u ∧
      (r.repeats ≠ 0 → u.phase = .repeating ∧ u.reads = [o]) ∧ (r.repeats = 0 → u.lowconf = true ∧ u.leaf.length = 512) ∧
      t.table = s.table ∧ t.mem = s.mem) ∧
  (∀ (s : State) (rid : Nat) (r : ReadRec), s.readRec? rid = some r → r.phase = .repeating → r.reads.length = 1 + r.repeats →
    s.working = true →
    ∃ t u, exec (.repeatReadMean rid .clean) s = .next t ∧ t.readRec? rid = some u ∧ (u.phase = .done ∨ u.phase = .idle) ∧
      u.leaf.length = 512 ∧ u.reads = r.reads ∧ t.table = s.table ∧ t.mem = s.mem) ∧
  (∀ (s : State) (a : Nat), (s.arr a).idleUntil ≠ 0 → (s.arr a).idleUntil ≤ s.count.toNat →
    ∃ t, exec (.readGroupIdleEnd a) s = .next t ∧ (t.arr a).idleUntil = 0 ∧ (∀ b, b ≠ a → t.arr b = s.arr b) ∧
      (∀ r ∈ t.work.reads, r.arr = a → r.phase ≠ .idle) ∧ t.table = s.table ∧ t.mem = s.mem)

/-- R130, R134: a whole strip whose leaves stay within 870,400 u leaves its die in block form: 32 mantissas of 16 bits for each of its
blocks, without saturation.
The model's own choices it rests on: log entry 60. -/
def Obligations.TheStripTreeFormsBlocks : Prop :=
  ∀ (s : State) (mat token cb die p : Nat) (rbs : List Nat) (m : MatEntry), s.mat? mat = some m → s.working = true →
    s.passes mat cb m = [(p, some die, rbs)] → (stripsOf m.k)[0]? = some (0, rbs.length) → p < rbs.length →
    (((s.arraysAt mat cb).filter fun x => rbs.contains x.2.rb).filterMap fun x =>
      (s.delivered x.1 token).map fun r => (x.2.rb, r)).length = rbs.length →
    (∀ r ∈ s.work.reads, ∀ v ∈ r.leaf, v.natAbs ≤ 870400) →
    (∀ b ∈ s.work.merged, ¬(b.mat = mat ∧ b.token = token ∧ b.block / 16 = cb)) →
    ∃ t bs, exec (.stripTree mat token cb 0 die .clean) s = .next t ∧ t.work.merged = s.work.merged ++ bs ∧
      bs.map (·.block) = ((List.range 16).filter fun i => decide (16 * cb + i < outBlocks m.n)).map (16 * cb + ·) ∧
      (∀ b ∈ bs, b.mat = mat ∧ b.token = token ∧ b.form = 0 ∧ b.vals.length = 32 ∧ ∀ v ∈ b.vals, -32768 ≤ v ∧ v ≤ 32767) ∧
      t.work.blocks = s.work.blocks ∧ t.table = s.table ∧ t.mem = s.mem

/-- R137, R139: the first pass of a divided block opens its buffer, and the last one closes it in block form; R161: second passes that fit
the reserve are all taken and clip nothing (R157).
The model's own choices it rests on: log entries 63, 66. -/
def Obligations.PassesMergeInOrder : Prop :=
  (∀ (s : State) (mat token block : Nat) (m : MatEntry) (v : List Int) (f : Nat), s.mat? mat = some m → s.working = true →
    2 ≤ (s.passes mat (block / 16) m).length → (∀ b ∈ s.work.merged, ¬(b.mat = mat ∧ b.token = token ∧ b.block = block)) →
    s.passBlock mat token block 0 = some (v, f) →
    ∃ t, exec (.partialMerge mat token block .clean) s = .next t ∧
      t.work.merged = s.work.merged ++ [⟨mat, token, block, 1, 1, 0, v, f⟩] ∧ t.work.blocks = s.work.blocks ∧ t.table = s.table ∧
      t.mem = s.mem) ∧
  (∀ (s : State) (mat token block n : Nat) (m : MatEntry) (b : Block) (v : List Int) (f : Nat), s.mat? mat = some m →
    s.working = true → (s.passes mat (block / 16) m).length = n + 1 → 1 ≤ n → s.work.merged = [b] → b.mat = mat →
    b.token = token → b.block = block → b.form = 1 → b.pass = n → s.passBlock mat token block n = some (v, f) →
    ∃ t c, exec (.partialMerge mat token block .clean) s = .next t ∧ t.work.merged = [c] ∧ c.form = 0 ∧ c.mat = mat ∧
      c.token = token ∧ c.block = block ∧ (bitOf f 2 = true → bitOf c.flags 2 = true) ∧ t.table = s.table ∧ t.mem = s.mem) ∧
  (∀ (s : State) (slot planned : Nat) (tr : Tier) (m : MatEntry), s.work.tiers = [tr] → s.slotOfMat tr.mat = slot →
    tr.secondDone = false → s.mat? tr.mat = some m → s.working = true →
    ceilDiv (tr.second.length * m.n) 1024 ≤ planned * s.work.snap.reserveClock * 12 / 100000 →
    ∃ t, exec (.secondPass slot planned .clean) s = .next t ∧
      t.work.tiers = [{ tr with secondDone := true, clippedLate := [] }] ∧ Counted s t (0x4100 + slot) 0x25 tr.second.length ∧
      t.table = s.table ∧ t.mem = s.mem)

/-- R160, R174: a block whose strip result and digital sums are present gives one output for each of its columns within N, requantised
where REQ asks; R231, R233, R240: a K or V block is stored at its token's entry of its page, data and scale, and nowhere else.
The model's own choices it rests on: log entry 65. -/
def Obligations.ABlockMergesIntoItsOutputs : Prop :=
  (∀ (s : State) (mat token block : Nat) (m : MatEntry) (l : LayerEntry) (b : Block), s.mat? mat = some m →
    s.layerOf? mat = some l → s.working = true → m.role = 0 → m.red % 8 = 0 →
    s.work.merged.find? (fun b => b.mat = mat && b.token = token && b.block = block && b.form = 0) = some b →
    (∀ i, i < m.rbCount → ∃ tr, s.tier? mat (m.rbFirst + i) token = some tr ∧ tr.secondDone = true) →
    s.out? mat token block = none →
    ∃ t o, exec (.blockMerge mat token block .clean) s = .next t ∧ t.work.outs = s.work.outs ++ [o] ∧ o.mat = mat ∧
      o.token = token ∧ o.block = block ∧ o.y.length = ((List.range 32).filter fun j => decide (32 * block + j < m.n)).length ∧
      o.z = (if m.req = 1 then o.y.map fun v => requant v m.rq else []) ∧ o.passed = o.y.map (fun v => f32Mul v m.xscale) ∧
      (∀ z ∈ o.z, -128 ≤ z ∧ z ≤ 127) ∧ t.table = s.table ∧ t.mem = s.mem) ∧
  (∀ (s t : State) (mat token block page : Nat) (m : MatEntry) (l : LayerEntry) (ln : LenEntry), s.mat? mat = some m →
    s.layerOf? mat = some l → l.kind = 1 → (m.role = 1 ∨ m.role = 2) → s.lineOf token = some ln →
    backedPage (s.entry ln.req) (laneOf s.image l (m.role = 2) (32 * block / l.headDim)) (positionOf ln token / s.kvT) = some page →
    exec (.blockMerge mat token block .clean) s = .next t →
    ∀ a, (let off := 32 * block % l.headDim
          let data := page * 65536 + 256 + positionOf ln token % s.kvT * s.kvData l.headDim +
            off / 32 * (if s.rd 0x6000 0x01 = 0 then 16 else 32)
          let scale := page * 65536 + 256 + s.kvT * s.kvData l.headDim + positionOf ln token % s.kvT * kvScales l.headDim + off / 32
          a ≠ scale ∧ (a < data ∨ data + 32 ≤ a)) → memRead t.mem a = memRead s.mem a)

/-- R142: once a row's last block has entered, its 16-byte record is stored at its address and nowhere else, its maximum in the lowest
four bytes where the matrix requests it.
The model's own choices it rests on: log entry 72. -/
def Obligations.TheRowReductionRecordIsStored : Prop :=
  ∀ (s : State) (mat token addr : Nat) (m : MatEntry), s.mat? mat = some m → s.working = true → m.red % 8 = 1 →
    outBlocks m.n ≤ (s.rowRed mat token).next →
    ∃ t, exec (.rowReductionRecord mat token addr .clean) s = .next t ∧
      memReadN t.mem addr 4 = leBytes 4 (s.rowRed mat token).max.toNat ∧
      (∀ a, a < addr ∨ addr + 16 ≤ a → memRead t.mem a = memRead s.mem a) ∧ t.table = s.table ∧ t.work.outs = s.work.outs

/-- R248, R249, R265: a span of a head whose pages' headers match gives its partial result, and one span alone merges to u ÷ ℓ; a page whose header
does not match is counted.
The model's own choices it rests on: log entry 73. -/
def Obligations.AttentionRunsSpanBySpan : Prop :=
  (∀ (s : State) (slot token head span qmat : Nat) (l : LayerEntry) (ln : LenEntry), s.layer? slot = some l →
    s.lineOf token = some ln → s.matOf l 0 0xFF = some qmat → s.working = true → 2048 * span < visibleEnd l ln token →
    head < l.heads → (∀ x ∈ s.work.spans, ¬(x.slot = slot ∧ x.token = token ∧ x.head = head ∧ x.span = span)) →
    s.rowDone qmat token = true → s.kvWritten l ln = true →
    (∀ lane c, headerOk s ((backedPage (s.entry ln.req) lane c).getD 0) ln.req lane c = true ∨
      (lane ≠ laneOf s.image l false (kvHeadOf l head) ∧ lane ≠ laneOf s.image l true (kvHeadOf l head)) ∨
      visibleEnd l ln token ≤ c * s.kvT) →
    ∃ t x, exec (.attentionSpan slot token head span .clean) s = .next t ∧ t.work.spans = s.work.spans ++ [x] ∧ x.slot = slot ∧
      x.token = token ∧ x.head = head ∧ x.span = span ∧ x.u.length = l.headDim ∧ t.table = s.table ∧ t.mem = s.mem) ∧
  (∀ (s : State) (slot token head : Nat) (l : LayerEntry) (ln : LenEntry) (x : SpanOut), s.layer? slot = some l →
    s.lineOf token = some ln → s.working = true → ceilDiv (visibleEnd l ln token) 2048 = 1 → s.work.spans = [x] →
    x.slot = slot → x.token = token → x.head = head → x.span = 0 → s.work.attn = [] →
    ∃ t, exec (.spanMerge slot token head .clean) s = .next t ∧
      sget [] (attnKey slot token head) t.work.attn = x.u.map (fun v => f32Div v x.l) ∧ t.work.spans = s.work.spans ∧
      t.table = s.table ∧ t.mem = s.mem)

/-- R52: what arrives for a step that is over is dropped, and an activation for the step in flight or a later one is held.
The model's own choices it rests on: log entry 70. -/
def Obligations.ArrivalsAreHeldForTheirStep : Prop :=
  ∀ (s : State) (step slot token flags : Nat) (x : List F32),
    ((s.fab.step.map (·.num)).getD s.fab.nextStep ≤ step → ∃ t, exec (.actArrival (.activation step slot token flags x)) s = .next t ∧
      t.work.acts = s.work.acts ++ [.activation step slot token flags x] ∧ t.work.reads = s.work.reads ∧ t.obj = s.obj ∧
      t.table = s.table) ∧
    (step < (s.fab.step.map (·.num)).getD s.fab.nextStep → exec (.actArrival (.activation step slot token flags x)) s = .next s)

/-- R114 to R116: a due sample whose block has left its die enters the queue; the oldest sample is judged and leaves it, counted as
discarded where its image is no longer in service.
The model's own choices it rests on: log entries 67, 68. -/
def Obligations.TheMonitorSamplesAndJudges : Prop :=
  (∀ (s : State) (rid pass strip : Nat) (d : SampleDue) (r : ReadRec) (m : MatEntry) (rbs : List Nat) (b : Block),
    s.work.samplesDue = [d] → d.rid = rid → s.readRec? rid = some r → s.mat? r.mat = some m →
    samplePart s r m = some (pass, rbs, true, strip) →
    s.work.merged.find? (fun b => b.mat = r.mat && b.token = r.token && b.block = d.block && b.form = 0) = some b →
    s.samples.length < 64 →
    ∃ t x, exec (.monitorSample rid) s = .next t ∧ t.samples = s.samples ++ [x] ∧ x.slot = r.slot ∧ x.mat = r.mat ∧
      x.flags = b.flags ∧ t.work.samplesDue = [] ∧ t.rd 0x4200 0x06 = s.samples.length + 1 ∧ Counted s t 0x4200 0x03 1 ∧
      t.table = s.table ∧ t.mem = s.mem) ∧
  (∀ (s : State) (x : Sample) (rest : List Sample), s.samples = x :: rest → x.digest ≠ s.image.digest →
    ∃ t, exec .monitorVerdict s = .next t ∧ t.samples = rest ∧ t.rd 0x4200 0x06 = rest.length ∧ Counted s t 0x4200 0x05 1 ∧
      t.table = s.table ∧ t.mem = s.mem) ∧
  (∀ (s : State) (x : Sample) (rest : List Sample) (m : MatEntry) (j : Nat), s.samples = x :: rest → x.digest = s.image.digest →
    s.img.isSome = true → s.mat? x.mat = some m → noVerdict x.flags = false → j < x.vals.length → x.slot < 256 →
    0 < (sampleDiff s x m j).2.1 →
    ∃ t, exec .monitorVerdict s = .next t ∧ t.samples = rest ∧ t.rd 0x4200 0x06 = rest.length ∧
      Counted s t (0x4100 + x.slot) 0x18 1 ∧ t.table = s.table ∧ t.mem = s.mem)

/-! ## Contexts, buffers and the scrubber (R178, R202, R227, R461 to R465) -/

/-- R202: a freed granule is zeroed before it is free; R465: an idle buffer's lease ends; R461, R462, R227: a requested context reset
is multicast by the head, and at e it ends the context's entries as FAULTED and closes its windows; R178: the scrubber counts
a corrected word of a backed page, and an uncorrectable word of the shadow has its section fetched again (R458).
The model's own choices it rests on: log entries 79, 86. -/
def Obligations.ContextsAreResetAndMemoryIsScrubbed : Prop :=
  (∀ (s : State) (g : Nat), s.granZero.contains g = true → ∃ t, exec (.granuleZero g) s = .next t ∧
    (∀ i, i < 65536 → memRead t.mem (granuleAddr g + i) = 0#8) ∧
    (∀ a, a < granuleAddr g ∨ granuleAddr g + 65536 ≤ a → memRead t.mem a = memRead s.mem a) ∧
    t.granZero.contains g = false ∧ t.bufs = s.bufs ∧ t.obj = s.obj ∧ t.table = s.table) ∧
  (∀ (s : State) (b : Buf), s.bufs.find? (fun x => x.ctx = b.ctx && x.base = b.base) = some b → b.live + 16 * s.frameLen ≤ s.beat →
    ∃ t, exec (.bufferLeaseExpiry b.ctx b.base) s = .next t ∧ t.bufs = s.bufs.filter (· ≠ b) ∧
      t.granZero = s.granZero ++ b.granules ∧ Counted s t 0x7001 0x08 1 ∧ t.table = s.table ∧ t.mem = s.mem) ∧
  (∀ (r : DictReq) (data : Bytes) (s : State), ByOperator r s → NotBusy r s 0x7003 0x02 → data.length = 2 → beNat data ≤ 1023 →
    s.isHead = true → ∃ t m, exec (.contextResetRequest r data) s = .next t ∧ Answers r 0 [] t ∧ m ∈ t.fab.scheds ∧ m.cmd = 7 ∧
      m.target = beNat data ∧ m.effect = s.beat + s.rd 0x3202 0x02 + 1 ∧ t.table = s.table ∧ t.mem = s.mem) ∧
  (∀ (s : State) (m : SchedMsg) (q : Nat), DueNow s m → m.cmd = 7 → KeepsEntries s → 1 ≤ (s.entry q).state →
    (s.entry q).state ≤ 4 → (s.entry q).context = m.target → ∃ t, exec (.contextReset m.msgnum) s = .next t ∧
      (t.entry q).state = 6 ∧ Counted s t 0x7001 0x05 1 ∧ t.mem = s.mem ∧
      ∀ w, (s.win w).state = 1 → (s.win w).ctx = m.target → (t.win w).state = 2 ∧ (t.win w).close = s.beat) ∧
  (∀ (s : State) (a : Nat), s.pool.used.contains (a / 65536) = true →
    exec (.patrolScrub none a .corrected) s = .next (s.bump 0x6001 0x07 1)) ∧
  (∀ (s : State) (m a : Nat), ∃ t, exec (.patrolScrub (some m) a .uncorrectable) s = .next t ∧ t.load.refetch = some (m, a) ∧
    Counted s t 0x7001 0x01 1 ∧ Counted s t 0x7001 0x04 1 ∧ t.table = s.table ∧ t.mem = s.mem)

/-! ## Housekeeping, thermal shutdown and supplies (R409 to R417, R433, R537) -/

/-- R409 to R416, R95: a round takes the sequence in effect; its evaluation writes every result register and temperature, T_max and
the count of rounds, holds a die whose reading is rejected in T4, enters throttle at 102.00 °C, and shuts the device down at
115.00 °C.
The model's own choices it rests on: log entries 99, 100, 101. -/
def Obligations.HousekeepingRoundsAreJudged : Prop :=
  (∀ s : State, s.boot.released = true → s.power.s3 = none → s.beat % 1953 = 0 →
    exec .housekeepingRound s = .next { s with hk := { s.hk with start := some s.beat, seqInUse := s.sequenceNow } }) ∧
  (∀ (s : State) (h : HkRound) (b : Nat), s.hk.start = some b → b + 1947 ≤ s.beat → s.power.s3 = none → maxJunction h s < 11500 →
    ∃ t, exec (.housekeepingEvaluation h) s = .next t ∧ t.hk.start = none ∧
      (∀ e, e < 64 → t.rd 0x2100 (e + 1) = h.code e) ∧
      (∀ i, i < 28 → t.rd 0x2102 (i + 1) = intBits 32 (readingOf h s (33 + i)).1) ∧
      t.rd 0x2103 0x01 = intBits 32 (maxJunction h s) ∧ Counted s t 0x2103 0x07 1 ∧
      (∀ d, d < 8 → (readingOf h s (33 + d)).2.2 = false → sget 0 d t.hk.bandNext = 4) ∧
      (10200 ≤ maxJunction h s → bitOf (t.rd 0x2103 0x06) 1 = true) ∧ t.table = s.table ∧ t.mem = s.mem) ∧
  (∀ (s : State) (h : HkRound) (b : Nat), s.hk.start = some b → b + 1947 ≤ s.beat → s.power.s3 = none → 11500 ≤ maxJunction h s →
    ∃ t, exec (.housekeepingEvaluation h) s = .next t ∧ t.power.s3 = some (8, s.beat) ∧ t.power.shdn = true ∧ t.count = s.count)

/-- R416, R417, R433, R447, R498: a comparator trip, a supply fault and the loss of the core PLL stop the device in S3 with BYP_HOLD released,
and the hold ends with a reset; the loss of VDD_AO is a power-on reset; another PLL takes down its links or the port (R537).
The model's own choices it rests on: log entries 104, 120. -/
def Obligations.ShutdownsHoldTheDevice : Prop :=
  (∀ (s : State) (diode : Nat), s.power.s3 = none → ∃ t r, exec (.comparatorTrip diode) s = .next t ∧
    t.power.s3 = some (8, s.beat) ∧ t.power.bypHold = 0 ∧ t.power.shdn = true ∧ t.power.pending = some r ∧ r.kind = 8 ∧
    r.unit = diode ∧ t.rd 0x2000 0x09 = 3 ∧ t.rd 0x2103 0x05 = 4 ∧ t.table = [] ∧ t.mem = [] ∧ t.count = s.count ∧
    t.flash.log = s.flash.log ∧ t.tap = s.tap) ∧
  (∀ (s : State) (b : Nat), s.power.s3 = some (8, b) → b + 976563 ≤ s.beat → ∃ t, exec .shutdownRelease s = .next t ∧
    t.power.s3 = none ∧ t.rd 0x1000 0x09 = 4 ∧ t.flash.resets = s.flash.resets + 1 ∧ t.count = s.count) ∧
  (∀ (s : State) (rail : Nat), s.power.s3 = none → 1 ≤ rail → rail ≤ 15 → ∃ t r, exec (.supplyFault rail) s = .next t ∧
    t.power.s3 = some (9, s.beat) ∧ t.power.bypHold = 0 ∧ t.power.shdn = true ∧ t.power.pending = some r ∧ r.kind = 9 ∧
    r.detail = rail ∧ t.rd 0x2103 0x05 = 0 ∧ t.count = s.count ∧ t.flash.log = s.flash.log ∧ t.tap = s.tap) ∧
  (∀ s : State, ∃ t, exec (.supplyFault 16) s = .next t ∧ t.count = 0#64 ∧ t.power.s3 = none ∧ t.rd 0x1000 0x09 = 0 ∧
    t.flash.resets = s.flash.resets + 1) ∧
  (∀ (s : State) (b : Nat), s.power.s3 = some (9, b) → b + 976563 ≤ s.beat → ∃ t, exec .supplyRelease s = .next t ∧
    t.power.s3 = none ∧ t.rd 0x1000 0x09 = 0 ∧ t.flash.resets = s.flash.resets + 1 ∧ t.count = s.count) ∧
  (∀ s : State, s.power.s3 = none → ∃ t, exec (.pllLockLoss 0) s = .next t ∧ t.power.s3 = some (9, s.beat)) ∧
  (∀ s : State, ∃ t, exec (.pllLockLoss 1) s = .next t ∧ (∀ k ∈ [0, 2, 4], t.linkState k = 0) ∧
    (∀ k ∈ [1, 3, 5], t.linkState k = s.linkState k) ∧ t.table = s.table ∧ t.mem = s.mem) ∧
  (∀ s : State, ∃ t, exec (.pllLockLoss 2) s = .next t ∧ (∀ k ∈ [1, 3, 5], t.linkState k = 0) ∧
    (∀ k ∈ [0, 2, 4], t.linkState k = s.linkState k) ∧ t.table = s.table ∧ t.mem = s.mem) ∧
  (∀ s : State, s.portUp = true → exec (.pllLockLoss 3) s = .next (s.wr 0x1100 0x03 0))

/-! ## Calibration windows (R420 to R429) -/

/-- R420, R422: the next window takes its die out of service and, at its end, is counted and gives it back; R426, R428: within a
FULL window the fits and sums of each array are kept as measured, γ of each weight column in use is formed, and the trims are
decided and held pending; R425: a routine window reads its pattern sets, which change the drift evidence alone.
The model's own choices it rests on: log entries 23, 110. -/
def Obligations.CalibrationWindowsMeasureAndTrim : Prop :=
  (∀ (s : State) (w : CalWin), s.nextWindow = some w → w.test = none → ∃ t, exec .calibrationWindowStart s = .next t ∧
    t.cal.current = some { w with start := s.beat } ∧ t.rd 0x2200 0x03 = w.die ∧ w ∉ t.cal.waiting ∧ t.arrays = s.arrays ∧
    t.table = s.table ∧ t.mem = s.mem) ∧
  (∀ (s : State) (w : CalWin) (a adc range : Nat) (offset gain : Int), s.inWindowAt 16 = some w → w.full = true → dieOf a = w.die →
    adc < 70 → range < 4 → s.cal.trimmed = false → ∃ t, exec (.adcTrim a adc range offset gain) s = .next t ∧
      ((a * 70 + adc) * 4 + range, offset, gain) ∈ t.cal.adcFits ∧
      (∀ y ∈ t.cal.adcFits, y.1 = (a * 70 + adc) * 4 + range → y.2 = (offset, gain)) ∧ t.arrays = s.arrays ∧ t.obj = s.obj) ∧
  (∀ (s : State) (w : CalWin) (a : Nat) (sums : List Int), s.inWindowAt 144 = some w → w.full = true → dieOf a = w.die →
    s.cal.trimmed = false → ∃ t, exec (.columnOffsetMeasure a sums) s = .next t ∧
      (∀ p, p < 560 → (a * 560 + p, sums.getD p 0) ∈ t.cal.colOffsets) ∧ t.arrays = s.arrays ∧ t.obj = s.obj) ∧
  (∀ (s : State) (w : CalWin) (a : Nat) (pl : Place), s.inWindowAt 176 = some w → w.full = true → s.cal.trimmed = false →
    (s.inServiceOn w.die).find? (fun x => x.1 = a) = some (a, pl) → (∀ y ∈ s.cal.colGains, y.1 / 560 ≠ a) →
    ∃ t, exec (.calibrationVectorReads a) s = .next t ∧
      (∀ p l, p < 560 → logicalOf (s.arr a) p = some l → 512 * pl.cb + l < ((s.mat? pl.mat).getD default).n →
        ∃ g, (a * 560 + p, g) ∈ t.cal.colGains) ∧ t.arrays = s.arrays ∧ t.obj = s.obj) ∧
  (∀ (s : State) (w : CalWin), s.inWindowAt 1200 = some w → w.full = true → s.cal.trimmed = false → w.die < s.dies.length →
    ∃ t, exec .trimDecision s = .next t ∧ t.cal.trimmed = true ∧ (t.die w.die).pendingTrims = (decideTrims s.cal).1 ∧
      (t.die w.die).pendingFail = (decideTrims s.cal).2 ∧ (t.die w.die).trims = (s.die w.die).trims ∧ t.arrays = s.arrays) ∧
  (∀ (s : State) (w : CalWin), s.cal.current = some w → w.test = none → w.full = false → w.start ≤ s.beat → s.cal.readBy = [] →
    s.loadState ≠ 3 → s.load.moves = [] → ∃ t, exec .patternReadSet s = .next t ∧
      t.cal.readBy = (s.inServiceOn w.die).map (·.1) ∧ t.obj = s.obj ∧
      ∀ a, (s.arr a).sxx3 ≤ (t.arr a).sxx3 ∧ (t.arr a).cells = (s.arr a).cells ∧ (t.arr a).gd = (s.arr a).gd ∧
        (a ∉ (s.inServiceOn w.die).map (·.1) → t.arr a = s.arr a)) ∧
  (∀ (s : State) (w : CalWin), s.cal.current = some w → w.test = none → w.answer = none → w.die < 8 → w.start + w.beats ≤ s.beat →
    s.dies.length = 8 → ∃ t, exec .calibrationWindowEnd s = .next t ∧ t.cal.current = none ∧ t.rd 0x2200 0x03 = 0xFF ∧
      Counted s t 0x2200 0x05 1 ∧ t.rd 0x2201 (w.die + 1) = s.beat ∧ (w.full = true → (t.die w.die).trimsReady = true) ∧
      t.arrays = s.arrays ∧ t.mem = s.mem)

/-! ## Loading an image (R171, R179 to R190, R261, R458, R509) -/

/-- R185, R186: an accepted write of 1 starts a load in VERIFYING and keeps the image in service; one that a request entry rejects sets
reason REQUESTS; a write of 2 ends the load in progress with reason ABORT, in VERIFYING without loss of the previous image. R171, R187,
R190: a manifest whose signature does not verify fails the load with reason SIGNATURE, and one that verifies in shape and tables
becomes the image to load; a plan that fits takes the load to LOADING with the previous image unloaded. R261, R509, R191: expert lists,
image reports and re-placement requests are kept.
The model's own choices it rests on: log entries 115, 116, 117. -/
def Obligations.LoadsStartVerifyAndPlace : Prop :=
  (∀ (r : DictReq) (b : Byte) (s : State), ByOperator r s → NotBusy r s 0x4000 0x10 → b = 1#8 → s.loading = false →
    s.requestsHold = false → s.controllerNamed = true → ∃ t, exec (.loadStart r [b]) s = .next t ∧ Answers r 0 [] t ∧
      t.loadState = 1 ∧ t.load.next = none ∧ t.rd 0x4000 0x13 = 0 ∧ t.rd 0x4000 0x16 = s.beat ∧ t.img = s.img ∧
      t.table = s.table ∧ t.mem = s.mem) ∧
  (∀ (r : DictReq) (b : Byte) (s : State), ByOperator r s → NotBusy r s 0x4000 0x10 → b = 1#8 → s.loading = false →
    s.requestsHold = true → ∃ t, exec (.loadStart r [b]) s = .next t ∧ Answers r 3 [] t ∧ t.loadState = s.loadState ∧
      t.rd 0x4000 0x12 = 12 ∧ t.img = s.img ∧ t.table = s.table ∧ t.mem = s.mem) ∧
  (∀ (r : DictReq) (b : Byte) (s : State), ByOperator r s → NotBusy r s 0x4000 0x10 → b = 2#8 → s.loading = true →
    ∃ t, exec (.loadAbort r [b]) s = .next t ∧ Answers r 0 [] t ∧ t.rd 0x4000 0x12 = 9 ∧ t.rd 0x4000 0x17 = 0xFFFF ∧
      (s.loadState = 1 → t.loadState = (if s.img.isSome then 4 else 0) ∧ t.img = s.img) ∧
      (s.loadState ≠ 1 → t.loadState = 5 ∧ t.img = none) ∧ t.table = s.table ∧ t.mem = s.mem) ∧
  (∀ (s : State) (manifest lt dir rec : Bytes) (h : ManifestHead), s.loadState = 1 → s.load.next = none →
    parseHead manifest = some h → ∃ t, exec (.manifestVerify manifest lt dir rec) s = .next t ∧ t.table = s.table ∧ t.mem = s.mem ∧
      ((∀ n, s.keyFor h.keyId 0 = some n →
          Config.rsaPssVerify n (signedPart manifest) (manifest.drop (manifest.length - 512)) = false) →
        t.rd 0x4000 0x12 = 2 ∧ t.load.next = none ∧ t.loadState = (if s.img.isSome then 4 else 0) ∧ t.img = s.img) ∧
      (∀ n layers mats recipes, s.keyFor h.keyId 0 = some n →
          Config.rsaPssVerify n (signedPart manifest) (manifest.drop (manifest.length - 512)) = true →
          s.load.reload = false → s.shape = h.region →
          ((ownSections s.ownIndex (parseSections manifest h.count)).any fun x => x.2.type = 1) = true →
          sectionsOk (ownSections s.ownIndex (parseSections manifest h.count)) = true →
          verifyTables h (ownSections s.ownIndex (parseSections manifest h.count)) lt dir rec = .inr (layers, mats, recipes) →
        ∃ img, t.load.next = some img ∧ img.layers = layers ∧ img.mats = mats ∧ img.recipes = recipes ∧
          img.digest = Config.sha512 (signedPart manifest) ∧ t.loadState = 1 ∧ t.img = s.img)) ∧
  (∀ (s : State) (img : Image) (plan : List (Nat × Place)), s.load.next = some img → s.loadState = 1 → s.listsWhole = true →
    expertMapOk img (s.load.lists ++ s.ownLists img) = true → loadPlan img s = some plan →
    ∃ t, exec .placementPlan s = .next t ∧ t.loadState = 2 ∧ t.load.plan = plan ∧ t.img = none ∧ t.rd 0x4000 0x14 = 0 ∧
      t.table = s.table ∧ t.mem = s.mem) ∧
  (∀ (s : State) (member : Nat) (slots : List (Nat × List Nat)), ∃ t, exec (.expertList member slots) s = .next t ∧
    (∀ x ∈ slots, (member, x.1, x.2) ∈ t.load.lists) ∧ (∀ y ∈ s.load.lists, y.1 ≠ member → y ∈ t.load.lists) ∧ t.obj = s.obj ∧
    t.table = s.table ∧ t.mem = s.mem) ∧
  (∀ (s : State) (member : Nat) (digest : Bytes), ∃ t, exec (.imageReport member digest) s = .next t ∧
    (∀ x ∈ t.fab.imageReports, x.1 = member → x.2 = digest) ∧ (member, digest) ∈ t.fab.imageReports ∧ t.obj = s.obj ∧
    t.table = s.table ∧ t.mem = s.mem) ∧
  (∀ (r : DictReq) (b : Byte) (s : State), ByOperator r s → NotBusy r s 0x4004 0x0A → ∃ t, exec (.replaceSlot r [b]) s = .next t ∧
    Answers r 0 [] t ∧ t.load.replace = s.load.replace ++ [b.toNat] ∧ t.arrays = s.arrays ∧ t.table = s.table ∧ t.mem = s.mem)


/-- R179 to R181, R458: bytes read are counted, a failed Read is retried, a lost connection is made anew, and a fetch with none left
fails with FETCH; a section with a wrong digest fails the load and names itself, and a good one is used; a refetch that fails takes
the device to half-mast.
The model's own choices it rests on: log entry 114. -/
def Obligations.SectionsAreFetched : Prop :=
  (∀ (s : State) (n : Nat), s.fetching = true →
    exec (.nvmeReadComplete true n) s = .next ((s.bump 0x4000 0x13 n).modLoad fun l => { l with retriesLeft := 2 })) ∧
  (∀ (s : State) (n k : Nat), s.fetching = true → s.load.retriesLeft = k + 1 → exec (.nvmeReadComplete false n) s =
    .next ((s.modLoad fun l => { l with retriesLeft := k }).send (.nvme "Read" 0))) ∧
  (∀ (s : State) (n : Nat), s.loadState = 1 → s.load.refetch = none → s.load.retriesLeft = 0 →
    ∃ t, exec (.nvmeReadComplete false n) s = .next t ∧ t.rd 0x4000 0x12 = 1 ∧
      t.loadState = (if s.img.isSome then 4 else 0) ∧ t.img = s.img ∧ t.table = s.table ∧ t.mem = s.mem) ∧
  (∀ s : State, s.fetching = true → s.load.reconnects = 3 → exec .nvmeConnectionLoss s =
    .next ((s.modLoad fun l => { l with reconnects := 2, connLostAt := s.beat }).send (.nvme "Connect" 0))) ∧
  (∀ s : State, s.fetching = true → exec .keepAlive s =
    .next ((s.modLoad fun l => { l with lastKeepAlive := s.beat }).send (.nvme "Keep Alive" 0))) ∧
  (∀ (s : State) (img : Image) (e : SectionEntry) (sec : Nat) (stored : Bytes), s.load.next = some img → s.loadState = 2 →
    s.load.toFetch.contains sec = true → img.sections[sec]? = some e → ∃ t, exec (.sectionFetched sec stored) s = .next t ∧
      (∀ reason, sectionContent e stored = .inl reason →
        t.rd 0x4000 0x12 = reason ∧ t.rd 0x4000 0x17 = sec ∧ t.loadState = 5 ∧ t.img = none) ∧
      (∀ c g o, sectionContent e stored = .inr c → useSection sec e c img = some g → o ∈ s.load.toFetch → o ≠ sec →
        t.load.next = some g ∧ t.load.toFetch = s.load.toFetch.filter (· ≠ sec) ∧ t.loadState = 2) ∧
      t.table = s.table ∧ t.mem = s.mem) ∧
  (∀ (s : State) (x : Nat × Nat) (sec : Nat) (stored : Option Bytes), s.load.refetch = some x → s.fab.step = none →
    ∃ t, exec (.sectionRefetch sec stored) s = .next t ∧ t.load.refetch = none ∧
      (stored = none → t.faults.hmDue = s.faults.hmDue ++ [6]) ∧
      (∀ b e, stored = some b → s.image.sections[sec]? = some e → Config.sha512 b = e.digest → t.faults = s.faults) ∧
      t.table = s.table ∧ t.mem = s.mem)

/-! ## Program-and-verify (R193 to R198) -/

/-- R194 to R196, R103: an operation counts a cycle and opens the array's pairs; a pair that verifies holds its target, and one that is
still below after 64 steps has failed and is counted; once every pair is closed the array is programmed, its drift gain is 1
and its programming beat is now; at 5.2 s the operation ends whatever is open.
The model's own choices it rests on: log entry 113. -/
def Obligations.ArraysAreProgrammedAndVerified : Prop :=
  (∀ (s : State) (a : Nat), s.awaitsProgram a = true → (s.arr a).prog = none → s.dieCanProgram (dieOf a) = true →
    s.programming (dieOf a) < (if s.loadPrograms then s.rd 0x4004 0x01 else s.rd 0x4004 0x02) → s.hk.vppHold = false →
    ∃ t, exec (.programOperationStart a) s = .next t ∧ (t.arr a).prog = some ⟨s.count.toNat, []⟩ ∧
      (t.arr a).cycles = (s.arr a).cycles + 1 ∧ (t.arr a).programmed = false ∧ Counted s t 0x4004 0x09 1 ∧
      (∀ b, b ≠ a → t.arr b = s.arr b) ∧ t.table = s.table ∧ t.mem = s.mem) ∧
  (∀ (s : State) (a row col : Nat) (op : ProgOp) (pl : Place), (s.arr a).prog = some op → s.targetPlace a = some pl →
    col < 560 → row < 1024 → (sget PairOp.fresh (1024 * col + row) op.pairs).closed = false →
    (sget PairOp.fresh (1024 * col + row) op.pairs).failed = false → s.dieCanProgram (dieOf a) = true →
    ∃ t, exec (.programPulse a row col .verified) s = .next t ∧
      sget 0 (1024 * col + row) (t.arr a).cells = targetLevel s.sourceImage (s.arr a) pl col row ∧
      (∀ k, k ≠ 1024 * col + row → sget 0 k (t.arr a).cells = sget 0 k (s.arr a).cells) ∧
      (∀ b, b ≠ a → t.arr b = s.arr b) ∧ t.obj = s.obj ∧ t.table = s.table ∧ t.mem = s.mem) ∧
  (∀ (s : State) (a row col : Nat) (op : ProgOp) (pl : Place), (s.arr a).prog = some op → s.targetPlace a = some pl →
    col < 560 → row < 1024 → (sget PairOp.fresh (1024 * col + row) op.pairs).closed = false →
    (sget PairOp.fresh (1024 * col + row) op.pairs).total = 63 → targetLevel s.sourceImage (s.arr a) pl col row ≠ 0 →
    s.dieCanProgram (dieOf a) = true → ∃ t, exec (.programPulse a row col .below) s = .next t ∧ Counted s t 0x4004 0x08 1 ∧
      (t.arr a).cells = (s.arr a).cells ∧ (∀ b, b ≠ a → t.arr b = s.arr b) ∧ t.table = s.table ∧ t.mem = s.mem) ∧
  (∀ (s : State) (a : Nat) (noise : List Nat) (op : ProgOp) (pl : Place), (s.arr a).prog = some op → s.targetPlace a = some pl →
    (∀ x ∈ op.pairs, x.2.closed = true ∧ x.2.failed = false) →
    (∀ l, l < 512 → lostCol (mapColumns (s.arr a) [] noise) l = false) →
    ∃ t, exec (.programOperationEnd a noise) s = .next t ∧ (t.arr a).prog = none ∧ (t.arr a).programmed = true ∧
      (t.arr a).progBeat = s.beat ∧ (t.arr a).gd = f32One ∧ (t.arr a).retired = (s.arr a).retired ∧
      (∀ b, b ≠ a → t.arr b = s.arr b) ∧ t.table = s.table ∧ t.mem = s.mem) ∧
  (∀ (s : State) (a : Nat) (op : ProgOp) (pl : Place), (s.arr a).prog = some op → s.targetPlace a = some pl →
    op.start + 5200000000 ≤ s.count.toNat → (∀ y ∈ s.load.plan, y.1 ≠ a) →
    ∃ t, exec (.programOperationCap a) s = .next t ∧ (t.arr a).prog = none ∧ (t.arr a).progBeat = s.beat ∧
      (∀ b, b ≠ a → t.arr b = s.arr b) ∧
      Counted s t 0x4004 0x08 (op.pairs.filter fun x => !x.2.closed && !x.2.failed).length ∧ t.table = s.table ∧ t.mem = s.mem)

/-! ## DMA (R206, R211 to R216, R220, R222, R225) -/

/-- R212, R214, R216: a descriptor enters its engine's queue under the next sequence number, or is refused where 64 wait; the front one
starts after its fence and is checked; a complete one writes its 16-byte record, or nothing where it asks for none. R220, R222, R225: a
REMOTE_WRITE sends each row as writes of at most 4,096 bytes and a MESSAGE its one row, and neither changes memory here; an answer of OK
adds its bytes and the first refusal gives the status; 64 beats without an answer end in TIMEOUT.
The model's own choices it rests on: log entries 76, 78. -/
def Obligations.DescriptorsRunFromQueueToCompletion : Prop :=
  (∀ (r : DictReq) (data : Bytes) (s : State), ByOperator r s → NotBusy r s 0x3210 0x01 → data.length = 32 →
    (s.engine (s.rd 0x3210 0x02)).queue.length < 64 → ∃ t, exec (.descriptorSubmit r data) s = .next t ∧ Answers r 0 [] t ∧
      (t.engine (s.rd 0x3210 0x02)).queue = (s.engine (s.rd 0x3210 0x02)).queue ++
        [parseDesc (s.engine (s.rd 0x3210 0x02)).nextSeq data] ∧
      (t.engine (s.rd 0x3210 0x02)).nextSeq = ((s.engine (s.rd 0x3210 0x02)).nextSeq + 1) % 0x100000000 ∧
      t.rd 0x3210 0x03 = 0 ∧ (∀ n, n ≠ s.rd 0x3210 0x02 → t.engine n = s.engine n) ∧ t.mem = s.mem) ∧
  (∀ (r : DictReq) (data : Bytes) (s : State), ByOperator r s → NotBusy r s 0x3210 0x01 → data.length = 32 →
    64 ≤ (s.engine (s.rd 0x3210 0x02)).queue.length → ∃ t, exec (.descriptorSubmit r data) s = .next t ∧ Answers r 3 [] t ∧
      t.rd 0x3210 0x03 = 1 ∧ t.dma = s.dma ∧ t.mem = s.mem) ∧
  (∀ (s : State) (n : Nat) (d : Desc) (rest : List Desc), (s.engine n).queue = d :: rest → (s.engine n).running.length < 8 →
    (d.fence = true → (s.engine n).running = []) → n < 16 → ∃ t, exec (.descriptorStart n) s = .next t ∧
      (t.engine n).queue = rest ∧ (t.engine n).running = (s.engine n).running ++ [⟨d, 0, 0, 0, s.beat, descCheck n d s⟩] ∧
      (∀ k, k ≠ n → t.engine k = s.engine k) ∧ t.obj = s.obj ∧ t.mem = s.mem) ∧
  (∀ (s : State) (n seq k : Nat) (r : DescRun), s.run? n seq = some r → complete r = true → r.d.complEn = true →
    s.looped r.d.compl = false → rangeOf r.d.compl 16 = some k → farStaging n k = false → n < 16 →
    ∃ t, exec (.descriptorComplete n seq) s = .next t ∧
      memReadN t.mem r.d.compl 16 = completionRecord r.d (r.status.getD 0) r.bytes ∧
      (∀ a, a < r.d.compl ∨ r.d.compl + 16 ≤ a → memRead t.mem a = memRead s.mem a) ∧ t.run? n seq = none ∧
      Counted s t 0x3201 (n + 1) 1 ∧ t.table = s.table) ∧
  (∀ (s : State) (n seq : Nat) (r : DescRun), s.run? n seq = some r → complete r = true → r.d.complEn = false →
    ∃ t, exec (.descriptorComplete n seq) s = .next t ∧ t.mem = s.mem ∧ t.run? n seq = none) ∧
  (∀ (s : State) (n seq : Nat) (r : DescRun), MovesNow s n seq r → r.d.op = 2 → 1 ≤ r.d.length → r.d.length ≤ 4096 →
    ∃ t, exec (.remoteWrite n seq none) s = .next t ∧
      t.out = s.out ++ (List.range r.d.rows).map (fun q =>
        .dmaWrite n r.d.seq r.d.target r.d.window (r.d.dstRow q) s.beat (memReadN s.mem (r.d.srcRow q) r.d.length)) ∧
      t.run? n seq = some { r with row := r.d.rows, unanswered := r.d.rows, lastIssue := s.beat } ∧ t.obj = s.obj ∧ t.mem = s.mem) ∧
  (∀ (s : State) (n seq : Nat) (r : DescRun), MovesNow s n seq r → r.d.op = 3 → r.d.rows = 1 →
    ∃ t, exec (.message n seq none) s = .next t ∧
      t.out = s.out ++ [.dmaMessage n r.d.seq r.d.target r.d.window (memReadN s.mem r.d.src r.d.length)] ∧
      t.run? n seq = some { r with row := 1, unanswered := 1, lastIssue := s.beat } ∧ t.obj = s.obj ∧ t.mem = s.mem) ∧
  (∀ (s : State) (a : AnswerMsg) (r : DescRun), s.run? a.engine a.seq = some r → awaits r = true → r.status = none →
    ∃ t u, exec (.answer a) s = .next t ∧ t.run? a.engine a.seq = some u ∧ u.unanswered = r.unanswered - 1 ∧
      (a.status = 0 → u.bytes = r.bytes + a.bytes ∧ u.status = none) ∧
      (a.status ≠ 0 → u.bytes = r.bytes ∧ u.status = some a.status) ∧ t.obj = s.obj ∧ t.mem = s.mem) ∧
  (∀ (s : State) (n seq : Nat) (r : DescRun), s.run? n seq = some r → awaits r = true → r.lastIssue + 64 ≤ s.beat →
    ∃ t, exec (.remoteWriteTimeout n seq) s = .next t ∧ t.run? n seq = some { r with status := some 6 } ∧ t.obj = s.obj ∧
      t.mem = s.mem)

/-- R213, R215, R206: COPY moves each byte of its rows, TRANSPOSE_COPY transposes each 32 × 32-byte block, and FILL writes the fill byte;
nothing outside the destination rows changes, and a parity error ends the descriptor with PARITY and is counted.
The model's own choices it rests on: log entries 77, 80. -/
def Obligations.LocalTransfersMoveTheirRows : Prop :=
  (∀ (s : State) (n seq : Nat) (r : DescRun), MovesNow s n seq r → r.d.op = 0 → r.d.transpose = false →
    ∃ t, exec (.copy n seq none) s = .next t ∧
      (RowsApart r.d → ∀ q i, q < r.d.rows → i < r.d.length →
        memRead t.mem (r.d.dstRow q + i) = memRead s.mem (r.d.srcRow q + i)) ∧
      (∀ a, OutsideRows r.d a → memRead t.mem a = memRead s.mem a) ∧
      t.run? n seq = some { r with row := r.d.rows, bytes := r.d.rows * r.d.length, status := some 0 } ∧ t.obj = s.obj) ∧
  (∀ (s : State) (n seq k : Nat) (r : DescRun), MovesNow s n seq r → r.d.op = 0 → r.d.transpose = true → r.d.length = 32 →
    r.d.rows = 32 * k → ∃ t, exec (.transposeCopy n seq none) s = .next t ∧
      (RowsApart r.d → ∀ b i j, b < k → i < 32 → j < 32 →
        memRead t.mem (r.d.dstRow (32 * b + i) + j) = memRead s.mem (r.d.srcRow (32 * b + j) + i)) ∧
      (∀ a, OutsideRows r.d a → memRead t.mem a = memRead s.mem a) ∧
      t.run? n seq = some { r with row := r.d.rows, bytes := r.d.rows * 32, status := some 0 } ∧ t.obj = s.obj) ∧
  (∀ (s : State) (n seq : Nat) (r : DescRun), MovesNow s n seq r → r.d.op = 1 → ∃ t, exec (.fill n seq none) s = .next t ∧
    (∀ q i, q < r.d.rows → i < r.d.length → memRead t.mem (r.d.dstRow q + i) = BitVec.ofNat 8 r.d.src) ∧
    (∀ a, OutsideRows r.d a → memRead t.mem a = memRead s.mem a) ∧
    t.run? n seq = some { r with row := r.d.rows, bytes := r.d.rows * r.d.length, status := some 0 } ∧ t.obj = s.obj) ∧
  (∀ (s : State) (n seq : Nat) (r : DescRun) (p : ParityErr), MovesNow s n seq r → r.d.op = 1 → 1 ≤ p.detector → p.detector ≤ 3 →
    ∃ t, exec (.fill n seq (some p)) s = .next t ∧ Counted s t 0x3200 p.detector 1 ∧ t.rd 0x3200 0x04 = p.address ∧
      (∀ a, OutsideRows r.d a → memRead t.mem a = memRead s.mem a))


/-! ## Windows and messages (R217 to R228) -/

/-- R218, R219, R223, R228: a request without a reason against it opens the lowest FREE slot, and one with a reason is answered RANGE and
keeps the reason; a close and an expired lease start the drain, after which the slot is FREE under the next generation; a lease is
extended by a later beat.
The model's own choices it rests on: log entries 82, 83. -/
def Obligations.WindowsOpenDrainAndFree : Prop :=
  (∀ (r : DictReq) (data : Bytes) (s : State) (w : Nat), ByOperator r s → NotBusy r s 0x3203 0x01 → data.length = 64 →
    windowReason .operator (parseWinReq data) s = 0 → s.freeSlot = some w → ∃ t, exec (.windowOpen r data) s = .next t ∧
      Answers r 0 [] t ∧ (t.win w).state = 1 ∧ (t.win w).ctx = (parseWinReq data).ctx ∧ (t.win w).base = (parseWinReq data).base ∧
      (t.win w).len = (parseWinReq data).len ∧ (t.win w).expiry = (parseWinReq data).expiry ∧ (t.win w).gen = (s.win w).gen ∧
      (∀ v, v ≠ w → t.win v = s.win v) ∧ t.mem = s.mem) ∧
  (∀ (r : DictReq) (data : Bytes) (s : State), ByOperator r s → NotBusy r s 0x3203 0x01 → data.length = 64 →
    windowReason .operator (parseWinReq data) s ≠ 0 → ∃ t, exec (.windowOpen r data) s = .next t ∧ Answers r 3 [] t ∧
      (∀ i x, r.session = some i → t.session? i = some x → x.winReason = windowReason .operator (parseWinReq data) s) ∧
      t.wins = s.wins ∧ t.mem = s.mem) ∧
  (∀ (r : DictReq) (data : Bytes) (s : State), ByOperator r s → NotBusy r s 0x3203 0x02 → data.length = 2 →
    beNat data / 128 % 2 = 0 → (s.win (beNat data % 128)).gen = beNat data / 256 → (s.win (beNat data % 128)).state = 1 →
    ∃ t, exec (.windowClose r data) s = .next t ∧ Answers r 0 [] t ∧ (t.win (beNat data % 128)).state = 2 ∧
      (t.win (beNat data % 128)).close = s.beat ∧ (t.win (beNat data % 128)).drain = s.rd 0x3202 0x03 ∧
      (∀ v, v ≠ beNat data % 128 → t.win v = s.win v) ∧ t.mem = s.mem) ∧
  (∀ (s : State) (w : Nat), (s.win w).state = 1 → (s.win w).expiry ≤ s.beat → ∃ t, exec (.windowLeaseExpiry w) s = .next t ∧
    (t.win w).state = 2 ∧ (t.win w).close = s.beat ∧ Counted s t 0x7001 0x08 1 ∧ (∀ v, v ≠ w → t.win v = s.win v) ∧
    t.mem = s.mem) ∧
  (∀ (s : State) (w : Nat), (s.win w).state = 2 → (s.win w).close + (s.win w).drain + 1 ≤ s.beat →
    ∃ t, exec (.windowFree w) s = .next t ∧ (t.win w).state = 0 ∧ (t.win w).gen = ((s.win w).gen + 1) % 256 ∧
      (∀ v, v ≠ w → t.win v = s.win v) ∧ t.mem = s.mem) ∧
  (∀ (r : DictReq) (w : Nat) (data : Bytes) (s : State), ByOperator r s → NotBusy r s (0x3280 + w) 0x06 → w < 128 →
    data.length = 8 → (s.win w).state = 1 → (s.win w).expiry < beNat data → s.beat < (s.win w).expiry →
    ∃ t, exec (.windowExpiryWrite r w data) s = .next t ∧ Answers r 0 [] t ∧ (t.win w).expiry = beNat data ∧
      (t.win w).state = 1 ∧ (∀ v, v ≠ w → t.win v = s.win v) ∧ t.mem = s.mem)

/-- R221, R225, R226: a remote write that passes the tests is stored at its place in the window and answered OK; one that fails a test
is dropped, counted and answered with the test's status; a message enters its context's ring as one record behind the producer
count, or is refused with FULL; a set message ring has a zero header.
The model's own choices it rests on: log entry 85. -/
def Obligations.WritesAndMessagesArrive : Prop :=
  (∀ (s : State) (m : RWrite), writeStatus m s = 0 → ∃ t, exec (.remoteWriteArrival m) s = .next t ∧
    memReadN t.mem ((s.win (m.window % 128)).base + m.offset) m.data.length = m.data ∧
    (∀ a, a < (s.win (m.window % 128)).base + m.offset ∨ (s.win (m.window % 128)).base + m.offset + m.data.length ≤ a →
      memRead t.mem a = memRead s.mem a) ∧ Counted s t 0x3202 0x05 1 ∧
    t.out = s.out ++ [.packet 1 0x11 (s.memberPos m.sender) m.seq [m.engine, m.seq, 0, m.data.length]] ∧ t.table = s.table) ∧
  (∀ (s : State) (m : RWrite), writeStatus m s ≠ 0 → ∃ t, exec (.remoteWriteArrival m) s = .next t ∧ t.mem = s.mem ∧
    Counted s t 0x3202 0x04 1 ∧
    t.out = s.out ++ [.packet 1 0x11 (s.memberPos m.sender) m.seq [m.engine, m.seq, writeStatus m s, 0]] ∧ t.table = s.table) ∧
  (∀ (s : State) (m : MsgIn) (base len : Nat), s.msgRing m.context = some (base, len) → 1 ≤ m.data.length → m.data.length ≤ 4096 →
    s.ringWord base 0 % (len - 64) + recordBytes m.data.length ≤ len - 64 →
    (s.ringWord base 0 + 0x100000000 - s.ringWord base 4) % 0x100000000 + recordBytes m.data.length ≤ len - 64 →
    ∃ t, exec (.messageArrival m) s = .next t ∧
      memReadN t.mem (base + 64 + s.ringWord base 0 % (len - 64)) (16 + m.data.length) = messageRecord m s.beat ∧
      t.ringWord base 0 = (s.ringWord base 0 + recordBytes m.data.length) % 0x100000000 ∧
      t.ringWord base 8 = (s.ringWord base 8 + 1) % 0x100000000 ∧ t.ringWord base 4 = s.ringWord base 4 ∧
      (∀ a, a < base ∨ base + 12 ≤ a → (a < base + 64 + s.ringWord base 0 % (len - 64) ∨
        base + 64 + s.ringWord base 0 % (len - 64) + (16 + m.data.length) ≤ a) → memRead t.mem a = memRead s.mem a) ∧
      t.out = s.out ++ [.packet 1 0x11 (s.memberPos m.sender) m.seq [m.engine, m.seq, 0, m.data.length]] ∧ t.obj = s.obj) ∧
  (∀ (s : State) (m : MsgIn), s.msgRing m.context = none → ∃ t, exec (.messageArrival m) s = .next t ∧ t.mem = s.mem ∧
    Counted s t 0x3202 0x07 1 ∧
    t.out = s.out ++ [.packet 1 0x11 (s.memberPos m.sender) m.seq [m.engine, m.seq, 7, 0]]) ∧
  (∀ (r : DictReq) (data : Bytes) (s : State), ByOperator r s → NotBusy r s 0x5021 0x04 → data.length = 8 → beNat data ≠ 0 →
    s.inOneBuffer (instOf s r.session 0x5021 0x04) (beNat data) 1 = true →
    s.rdI 0x5021 0x05 (instOf s r.session 0x5021 0x04) ≠ 0 →
    s.inOneBuffer (instOf s r.session 0x5021 0x04) (beNat data) (s.rdI 0x5021 0x05 (instOf s r.session 0x5021 0x04)) = true →
    ∃ t, exec (.messageRingWrite r 0x04 data) s = .next t ∧ Answers r 0 [] t ∧
      t.rdI 0x5021 0x04 (instOf s r.session 0x5021 0x04) = beNat data ∧
      (∀ i, i < 64 → memRead t.mem (beNat data + i) = 0#8) ∧
      (∀ a, a < beNat data ∨ beNat data + 64 ≤ a → memRead t.mem a = memRead s.mem a))

/-! ## Links (R296 to R304, R318, R340 to R346, R465) -/

/-- R302, R303, R300: a link that may train starts at the full rate, falls back once, stays DOWN for 1 s after both rates, and starts again;
where training converges it sends its INFO flit, and the neighbour's makes it UP or CABLING with the positions between them bypassed. R300,
R304, R318: a good flit in order is consumed and its credits are given back; a flit in error asks for a replay; a replay sends the
flits after LACK again; lost signal or codeword lock puts the link DOWN, as a credit lease that ends does (R465).
The model's own choices it rests on: log entry 89. -/
def Obligations.LinksTrainReplayAndGoDown : Prop :=
  (∀ (s : State) (k : Nat), s.linkState k = 0 → s.canTrain k = true → (s.link k).retryAt = none → s.rd (0x7F10 + k) 0x01 = 0 →
    s.links.length = 6 → ∃ t, exec (.linkTraining k) s = .next t ∧ t.linkState k = 1 ∧ (t.link k).attempt = 0 ∧
      (t.link k).trainStart = s.count.toNat ∧ Counted s t (0x3010 + k) 0x09 1 ∧
      (∀ j, j ≠ k → t.linkState j = s.linkState j ∧ t.link j = s.link j) ∧ t.table = s.table ∧ t.mem = s.mem) ∧
  (∀ (s : State) (k : Nat), s.linkState k = 1 → (s.link k).converged = false → k < 6 → s.links.length = 6 →
    ∃ t, exec (.trainingConverged k) s = .next t ∧ (t.link k).converged = true ∧ t.rd (0x3010 + k) 0x02 = (s.link k).attempt + 1 ∧
      t.out = s.out ++ [.info k (s.infoOf k ((s.link k).attempt + 1))] ∧ t.linkState k = 1 ∧ t.table = s.table ∧ t.mem = s.mem) ∧
  (∀ (s : State) (k : Nat), s.linkState k = 1 → (s.link k).converged = false → (s.link k).attempt = 0 →
    (s.link k).trainStart + 100000000 ≤ s.count.toNat → exec (.trainingTimeout k) s =
      .next (s.setLink k fun l => { l with attempt := 1, trainStart := s.count.toNat })) ∧
  (∀ (s : State) (k : Nat), s.linkState k = 1 → (s.link k).converged = false → (s.link k).attempt = 1 → k < 6 → s.links.length = 6 →
    (s.link k).trainStart + 100000000 ≤ s.count.toNat → ∃ t, exec (.trainingTimeout k) s = .next t ∧ t.linkState k = 0 ∧
      (t.link k).retryAt = some (s.count.toNat + 1000000000) ∧ t.table = s.table ∧ t.mem = s.mem) ∧
  (∀ (s : State) (k at_ : Nat), (s.link k).retryAt = some at_ → s.linkState k = 0 → s.canTrain k = true → at_ ≤ s.count.toNat →
    s.links.length = 6 → ∃ t, exec (.trainingRetry k) s = .next t ∧ t.linkState k = 1 ∧ (t.link k).retryAt = none ∧
      t.table = s.table ∧ t.mem = s.mem) ∧
  (∀ (s : State) (k : Nat) (p : InfoPayload), s.linkState k = 1 → (s.link k).converged = true → k < 6 →
    ∃ t, exec (.infoFlit k p) s = .next t ∧ t.linkState k = (if s.cabledRight k p then 2 else 3) ∧
      t.rd (0x3010 + k) 0x04 = p.pos ∧
      t.rd (0x3010 + k) 0x0D = (if s.cabledRight k p then s.alongLink k p.pos - 1 else 0) ∧
      (∀ j, j ≠ k → j < 6 → t.linkState j = s.linkState j) ∧ t.table = s.table ∧ t.mem = s.mem) ∧
  (∀ (s : State) (k : Nat) (f : Flit), s.trained k = true → s.rd (0x7F10 + k) 0x01 = 0 → f.good = false →
    ∃ t, exec (.flitReceive k f) s = .next t ∧ t.out = s.out ++ [.linkAck k (((s.link k).rxSeq + 4095) % 4096) true 0 0] ∧
      (t.link k).rxSeq = (s.link k).rxSeq ∧ t.fab = s.fab ∧ t.table = s.table ∧ t.mem = s.mem) ∧
  (∀ (s : State) (k : Nat) (f : Flit), s.linkState k = 2 → k < 6 → s.rd (0x7F10 + k) 0x01 = 0 → s.links.length = 6 → f.good = true →
    f.ltype = 1 → f.lseq = (s.link k).rxSeq → f.mc = false → f.ptype = 0x60 → f.vc = 6 → f.dst = s.pos → f.last = true →
    (s.link k).waiting = [] → ∃ t, exec (.flitReceive k f) s = .next t ∧ (t.link k).rxSeq = ((s.link k).rxSeq + 1) % 4096 ∧
      Counted s t 0x3103 0x09 1 ∧ t.out.getLast? = some (.linkAck k ((((s.link k).rxSeq + 1) % 4096 + 4095) % 4096) false f.pool 1) ∧
      t.table = s.table ∧ t.mem = s.mem) ∧
  (∀ (s : State) (k lack : Nat), s.trained k = true → s.rd (0x7F10 + k) 0x01 = 0 → (∀ x ∈ (s.link k).replay, x.2 < 15) →
    ∃ t, exec (.replay k lack) s = .next t ∧ t.linkState k = s.linkState k ∧
      t.out = s.out ++ (if (s.link k).replay.findIdx (fun x => x.1.lseq = lack) < (s.link k).replay.length then
        (s.link k).replay.drop ((s.link k).replay.findIdx (fun x => x.1.lseq = lack) + 1) else (s.link k).replay).map
          (fun x => .forward k x.1) ∧ t.table = s.table ∧ t.mem = s.mem) ∧
  (∀ (s : State) (k lane : Nat), s.trained k = true → k < 6 → lane < 16 → s.links.length = 6 → ∃ t, exec (.lossOfSignal k lane) s = .next t ∧
    t.linkState k = 0 ∧ (t.link k).replay = [] ∧ (t.link k).creditsUsed = [] ∧
    (∀ j, j ≠ k → j < 6 → t.linkState j = s.linkState j) ∧ t.table = s.table ∧ t.mem = s.mem) ∧
  (∀ (s : State) (k : Nat), s.trained k = true → k < 6 → s.links.length = 6 → ∃ t, exec (.codewordLockLoss k) s = .next t ∧
    t.linkState k = 0 ∧ (t.link k).replay = [] ∧ (t.link k).creditsUsed = [] ∧
    (∀ j, j ≠ k → j < 6 → t.linkState j = s.linkState j) ∧ t.table = s.table ∧ t.mem = s.mem) ∧
  (∀ (s : State) (k : Nat) (c : Nat × Nat), c ∈ (s.link k).creditsUsed → c.2 + 65536 ≤ s.beat → k < 6 →
    ∃ t, exec (.creditLeaseExpiry k) s = .next t ∧ t.linkState k = 0 ∧ Counted s t 0x7001 0x08 1 ∧ t.table = s.table ∧
      t.mem = s.mem)


/-- R343, R346, R324, R224, R340, R345: a member's link-state report is taken for the next boundary; a refused VC7 packet goes again after 64
beats; an accepted region change waits for its beat and then moves the box and closes every window; a write of the link enables and
the bypass commands are accepted.
The model's own choices it rests on: log entries 45, 88. -/
def Obligations.RegionsBypassesAndTheManagementChannel : Prop :=
  (∀ (s : State) (member : Nat) (byp : List Nat), s.hasRegion = true → s.inBox member = true →
    ∃ t, exec (.linkStateReport member byp) s = .next t ∧ sget [] member t.fab.bypReports = byp ∧ t.fab.linkChanged = true ∧
      t.fab.bypassed = s.fab.bypassed ∧ t.obj = s.obj ∧ t.table = s.table ∧ t.mem = s.mem) ∧
  (∀ (s : State) (id dst : Nat) (fields : List Nat), (id, dst, fields) ∈ s.fab.vc7 → exec (.refuse7 id) s =
    .next (s.modFab fun f => { f with vc7Resend := f.vc7Resend ++ [(id, s.beat + 64)] })) ∧
  (∀ (s : State) (id dst due : Nat) (fields : List Nat), s.fab.vc7Resend = [(id, due)] → due ≤ s.beat →
    s.fab.vc7.find? (fun p => p.1 = id) = some (id, dst, fields) → ∃ t, exec (.vc7Resend id) s = .next t ∧
      t.out = s.out ++ [.packet 7 0x70 dst id fields] ∧ t.fab.vc7Resend = [] ∧ t.table = s.table ∧ t.mem = s.mem) ∧
  (∀ (r : DictReq) (data : Bytes) (s : State), ByOperator r s → NotBusy r s 0x3101 0x07 → data.length = 8 →
    beNat data % s.frameLen = 0 → s.beat + 1024 ≤ beNat data → s.boxOk s.nextBox.1 s.nextBox.2 = true →
    s.loadState = 0 ∨ s.loadState = 5 → s.allFree = true → ∃ t, exec (.regionChangeArm r data) s = .next t ∧ Answers r 0 [] t ∧
      t.fab.armed = some (beNat data, s.nextBox.1, s.nextBox.2) ∧ t.rd 0x3101 0x07 = beNat data ∧ t.fab.extent = s.fab.extent ∧
      t.table = s.table ∧ t.mem = s.mem) ∧
  (∀ (s : State) (b : Nat) (corner extent : List Nat), s.fab.armed = some (b, corner, extent) → b ≤ s.beat →
    ∃ t, exec .regionChange s = .next t ∧ t.fab.corner = corner ∧ t.fab.extent = extent ∧ t.fab.armed = none ∧
      t.rd 0x3101 0x09 = 1 ∧ (∀ w, (s.win w).state = 1 → (t.win w).state = 2 ∧ (t.win w).close = s.beat) ∧ t.table = s.table ∧
      t.mem = s.mem) ∧
  (∀ (r : DictReq) (b : Byte) (s : State), ByOperator r s → NotBusy r s 0x3000 0x02 → b.toNat ≤ 63 →
    ∃ t, exec (.linkEnable r [b]) s = .next t ∧ Answers r 0 [] t ∧ t.rd 0x3000 0x02 = b.toNat ∧
      (∀ k, k < 6 → bitOf b.toNat k = false → t.linkState k = 0) ∧
      (∀ k, k < 6 → bitOf b.toNat k = true → t.linkState k = s.linkState k) ∧ t.table = s.table ∧ t.mem = s.mem) ∧
  (∀ (r : DictReq) (b : Byte) (s : State), ByOperator r s → NotBusy r s 0x3000 0x04 → b = 1#8 →
    ∃ t, exec (.bypassRelease r [b]) s = .next t ∧ Answers r 0 [] t ∧ t.power.bypRequest = some true ∧
      t.power.bypHold = s.power.bypHold ∧ t.table = s.table ∧ t.mem = s.mem) ∧
  (∀ (r : DictReq) (b : Byte) (s : State), ByOperator r s → NotBusy r s 0x3000 0x04 → b = 2#8 →
    ∃ t, exec (.bypassDrive r [b]) s = .next t ∧ Answers r 0 [] t ∧ t.power.bypRequest = some false ∧
      t.power.bypHold = s.power.bypHold ∧ t.table = s.table ∧ t.mem = s.mem)

/-! ## The Ethernet port and the ring pairs (R54, R347 to R356, R369) -/

/-- R348 to R350, R369: the port comes up where training converges and goes down with its partner; a received frame is counted and
handed on or dropped; the device answers solicitations of and echoes to its own addresses; Packet Too Big lowers a destination's MTU to
1,280 at the least; a status frame goes out at its beat.
The model's own choices it rests on: log entries 92, 93. -/
def Obligations.TheEthernetPortAnswers : Prop :=
  (∀ s : State, s.portUp = false → s.portMay = true → ∃ t, exec (.ethPortTraining true) s = .next t ∧ t.portUp = true ∧
    t.table = s.table ∧ t.mem = s.mem) ∧
  (∀ s : State, s.portUp = false → s.portMay = true → exec (.ethPortTraining false) s = .next (s.wr 0x1100 0x03 1)) ∧
  (∀ s : State, s.portUp = true → exec .ethPortDown s = .next (s.wr 0x1100 0x03 0)) ∧
  (∀ (s : State) (f : EthFrame), s.portUp = true → s.rd 0x7F00 0x01 = 0 → ∃ t, exec (.ethFrameReceive f) s = .next t ∧
    Counted s t 0x1100 0x06 1 ∧ Counted s t 0x1100 0x08 f.corrected ∧ Counted s t 0x1100 0x09 f.uncorrectable ∧
    t.eth.handed = (if f.pause || frameDropped s f then none else some (f.proto, f.port)) ∧ t.out = s.out ∧
    t.table = s.table ∧ t.mem = s.mem) ∧
  (∀ (s : State) (target source : Bytes), s.portUp = true → s.ownAddress target = true →
    exec (.neighborSolicitation target source) s =
      .next ((s.bump 0x1100 0x07 1).send (.eth "neighbor advertisement" source target))) ∧
  (∀ (s : State) (source dest data : Bytes), s.portUp = true → s.ownAddress dest = true →
    exec (.echoRequest source dest data) s = .next ((s.bump 0x1100 0x07 1).send (.eth "echo reply" source data))) ∧
  (∀ (s : State) (dest : Bytes) (mtu : Nat), s.portUp = true → ∃ t, exec (.packetTooBig dest mtu) s = .next t ∧
    t.eth.mtu.find? (fun x => x.1 = dest) = some (dest, max 1280 mtu) ∧
    (∀ d, d ≠ dest → t.eth.mtu.find? (fun x => x.1 = d) = s.eth.mtu.find? fun x => x.1 = d) ∧ t.obj = s.obj ∧ t.out = s.out) ∧
  (∀ s : State, s.statusBeat = true → s.boot.ready = true → s.rd 0x1102 0x03 = 1 → s.portUp = true → s.rd 0x7F00 0x01 = 0 →
    ∃ t x, exec .statusFrame s = .next t ∧ t.out = s.out ++ [.statusFrame x] ∧
      x.take 5 = [s.time.statusSeq, s.beat, s.pos, s.rd 0x1200 0x03, s.loadState] ∧
      t.time.statusSeq = (s.time.statusSeq + 1) % 0x100000000 ∧ Counted s t 0x1100 0x07 1 ∧ t.table = s.table ∧ t.mem = s.mem)

/-- R352 to R355: a host's write into a ready ring's region lands from the next beat on, and one outside it is refused; a CNP halves the ring's
completion rate for 64 beats; the eighth attempt without ACK puts the queue pair in ERROR; an accepted write enables or disables
the ring pair.
The model's own choices it rests on: log entries 49, 91. -/
def Obligations.RingPairsServeTheHost : Prop :=
  (∀ (s : State) (ring offset : Nat) (data : Bytes), s.portUp = true → s.ringReady ring = true → ring < 256 →
    offset + data.length ≤ s.ringBytes ring → exec (.rdmaWrite ring offset data false) s =
      .next { s with landed := s.landed ++ [(s.beat, ringBase ring + offset, data)] }) ∧
  (∀ (s : State) (ring offset : Nat) (data : Bytes), s.portUp = true → s.ringReady ring = true → ring < 256 →
    s.ringBytes ring < offset + data.length → ∃ t, exec (.rdmaWrite ring offset data false) s = .next t ∧ t.landed = s.landed ∧
      t.out = s.out ++ [.eth "remote access error" (leBytes 2 ring) []] ∧ t.table = s.table) ∧
  (∀ (s : State) (ring : Nat), s.portUp = true → s.ringReady ring = true → ∃ t, exec (.cnp ring) s = .next t ∧
    (t.ring ring).rateHalf = some (s.beat + 64) ∧ (∀ r, r ≠ ring → t.ring r = s.ring r) ∧ t.obj = s.obj ∧ t.table = s.table) ∧
  (∀ (s : State) (ring e : Nat), (s.ring ring).rateHalf = some e → e ≤ s.beat → ∃ t, exec (.cnpRateHalvingEnd ring) s = .next t ∧
    (t.ring ring).rateHalf = none ∧ (t.ring ring).cmds = (s.ring ring).cmds ∧ (∀ r, r ≠ ring → t.ring r = s.ring r) ∧
    t.table = s.table) ∧
  (∀ (s : State) (ring : Nat) (acked : Bool), s.ringReady ring = true → ∃ t, exec (.localAckTimeout ring acked) s = .next t ∧
    (t.ring ring).retries = (if acked then 1 else (s.ring ring).retries + 1) ∧
    t.rdI 0x1111 0x0D ring = (if 7 < (if acked then 1 else (s.ring ring).retries + 1) then 2 else 1) ∧
    (∀ r, r ≠ ring → t.ring r = s.ring r) ∧ t.table = s.table) ∧
  (∀ (r : DictReq) (b : Byte) (s : State), ByOperator r s → NotBusy r s 0x1111 0x09 → b = 1#8 →
    s.rdI 0x1111 0x01 (instOf s r.session 0x1111 0x09) ≠ 0xFFFF → ringSizeOk (s.rdI 0x1111 0x02 (instOf s r.session 0x1111 0x09)) = true →
    ringSizeOk (s.rdI 0x1111 0x03 (instOf s r.session 0x1111 0x09)) = true →
    s.oct? 0x1111 0x06 (instOf s r.session 0x1111 0x09) (zeros 16) ≠ zeros 16 →
    s.rdI 0x1111 0x09 (instOf s r.session 0x1111 0x09) = 0 → ∃ t, exec (.ringEnable r [b]) s = .next t ∧ Answers r 0 [] t ∧
      t.rdI 0x1111 0x09 (instOf s r.session 0x1111 0x09) = 1 ∧
      t.rdI 0x1111 0x0D (instOf s r.session 0x1111 0x09) = (if s.isHead || s.isTail then 1 else 0) ∧ t.table = s.table ∧
      t.mem = s.mem) ∧
  (∀ (r : DictReq) (b : Byte) (s : State), ByOperator r s → NotBusy r s 0x1111 0x09 → b = 0#8 →
    ∃ t, exec (.ringDisable r [b]) s = .next t ∧ Answers r 0 [] t ∧ t.rdI 0x1111 0x09 (instOf s r.session 0x1111 0x09) = 0 ∧
      t.rdI 0x1111 0x0D (instOf s r.session 0x1111 0x09) = 0 ∧ t.table = s.table ∧ t.mem = s.mem)

/-! ## The Dictionary Protocol (R7, R8, R364 to R376) -/

/-- R365, R375, R376, R378: a READ and a READ_BLOCK return the object's value, and an absent object is answered NO_OBJECT; a WRITE to an
object without behaviour of its own stores an RW value at once and keeps an RWF value pending (R8), and changes no other object but the
count of responses; a value of the wrong length is answered TYPE, one out of range RANGE; a WRITE_BLOCK segment is held until LAST, and is
abandoned after 1,024 beats; R367: a secured message keeps its session alive, or is answered SESSION.
The model's own choices it rests on: log entries 33, 35. -/
def Obligations.ReadsAndWritesAreServed : Prop :=
  (∀ (r : DictReq) (s : State) (index sub : Nat) (row : ObjRow), ByOperator r s → s.entryWaits index sub = false →
    presentRow s index sub = some row → row.type ≠ .domain →
    mayRead s .operator index sub (instOf s r.session index sub) = true → ∃ t, exec (.read r index sub) s = .next t ∧
      Answers r 0 (s.enqueueRequest.readValue r.session row index sub (instOf s r.session index sub)) t ∧
      Counted s t 0x1105 0x01 1 ∧ t.table = s.table ∧ t.mem = s.mem) ∧
  (∀ (r : DictReq) (s : State) (index sub : Nat), ByOperator r s → s.entryWaits index sub = false → presentRow s index sub = none →
    ∃ t, exec (.read r index sub) s = .next t ∧ Answers r 1 [] t ∧ t.table = s.table ∧ t.mem = s.mem) ∧
  (∀ (r : DictReq) (s : State) (index sub offset : Nat) (row : ObjRow), ByOperator r s → s.entryWaits index sub = false →
    presentRow s index sub = some row → blockType row = true →
    mayRead s .operator index sub (instOf s r.session index sub) = true →
    offset ≤ (s.enqueueRequest.readValue r.session row index sub (instOf s r.session index sub)).length →
    ∃ t v, exec (.readBlock r index sub offset) s = .next t ∧
      v = s.enqueueRequest.readValue r.session row index sub (instOf s r.session index sub) ∧
      t.out.getLast? = some (.dict r.xid r.session 0 (decide (v.length ≤ offset + 1024)) ((v.drop offset).take 1024)) ∧
      t.table = s.table ∧ t.mem = s.mem) ∧
  (∀ (r : DictReq) (s : State) (index sub : Nat) (data : Bytes) (row : ObjRow), ByOperator r s → NotBusy r s index sub →
    objRow index sub = some row → sub ≠ 0 → (row.access = .rw ∨ row.access = .rwf) → row.type = .uint → data.length = row.len → row.least ≤ beNat data →
    beNat data ≤ row.most → (rights s .operator index sub (instOf s r.session index sub) (beNat data)).2 = true →
    isHostMailbox index sub = false → (∀ c u, effectOf index sub row c u = storeWrite row index sub c u) →
    acceptOf index sub ⟨r.session, .operator, instOf s r.session index sub, beNat data, data⟩ s.enqueueRequest = true →
    objKey index sub (instOf s r.session index sub) ≠ objKey 0x1105 0x01 0 → ∃ t, exec (.write r index sub data) s = .next t ∧
      Answers r 0 [] t ∧
      (row.access = .rw → t.rdI index sub (instOf s r.session index sub) = beNat data ∧ t.pend = s.pend) ∧
      (row.access = .rwf → t.rdI index sub (instOf s r.session index sub) = s.rdI index sub (instOf s r.session index sub) ∧
        sget 0 (objKey index sub (instOf s r.session index sub)) t.pend = beNat data) ∧
      (∀ i k j, objKey i k j ≠ objKey index sub (instOf s r.session index sub) → objKey i k j ≠ objKey 0x1105 0x01 0 →
        t.rdI i k j = s.rdI i k j) ∧ t.table = s.table ∧ t.mem = s.mem) ∧
  (∀ (r : DictReq) (s : State) (data : Bytes), ByOperator r s → data.length ≠ 4 → ∃ t, exec (.write r 0x1203 0x01 data) s = .next t ∧
    Answers r 4 [] t ∧ t.rd 0x1203 0x01 = s.rd 0x1203 0x01 ∧ t.table = s.table ∧ t.mem = s.mem) ∧
  (∀ (r : DictReq) (s : State) (data : Bytes), ByOperator r s → data.length = 2 → beNat data < 300 →
    ∃ t, exec (.write r 0x2000 0x02 data) s = .next t ∧ Answers r 3 [] t ∧ t.rd 0x2000 0x02 = s.rd 0x2000 0x02 ∧
      t.pend = s.pend ∧ t.table = s.table ∧ t.mem = s.mem) ∧
  (∀ (r : DictReq) (s : State) (data : Bytes), ByOperator r s → NotBusy r s 0x1400 0x05 → data.length ≤ 1024 →
    ∃ t, exec (.writeBlock r 0x1400 0x05 0 false data) s = .next t ∧ Answers r 0 [] t ∧
      (objKey 0x1400 0x05 0, r.session, data.length, data, s.beat) ∈ t.eth.blocks ∧ t.flash = s.flash ∧ t.table = s.table ∧
      t.mem = s.mem) ∧
  (∀ (s : State) (k : Nat) (session : Option Nat) (n b : Nat) (data : Bytes), s.eth.blocks = [(k, session, n, data, b)] →
    k = objKey 0x1400 0x05 0 → b + 1024 ≤ s.beat →
    exec (.blockTransferTimeout 0x1400 0x05) s = .next { s with eth := { s.eth with blocks := [] } }) ∧
  (∀ (s : State) (session xid : Nat), s.dictUp = true → s.sessionOpen session = true → exec (.secured session xid true) s =
    .next (s.modSession session fun x => { x with lastBeat := s.beat })) ∧
  (∀ (s : State) (session xid : Nat), s.dictUp = true → s.backlog < 1088 → ∃ t, exec (.secured session xid false) s = .next t ∧
    t.out = s.out ++ [.dict xid none 7 false []] ∧ Counted s t 0x7800 0x07 1 ∧ t.sec = s.sec ∧ t.table = s.table ∧ t.mem = s.mem)

/-! ## Sessions and measurements (R366, R367, R488 to R493) -/

/-- R488 to R492: a portion of the certificate chain; negotiation of the device's own algorithms; a session opened by KEY_EXCHANGE and FINISH
with the role and burgee of its leaf's name; measurements taken as they stand, and signed in turn; the ends of a session.
The model's own choices it rests on: log entries 129, 130, 131. -/
def Obligations.SessionsOpenMeasureAndEnd : Prop :=
  (∀ (s : State) (xid offset length : Nat), SpdmServed s → offset ≤ Config.certificateChain.length →
    ∃ t, exec (.getCertificate xid offset length) s = .next t ∧ t.out.getLast? = some (.spdm xid none "CERTIFICATE"
      [(Config.certificateChain.drop offset).take length,
       leBytes 2 (((Config.certificateChain.drop offset).drop length).length)]) ∧ t.sec = s.sec ∧ t.mem = s.mem) ∧
  (∀ (s : State) (xid asym hash dhe aead sched : Nat), SpdmServed s → bitOf asym 5 = true → bitOf hash 2 = true →
    bitOf dhe 2 = true → bitOf aead 1 = true → bitOf sched 0 = true →
    ∃ t, exec (.negotiateAlgorithms xid asym hash dhe aead sched) s = .next t ∧ t.sec.algOk = true ∧
      t.out.getLast? = some (.spdm xid none "ALGORITHMS" [leBytes 4 32, leBytes 4 4, leBytes 4 4, leBytes 4 2, leBytes 4 1]) ∧
      t.sec.sessions = s.sec.sessions ∧ t.mem = s.mem) ∧
  (∀ (s : State) (xid i : Nat), SpdmServed s → s.offersSessions = true → s.sec.algOk = true → s.freeSession = some i →
    s.sec.sigQueue.length < 64 → ∃ t x, exec (.keyExchange xid) s = .next t ∧ t.session? i = some x ∧ x.opened = false ∧
      t.sec.sigQueue = s.sec.sigQueue ++ [⟨1, xid, some i, [], []⟩] ∧ (∀ j, j ≠ i → t.session? j = s.session? j) ∧
      t.mem = s.mem) ∧
  (∀ (s : State) (session xid rootKey role b : Nat) (name : Bytes) (x : Session), SpdmServed s → s.boot.recovery = false →
    s.session? session = some x → x.opened = false → roleOfName name = some (role, b) → rootOk rootKey s = true →
    ∃ t y, exec (.finish session xid name rootKey true) s = .next t ∧ t.session? session = some y ∧ y.opened = true ∧
      y.role = role ∧ y.burgee = b ∧ Counted s t 0x7800 0x05 1 ∧
      t.out.getLast? = some (.spdm xid (some session) "FINISH_RSP" []) ∧ (∀ j, j ≠ session → t.session? j = s.session? j) ∧
      t.mem = s.mem) ∧
  (∀ (s : State) (session xid rootKey : Nat) (name : Bytes) (x : Session), SpdmServed s → s.session? session = some x →
    x.opened = false → roleOfName name = none → ∃ t, exec (.finish session xid name rootKey true) s = .next t ∧
      t.session? session = none ∧ Counted s t 0x7800 0x06 1 ∧ t.mem = s.mem) ∧
  (∀ (s : State) (session xid : Nat), SpdmServed s → s.sessionOpen session = true → ∃ t, exec (.endSession session xid) s = .next t ∧
    t.session? session = none ∧ t.out.getLast? = some (.spdm xid (some session) "END_SESSION_ACK" []) ∧
    (∀ j, j ≠ session → t.session? j = s.session? j) ∧ t.mem = s.mem) ∧
  (∀ (s : State) (xid : Nat) (nonce : Bytes), SpdmServed s → s.offersSessions = true → s.sec.sigQueue.length < 64 →
    ∃ t, exec (.getMeasurements none xid nonce) s = .next t ∧
      t.sec.sigQueue = s.sec.sigQueue ++ [⟨0, xid, none, nonce, s.measurements⟩] ∧ t.sec.sessions = s.sec.sessions ∧ t.mem = s.mem) ∧
  (∀ (s : State) (q : SigReq) (rest : List SigReq), s.sec.sigQueue = q :: rest → q.kind = 0 → s.offersSessions = true →
    s.domainOn 97 = true → ∃ t, exec .responseSigned s = .next t ∧ t.sec.sigQueue = rest ∧
      t.out = s.out ++ [.spdm q.xid q.session "MEASUREMENTS" (q.blocks ++ [Config.sign (q.blocks.flatten ++ q.nonce)])] ∧
      t.obj = s.obj ∧ t.mem = s.mem) ∧
  (∀ (s : State) (session : Nat) (x : Session), s.session? session = some x → x.lastBeat + 58593750 ≤ s.beat →
    ∃ t, exec (.sessionTimeout session) s = .next t ∧ t.session? session = none ∧
      (∀ j, j ≠ session → t.session? j = s.session? j) ∧ t.table = s.table ∧ t.mem = s.mem) ∧
  (∀ (r : DictReq) (b : Byte) (s : State), ByOperator r s → NotBusy r s 0x7800 0x08 → b.toNat ≤ 63 →
    ∃ t, exec (.sessionClose r [b]) s = .next t ∧ Answers r 0 [] t ∧ t.session? b.toNat = none ∧ t.table = s.table ∧ t.mem = s.mem)

/-! ## Masthead: watchdog and mailboxes (R393 to R402, R446, R466) -/

/-- R466, R393: a missed deadline restarts Masthead, whose SRAM is lost, and a second restart within 1,048,576 beats resets the device
with cause 2; once the restart completes Masthead runs under a fresh deadline, and a renewal writes one. R396, R446: a woken domain
runs. R398: a pennant is stored and sets FULL, or is answered BUSY or DOMAIN_OFF. R397, R399 to R402: a taken word clears FULL, each code is
answered with its TAG and value, an unknown one with 0x7F, and a notice goes to mailbox 7.
The model's own choices it rests on: log entries 122, 132. -/
def Obligations.MastheadIsWatchedAndAnswers : Prop :=
  (∀ s : State, s.boot.ready = true → s.masthead.on = true → s.rd 0x1203 0x02 ≤ s.beat → s.power.resetDue ≠ some 3 →
    (∀ b, s.masthead.lastRestart = some b → b + 1048576 ≤ s.beat) → ∃ t r, exec .watchdogDeadline s = .next t ∧
      t.masthead.on = false ∧ t.masthead.restartEnd = some (s.beat + 156250) ∧ t.masthead.taken = [] ∧ t.masthead.notices = [] ∧
      t.recsHeld = [r] ∧ r.kind = 7 ∧ r.detector = 15 ∧ Counted s t 0x7000 0x02 s.recsHeld.length ∧ t.table = s.table ∧
      t.mem = s.mem) ∧
  (∀ (s : State) (b : Nat), s.boot.ready = true → s.masthead.on = true → s.rd 0x1203 0x02 ≤ s.beat →
    s.masthead.lastRestart = some b → s.beat < b + 1048576 → ∃ t, exec .watchdogDeadline s = .next t ∧ t.rd 0x1000 0x09 = 2 ∧
      t.boot.ready = false ∧ t.flash.resets = s.flash.resets + 1 ∧ t.count = s.count ∧ t.pending = s.pending) ∧
  (∀ (s : State) (e : Nat), s.masthead.restartEnd = some e → ∃ t, exec .mastheadRestartComplete s = .next t ∧
    t.masthead.on = true ∧ t.masthead.restartEnd = none ∧ t.rd 0x1203 0x02 = s.beat + s.rd 0x1203 0x01 ∧
    t.masthead.jobs = s.masthead.jobs ∧ t.table = s.table ∧ t.mem = s.mem) ∧
  (∀ s : State, s.boot.ready = true → s.masthead.on = true →
    exec .watchdogRenew s = .next (s.wr 0x1203 0x02 (s.beat + s.rd 0x1203 0x01))) ∧
  (∀ (s : State) (d b : Nat), s.masthead.wakeAt = some b → dozes d = true → s.power.awake.contains d = false →
    ∃ t, exec (.domainWake d) s = .next t ∧ t.power.awake = s.power.awake ++ [d] ∧
      (d = 92 → t.masthead.on = true ∧ t.rd 0x1203 0x02 = s.beat + s.rd 0x1203 0x01) ∧ t.table = s.table ∧ t.mem = s.mem) ∧
  (∀ (r : DictReq) (m : Nat) (w : Word) (s : State), ByOperator r s → NotBusy r s (0x1810 + m) 0x01 → m < 8 →
    s.masthead.on = true → s.rd (0x1810 + m) 0x02 = 0 → ∃ t, exec (.pennant r m w) s = .next t ∧ Answers r 0 [] t ∧
      t.rd (0x1810 + m) 0x01 = w.toNat ∧ t.rd (0x1810 + m) 0x02 = 1 ∧ Counted s t 0x1800 0x02 1 ∧ t.table = s.table ∧
      t.mem = s.mem) ∧
  (∀ (r : DictReq) (m : Nat) (w : Word) (s : State), ByOperator r s → m < 8 → s.masthead.on = true → s.rd (0x1810 + m) 0x02 = 1 →
    ∃ t, exec (.pennant r m w) s = .next t ∧ Answers r 5 [] t ∧ t.rd (0x1810 + m) 0x01 = s.rd (0x1810 + m) 0x01 ∧
      Counted s t 0x1800 0x03 1 ∧ t.table = s.table ∧ t.mem = s.mem) ∧
  (∀ (r : DictReq) (m : Nat) (w : Word) (s : State), ByOperator r s → m < 8 → s.masthead.on = false →
    ∃ t, exec (.pennant r m w) s = .next t ∧ Answers r 6 [] t ∧ t.rd (0x1810 + m) 0x01 = s.rd (0x1810 + m) 0x01 ∧
      Counted s t 0x1800 0x04 1 ∧ t.table = s.table ∧ t.mem = s.mem) ∧
  (∀ (s : State) (m : Nat), m < 8 → s.masthead.on = true → s.rd (0x1810 + m) 0x02 = 1 → s.rd (0x1810 + m) 0x01 < 2 ^ 32 →
    s.takenWord m = none → bitOf (s.rd (0x1818 + m) 0x02) 0 = false → ∃ t, exec (.mailboxTake m) s = .next t ∧
      t.rd (0x1810 + m) 0x02 = 0 ∧
      (wordOk (s.rd (0x1810 + m) 0x01) = true → t.takenWord m = some (s.rd (0x1810 + m) 0x01)) ∧
      (wordOk (s.rd (0x1810 + m) 0x01) = false →
        AnsweredWord m (s.rd (0x1810 + m) 0x01) 0x7F (wordCode (s.rd (0x1810 + m) 0x01)) t) ∧ t.table = s.table ∧ t.mem = s.mem) ∧
  (∀ (s : State) (m w : Nat), ActsOn s m w 1 → ∃ t, exec (.echo m) s = .next t ∧ AnsweredWord m w 1 (wordArg w) t ∧
    t.table = s.table ∧ t.mem = s.mem) ∧
  (∀ (s : State) (m w : Nat), ActsOn s m w 2 → s.rd 0x1000 0x08 ≤ 255 → s.loadState ≤ 255 → ∃ t, exec (.status m) s = .next t ∧
    AnsweredWord m w 2 (s.rd 0x1000 0x08 * 256 + s.loadState) t ∧ t.table = s.table ∧ t.mem = s.mem) ∧
  (∀ (s : State) (m w : Nat), ActsOn s m w 3 → s.recsHeld = [] → s.flash.log.length ≤ 1024 → ∃ t, exec (.logFlush m) s = .next t ∧
    AnsweredWord m w 3 s.flash.log.length t ∧ t.table = s.table ∧ t.mem = s.mem) ∧
  (∀ (s : State) (m w : Nat), ActsOn s m w 4 → s.windowFor m = false → (s.die (wordArg w)).lost = false →
    (∀ x ∈ s.cal.waiting, x.die ≠ wordArg w) → ∃ t, exec (.calDie m) s = .next t ∧
      t.cal.waiting = s.cal.waiting ++ [⟨wordArg w, true, s.nextBoundary s.beat, false, some m, none, 0⟩] ∧ t.obj = s.obj ∧
      t.table = s.table ∧ t.mem = s.mem) ∧
  (∀ (s : State) (code value count : Nat) (rest : List (Nat × Nat × Nat)), s.masthead.notices = (code, value, count) :: rest →
    s.masthead.on = true → bitOf (s.rd 0x181F 0x02) 0 = false → s.rd 0x1817 0x02 ≠ 1 → s.takenWord 7 = none → code < 256 →
    value < 65536 → ∃ t, exec .notice s = .next t ∧ t.masthead.notices = rest ∧
      t.rd 0x181F 0x01 = code * 0x1000000 + count % 256 * 0x10000 + value ∧ bitOf (t.rd 0x181F 0x02) 0 = true ∧
      t.table = s.table ∧ t.mem = s.mem)

/-! ## Flash, commanded resets and half-mast (R405, R408, R470, R474, R483 to R485) -/

/-- R405, R483, R484: a whole profile or firmware image is checked and its write begins, or the failing check is its result; the ends of
their flash writes. R474: a record enters the log or is counted, and the log is erased by command. R408, R485: the two reset commands wait
for the boundary. R470: half-mast is left by command while no cause but escalation holds, or when its window has passed. R19: a die whose
links all fail is lost.
The model's own choices it rests on: log entries 123, 124, 127. -/
def Obligations.FlashResetsAndHalfMastByCommand : Prop :=
  (∀ (r : DictReq) (data : Bytes) (s : State), ByOperator r s → NotBusy r s 0x1400 0x05 → data.length ≤ 65536 →
    ∃ t, exec (.profileStore r data) s = .next t ∧ Answers r 0 [] t ∧ t.rd 0x1400 0x06 = profileFails data s ∧
      (profileFails data s = 0 → t.masthead.jobs = s.masthead.jobs ++ [.profile (s.rd 0x1400 0x04) data]) ∧
      (profileFails data s ≠ 0 → t.masthead.jobs = s.masthead.jobs) ∧ t.table = s.table ∧ t.flash = s.flash) ∧
  (∀ (s : State) (slot : Nat) (data : Bytes) (rest : List FlashJob), s.masthead.jobs = .profile slot data :: rest →
    s.masthead.on = true → ∃ t, exec (.profileStoreComplete true) s = .next t ∧ t.masthead.jobs = rest ∧ t.rd 0x1400 0x06 = 1 ∧
      t.flash = { s.flash with profiles := s.flash.profiles.set slot data } ∧ t.table = s.table ∧ t.mem = s.mem) ∧
  (∀ (s : State) (slot : Nat) (data : Bytes) (rest : List FlashJob), s.masthead.jobs = .profile slot data :: rest →
    s.masthead.on = true → ∃ t, exec (.profileStoreComplete false) s = .next t ∧ t.masthead.jobs = rest ∧ t.rd 0x1400 0x06 = 4 ∧
      t.flash = s.flash ∧ t.table = s.table ∧ t.mem = s.mem) ∧
  (∀ (r : DictReq) (data : Bytes) (s : State), ByOperator r s → NotBusy r s 0x1400 0x0C → data.length ≤ 33554432 →
    ∃ t, exec (.firmwareUpdate r data) s = .next t ∧ Answers r 0 [] t ∧
      (firmwareOk data s = true → t.rd 0x1400 0x0D = 3 ∧ t.masthead.jobs = s.masthead.jobs ++ [.firmware data]) ∧
      (firmwareOk data s = false → t.rd 0x1400 0x0D = 5 ∧ t.masthead.jobs = s.masthead.jobs) ∧ t.table = s.table ∧
      t.flash = s.flash) ∧
  (∀ (s : State) (image readback : Bytes) (rest : List FlashJob), s.masthead.jobs = .firmware image :: rest → s.masthead.on = true →
    ∃ t, exec (.firmwareWriteComplete readback) s = .next t ∧ t.masthead.jobs = rest ∧
      t.flash = { s.flash with firmware := readback } ∧ t.rd 0x1400 0x0D = (if readback = image then 4 else 5) ∧
      t.table = s.table ∧ t.mem = s.mem) ∧
  (∀ (s : State) (x : FaultRec) (rest : List FlashJob), s.masthead.jobs = .record x :: rest → s.masthead.on = true →
    s.flash.log.length < 1024 → ∃ t, exec .faultRecordWrite s = .next t ∧ t.masthead.jobs = rest ∧
      t.flash = { s.flash with log := s.flash.log ++ [x] } ∧ t.out = s.out ++ [.logged x] ∧ t.obj = s.obj ∧ t.table = s.table ∧
      t.mem = s.mem) ∧
  (∀ (s : State) (x : FaultRec) (rest : List FlashJob), s.masthead.jobs = .record x :: rest → s.masthead.on = true →
    1024 ≤ s.flash.log.length → ∃ t, exec .faultRecordWrite s = .next t ∧ t.masthead.jobs = rest ∧ t.flash = s.flash ∧
      Counted s t 0x7000 0x02 1) ∧
  (∀ (r : DictReq) (b : Byte) (s : State), ByOperator r s → NotBusy r s 0x7000 0x05 → b = 1#8 →
    ∃ t, exec (.logErase r [b]) s = .next t ∧ Answers r 0 [] t ∧ t.masthead.eraseDue = true ∧ t.flash = s.flash ∧
      t.table = s.table ∧ t.mem = s.mem) ∧
  (∀ (r : DictReq) (b : Byte) (s : State), ByOperator r s → NotBusy r s 0x1400 0x0B → b = 1#8 →
    ∃ t, exec (.deviceResetCommand r [b]) s = .next t ∧ Answers r 0 [] t ∧ t.power.resetDue = some 1 ∧ t.boot = s.boot ∧
      t.table = s.table ∧ t.mem = s.mem) ∧
  (∀ (r : DictReq) (b : Byte) (s : State), ByOperator r s → NotBusy r s 0x1400 0x0B → b = 2#8 →
    ∃ t, exec (.recoveryResetCommand r [b]) s = .next t ∧ Answers r 0 [] t ∧ t.power.resetDue = some 2 ∧ t.boot = s.boot ∧
      t.table = s.table ∧ t.mem = s.mem) ∧
  (∀ (r : DictReq) (b : Byte) (s : State), ByOperator r s → NotBusy r s 0x7002 0x05 → b = 1#8 → s.fab.inDoubt = none →
    (∀ c ∈ s.faults.causes, c = 1) → ∃ t, exec (.leaveHalfMast r [b]) s = .next t ∧ Answers r 0 [] t ∧ t.faults.leaveDue = true ∧
      t.rd 0x7001 0x07 = s.rd 0x7001 0x07 ∧ t.table = s.table ∧ t.mem = s.mem) ∧
  (∀ (r : DictReq) (b : Byte) (s : State), ByOperator r s → b = 1#8 → s.fab.inDoubt ≠ none →
    ∃ t, exec (.leaveHalfMast r [b]) s = .next t ∧ Answers r 3 [] t ∧ t.faults = s.faults ∧ t.table = s.table ∧ t.mem = s.mem) ∧
  (∀ (s : State) (b : Nat), s.faults.hmEntered = some b → s.rd 0x7001 0x07 = 1 → s.faults.causes = [1] →
    b + s.rd 0x7002 0x02 ≤ s.beat →
    exec .halfMastWindowExpiry s = .next { s with faults := { s.faults with leaveDue := true } }) ∧
  (∀ (s : State) (d : Nat), d < 8 → s.dies.length = 8 → (s.die d).lost = false → ∃ t, exec (.greundLinksFail d) s = .next t ∧
    (t.die d).lost = true ∧ (∀ e, e ≠ d → t.die e = s.die e) ∧ t.arrays = s.arrays ∧ t.table = s.table ∧ t.mem = s.mem)

/-! ## Resets, start-up and the test access port (R481, R485, R487, R497 to R508, R520 to R524) -/

/-- R498, R499: a power-on reset loses the count and a pin reset keeps it; both are counted and keep the flash's log. R503, R481, R485, R487,
R506, R507: the stages of start-up in turn, each with its effect. R266: an accepted KV setting is stored and the pool follows.
The model's own choices it rests on: log entries 31, 125, 126. -/
def Obligations.ResetsAndStartUpRunInStages : Prop :=
  (∀ s : State, ∃ t, exec .powerOnReset s = .next t ∧ t.count = 0#64 ∧ t.obj = [] ∧ t.boot = State.reset.boot ∧ t.table = [] ∧
    t.mem = [] ∧ t.flash.resets = s.flash.resets + 1 ∧ t.flash.log = s.flash.log ∧ t.pending = s.pending) ∧
  (∀ s : State, s.power.s3 = none → ∃ t, exec .warmReset s = .next t ∧ t.count = s.count ∧ t.rd 0x1000 0x09 = 1 ∧
    t.boot = State.reset.boot ∧ t.table = [] ∧ t.mem = [] ∧ t.flash.resets = s.flash.resets + 1 ∧ t.flash.log = s.flash.log ∧
    t.pending = s.pending) ∧
  (∀ s : State, s.power.s3.isSome = true → exec .warmReset s = .next s) ∧
  (∀ (s : State) (x y z p : Nat), s.boot.released = false → s.tap.hold = false → s.power.s3 = none → ∃ t,
    exec (.startupRelease x y z p) s = .next t ∧ t.boot.released = true ∧ t.power.posX = x % 64 ∧ t.power.posY = y % 64 ∧
    t.power.posZ = z % 64 ∧ t.power.straps = p % 4 ∧ t.rd 0x2000 0x03 = 600 ∧ t.rd 0x2000 0x05 = 7 ∧ t.count = s.count ∧
    t.table = s.table ∧ t.mem = s.mem) ∧
  (∀ s : State, s.boot.released = true → s.boot.fwOk = false → s.boot.recovery = false → ∃ t, exec .firmwareCheck s = .next t ∧
    (firmwareOk s.flash.firmware s = true → t.boot.fwOk = true ∧ t.boot.recovery = false ∧ t.sec.keys = imageKeys s.flash.firmware) ∧
    (firmwareOk s.flash.firmware s = false → t.boot.fwOk = false ∧ t.boot.recovery = true ∧ t.rd 0x1000 0x08 = 2 ∧
      t.rd 0x1200 0x03 = 0) ∧ t.table = s.table ∧ t.mem = s.mem) ∧
  (∀ (s : State) (puf : Bool), s.boot.fwOk = true → s.boot.recovery = false → s.boot.keyDone = false →
    ∃ t, exec (.keyUnwrap puf) s = .next t ∧ t.boot.keyDone = true ∧ t.masthead.on = true ∧
      t.sec.ensign = (puf || s.sec.ensign) ∧ t.table = s.table ∧ t.mem = s.mem) ∧
  (∀ s : State, s.boot.keyDone = true → s.boot.fwOk = true → s.boot.profileDone = false → s.flash.profiles = [[], [], [], []] →
    ∃ t, exec .profileApply s = .next t ∧ t.boot.profileDone = true ∧ t.rd 0x1400 0x01 = s.selectedSlot ∧
      t.rd 0x1400 0x03 = 0xFF ∧ t.rd 0x1100 0x02 = 0 ∧ t.power.heldRings = [] ∧ t.power.pending = none ∧ t.table = s.table ∧
      t.mem = s.mem) ∧
  (∀ (s : State) (trained : List Bool), s.boot.profileDone = true → s.boot.d2dDone = false → s.dies.length = 8 →
    ∃ t, exec (.d2dTraining trained) s = .next t ∧ t.boot.d2dDone = true ∧ t.power.bypHold = 1 ∧
      (∀ d, d < 8 → (t.die d).lost = ((s.die d).lost || !trained.getD d false)) ∧ t.table = s.table ∧ t.mem = s.mem) ∧
  (∀ (s : State) (ok : Bool), s.boot.profileDone = true → s.boot.memDone = false → ∃ t, exec (.memoryTraining ok) s = .next t ∧
    t.mem = [] ∧ t.table = [] ∧ t.bufs = [] ∧ t.boot.memDone = true ∧ t.boot.memOk = ok ∧ t.obj = s.obj) ∧
  (∀ s : State, s.mayBeReady = true → ∃ t, exec .ready s = .next t ∧ t.boot.ready = true ∧ t.rd 0x1000 0x0A = s.beat ∧
    t.rd 0x1000 0x08 = (if s.boot.memOk then 0 else 1) ∧ (s.boot.memOk = false → t.rd 0x7001 0x07 = 2) ∧
    t.rd 0x1203 0x02 = s.beat + s.rd 0x1203 0x01 ∧ t.sec.minSvn = max s.sec.minSvn (imageSvn s.flash.firmware) ∧
    t.table = s.table ∧ t.mem = s.mem) ∧
  (∀ (r : DictReq) (b : Byte) (s : State), ByOperator r s → NotBusy r s 0x6000 0x01 → b.toNat ≤ 1 → s.allFree = true →
    s.loading = false → ∃ t, exec (.kvConfigWrite r 0x01 [b]) s = .next t ∧ Answers r 0 [] t ∧ t.rd 0x6000 0x01 = b.toNat ∧
      (∀ h, h < 2 → t.pool.base.getD h 0 = 0x100000 + hbmPages * h + (hbmPages - t.pool.size.getD h 0)) ∧ t.table = s.table ∧
      t.mem = s.mem)

/-- R520, R523, R524: an instruction is current from its update on; EXTEST, EXTEST_PULSE, EXTEST_TRAIN, CLAMP and HIGHZ hold the
device as under RESET_N, and the first other instruction then resets it with cause 1; SAMPLE/PRELOAD captures as many bits as it loads; a
private instruction ends every session and is remembered; an unassigned opcode acts as BYPASS.
The model's own choices it rests on: log entries 22, 133. -/
def Obligations.TheTestPortHoldsAndReleasesTheDevice : Prop :=
  (∀ s : State, s.tap.hold = false → ∃ t, exec .tapReset s = .next t ∧ t.tap.ir = 1 ∧ t.tap.boundary = s.tap.boundary ∧
    t = { s with tap := t.tap }) ∧
  (∀ s : State, s.tap.hold = true → s.power.s3 = none → ∃ t, exec .idcode s = .next t ∧ t.tap.ir = 1 ∧ t.tap.hold = false ∧
    t.rd 0x1000 0x09 = 1 ∧ t.flash.resets = s.flash.resets + 1 ∧ t.count = s.count ∧ t.pending = s.pending) ∧
  (∀ (s : State) (data : Bytes), s.tap.hold = false → ∃ t, exec (.samplePreload data) s = .next t ∧ t.tap.ir = 2 ∧
    t.tap.boundary = data ∧ t.tap.dr.length = data.length ∧ t.obj = s.obj ∧ t.table = s.table ∧ t.mem = s.mem) ∧
  (∀ (s : State) (data : Bytes), s.tap.hold = false → s.power.s3 = none → ∃ t, exec (.extest data) s = .next t ∧
    t.tap.ir = 3 ∧ t.tap.boundary = data ∧ HeldByTap s t) ∧
  (∀ (s : State) (data : Bytes), s.tap.hold = false → s.power.s3 = none → ∃ t, exec (.extestPulse data) s = .next t ∧
    t.tap.ir = 4 ∧ t.tap.boundary = data ∧ HeldByTap s t) ∧
  (∀ (s : State) (data : Bytes), s.tap.hold = false → s.power.s3 = none → ∃ t, exec (.extestTrain data) s = .next t ∧
    t.tap.ir = 5 ∧ t.tap.boundary = data ∧ HeldByTap s t) ∧
  (∀ (s : State) (data : Bytes), s.tap.hold = false → s.power.s3 = none → ∃ t, exec (.clamp data) s = .next t ∧
    t.tap.ir = 6 ∧ t.tap.boundary = data ∧ t.tap.dr = [0#8] ∧ HeldByTap s t) ∧
  (∀ s : State, s.tap.hold = false → s.power.s3 = none → ∃ t, exec .highz s = .next t ∧
    t.tap.ir = 7 ∧ t.tap.dr = [0#8] ∧ HeldByTap s t) ∧
  (∀ (s : State) (op : Nat), s.tap.hold = false → assignedOpcode op = false → op ≤ 0xFF →
    exec (.bypass op) s = .next { s with tap := ⟨0xFF, s.tap.boundary, [0#8], false⟩ }) ∧
  (∀ (s : State) (op : Nat), s.tap.hold = false → 0x80 ≤ op → op ≤ 0xFE → ∃ t, exec (.privateInstruction op) s = .next t ∧
    t.tap.ir = op ∧ t.sec.sessions = [] ∧ t.sec.sigQueue = [] ∧ t.sec.ensign = false ∧ t.sec.privUsed = true ∧ t.obj = s.obj ∧
    t.table = s.table ∧ t.mem = s.mem)

/-- R521: under IDCODE the identification register holds the major silicon stepping in bits [31:28], the part number 0xA501 in bits
[27:12], the manufacturer code in bits [11:1], and 1 in bit 0. -/
def Obligations.TheIdentificationRegisterIsSelected : Prop :=
  ∀ s : State, ∃ t, exec .idcode s = .next t ∧ t.tap.ir = 1 ∧ bits (leNat t.tap.dr) 31 28 = Config.stepping / 256 % 16 ∧
    bits (leNat t.tap.dr) 27 12 = 0xA501 ∧ bits (leNat t.tap.dr) 11 1 = bits Config.idcode.toNat 11 1 ∧
    bits (leNat t.tap.dr) 0 0 = 1

/-- R333: at its deadline plus L1 a pending BATCH or MCDATA copy is discarded, whatever else is held; a pending DECISION stays. -/
def Obligations.APendingCopyIsDiscardedAtItsTimeout : Prop :=
  ∀ (s : State) (i : McIn), s.fab.ins.find? (fun x => x.mcnum = i.mcnum && x.src = i.src) = some i →
    (∀ x ∈ s.fab.ins, x.mcnum = i.mcnum → x.src = i.src → x = i) → i.deadline + s.rd 0x3102 0x02 ≤ s.beat →
    ∃ t, exec (.pendingCopyTimeout i.mcnum i.src) s = .next t ∧ t.fab.step = s.fab.step ∧ t.table = s.table ∧ t.obj = s.obj ∧
      t.mem = s.mem ∧ ∀ x, x ∈ t.fab.ins ↔ (x ∈ s.fab.ins ∧ (x ≠ i ∨ ∃ d, i.body = .decision d))

/-! ## Loopbacks and array self-tests (R390, R391, R510 to R519) -/

/-- R515: a write that places an interface in a loopback is accepted whatever other loopbacks run, at any depth, and leaves every
other loopback object, and each link, memory, die, array and the port, as it was. -/
def Obligations.ALoopbackChangesNoOtherInterface : Prop :=
  ∀ (r : DictReq) (index : Nat) (data : Bytes) (row : ObjRow) (s : State), isLoopback index = true → ByOperator r s →
    NotBusy r s index 0x01 → objRow index 0x01 = some row → data.length = row.len → beNat data ≤ row.most →
    loopbackOk index (beNat data) s = true → ∃ t, exec (.write r index 0x01 data) s = .next t ∧ Answers r 0 [] t ∧
      t.rd index 0x01 = (if 0x7F20 ≤ index ∧ index ≤ 0x7F27 then beNat data % 4096 else beNat data) ∧
      (∀ j, isLoopback j = true → j ≠ index → t.rd j 0x01 = s.rd j 0x01) ∧ (index ≠ 0x7F00 → t.portUp = s.portUp) ∧
      t.links = s.links ∧ t.fab = s.fab ∧ t.dies = s.dies ∧ t.arrays = s.arrays ∧ t.dma = s.dma ∧ t.table = s.table ∧ t.mem = s.mem

/-- R390, R391, R510 to R514: each loopback write is accepted while its interface is out of service, and 0 ends it; the Ethernet port is down
until its loopback ends by itself. R516 to R519: a test of a free inside is queued, starts in its turn, and retires the arrays that fail.
The model's own choices it rests on: log entries 95, 97. -/
def Obligations.LoopbacksAndArrayTestsRun : Prop :=
  (∀ (r : DictReq) (s : State), ByOperator r s → NotBusy r s 0x7F00 0x01 → s.allFree = true →
    (∃ t, exec (.ethLoopbackMac r [1#8]) s = .next t ∧ EthLooped r 1 s t) ∧
    (∃ t, exec (.ethLoopbackPcs r [2#8]) s = .next t ∧ EthLooped r 2 s t) ∧
    (∃ t, exec (.ethLoopbackPma r [3#8]) s = .next t ∧ EthLooped r 3 s t) ∧
    ∃ t, exec (.ethLoopbackFarEnd r [4#8]) s = .next t ∧ EthLooped r 4 s t) ∧
  (∀ s : State, s.rd 0x7F00 0x03 ≠ 0 → s.rd 0x7F00 0x03 ≤ s.beat → ∃ t, exec .ethLoopbackEnd s = .next t ∧ t.rd 0x7F00 0x01 = 0 ∧
    t.rd 0x7F00 0x03 = 0 ∧ t.rd 0x1100 0x03 = s.rd 0x1100 0x03 ∧ t.table = s.table ∧ t.mem = s.mem) ∧
  (∀ (r : DictReq) (k : Nat) (s : State), k < 6 → ByOperator r s → NotBusy r s (0x7F10 + k) 0x01 → bitOf (s.rd 0x3000 0x02) k = false →
    (∃ t, exec (.linkLoopbackLinkLayer r k [1#8]) s = .next t ∧ Looped r (0x7F10 + k) 1 s t) ∧
    (∃ t, exec (.linkLoopbackFecPcs r k [2#8]) s = .next t ∧ Looped r (0x7F10 + k) 2 s t) ∧
    (∃ t, exec (.linkLoopbackNearEndSerial r k [3#8]) s = .next t ∧ Looped r (0x7F10 + k) 3 s t) ∧
    ∃ t, exec (.linkLoopbackFarEndRemote r k [4#8]) s = .next t ∧ Looped r (0x7F10 + k) 4 s t) ∧
  (∀ (r : DictReq) (d : Nat) (data : Bytes) (s : State), d < 8 → ByOperator r s → NotBusy r s (0x7F20 + d) 0x01 → data.length = 2 →
    beNat data % 4096 ≠ 0 → s.insideFree = true →
    ∃ t, exec (.ucieLoopback r d data) s = .next t ∧ Looped r (0x7F20 + d) (beNat data % 4096) s t) ∧
  (∀ (r : DictReq) (k : Nat) (s : State), k < 4 → ByOperator r s → NotBusy r s (0x7F30 + k) 0x01 → s.insideFree = true →
    (∃ t, exec (.hbmLoopbackController r k [1#8]) s = .next t ∧ Looped r (0x7F30 + k) 1 s t) ∧
    ∃ t, exec (.hbmLoopbackPhy r k [2#8]) s = .next t ∧ Looped r (0x7F30 + k) 2 s t) ∧
  (∀ (r : DictReq) (k : Nat) (s : State), k < 8 → ByOperator r s → NotBusy r s (0x7F34 + k) 0x01 → s.insideFree = true →
    (∃ t, exec (.lpddrLoopbackController r k [1#8]) s = .next t ∧ Looped r (0x7F34 + k) 1 s t) ∧
    ∃ t, exec (.lpddrLoopbackPhy r k [2#8]) s = .next t ∧ Looped r (0x7F34 + k) 2 s t) ∧
  (∀ (r : DictReq) (index : Nat) (s : State), isLoopback index = true → ¬(0x7F20 ≤ index ∧ index ≤ 0x7F27) → ByOperator r s →
    NotBusy r s index 0x01 → ∃ t, exec (.loopbackOff r index [0#8]) s = .next t ∧ Looped r index 0 s t) ∧
  (∀ (r : DictReq) (d : Nat) (s : State), d < 8 → ByOperator r s → NotBusy r s (0x7F20 + d) 0x01 →
    ∃ t, exec (.loopbackOff r (0x7F20 + d) [0#8, 0#8]) s = .next t ∧ Looped r (0x7F20 + d) 0 s t) ∧
  (∀ (r : DictReq) (s : State), ByOperator r s → NotBusy r s 0x7F40 0x03 → s.insideFree = true → s.rd 0x7F40 0x04 ≠ 1 →
    s.rd (0x7F20 + s.rd 0x7F40 0x02) 0x01 = 0 → (s.die (s.rd 0x7F40 0x02)).lost = false →
    (s.rd 0x7F40 0x01 = 0 → ∃ t w, exec (.arrayTestTrimDac r [1#8]) s = .next t ∧ Answers r 0 [] t ∧ t.rd 0x7F40 0x04 = 1 ∧
      w ∈ t.cal.waiting ∧ w.die = s.rd 0x7F40 0x02 ∧ w.test = some 0 ∧ t.table = s.table ∧ t.mem = s.mem) ∧
    (s.rd 0x7F40 0x01 = 1 → ∃ t w, exec (.arrayTestReference r [1#8]) s = .next t ∧ Answers r 0 [] t ∧ t.rd 0x7F40 0x04 = 1 ∧
      w ∈ t.cal.waiting ∧ w.die = s.rd 0x7F40 0x02 ∧ w.test = some 1 ∧ t.table = s.table ∧ t.mem = s.mem)) ∧
  (∀ (s : State) (w : CalWin), s.nextWindow = some w → w.test.isSome = true → ∃ t, exec .arrayTestStart s = .next t ∧
    t.cal.current = some { w with start := s.beat } ∧ t.rd 0x2200 0x03 = w.die ∧ t.table = s.table ∧ t.mem = s.mem) ∧
  (∀ (s : State) (w : CalWin), s.cal.current = some w → w.test.isSome = true → w.start + w.beats ≤ s.beat →
    ∃ t, exec (.arrayTestResult []) s = .next t ∧ t.rd 0x7F40 0x04 = 2 ∧ t.rd 0x7F40 0x05 = 0 ∧ t.cal.current = none ∧
      t.arrays = s.arrays ∧ t.table = s.table ∧ t.mem = s.mem) ∧
  (∀ (s : State) (w : CalWin) (a : Nat), s.cal.current = some w → w.test.isSome = true → w.start + w.beats ≤ s.beat →
    dieOf a = w.die → a < 33792 → (s.arr a).retired = false → ∃ t, exec (.arrayTestResult [a]) s = .next t ∧ t.rd 0x7F40 0x04 = 3 ∧
      t.rd 0x7F40 0x05 = 1 ∧ t.cal.current = none ∧ (t.arr a).retired = true ∧ (∀ b, b ≠ a → t.arr b = s.arr b) ∧
      t.table = s.table ∧ t.mem = s.mem)
end

