-- ==== Sys2Proof/Laws/Store.lean ====
section
/-! SUPPORT. Laws of the sparse stores: what a write leaves to be read, and that every operation keeps the canonical form. -/

namespace Sys2Proof.Machine
open Sys2Proof

variable {α : Type}

/-! ## Reading after writing -/

@[simp] theorem sget_nil (d : α) (k : Nat) : sget d k [] = d := rfl

theorem sget_sput_same (d : α) (k : Nat) (v : α) (l : List (Nat × α)) : sget d k (sput k v l) = v := by
  induction l with
  | nil => simp [sput, sget]
  | cons c l ih =>
    obtain ⟨j, w⟩ := c
    simp only [sput]
    split_ifs with h1 h2
    · simp [sget]
    · simp [sget]
    · simp [sget, h2, ih]

theorem sget_sput_other (d : α) {k q : Nat} (h : q ≠ k) (v : α) (l : List (Nat × α)) :
    sget d q (sput k v l) = sget d q l := by
  induction l with
  | nil => simp [sput, sget, h.symm]
  | cons c l ih =>
    obtain ⟨j, w⟩ := c
    simp only [sput]
    split_ifs with h1 h2
    · simp [sget, h.symm]
    · subst h2; simp [sget, h.symm]
    · simp [sget, ih]

theorem sget_sdel_same (d : α) (k : Nat) (l : List (Nat × α)) : sget d k (sdel k l) = d := by
  induction l with
  | nil => rfl
  | cons c l ih =>
    obtain ⟨j, w⟩ := c
    simp only [sdel]
    split_ifs with h
    · exact ih
    · simp [sget, h, ih]

theorem sget_sdel_other (d : α) {k q : Nat} (h : q ≠ k) (l : List (Nat × α)) : sget d q (sdel k l) = sget d q l := by
  induction l with
  | nil => rfl
  | cons c l ih =>
    obtain ⟨j, w⟩ := c
    simp only [sdel]
    split_ifs with hj
    · subst hj; simp [sget, h.symm, ih]
    · simp [sget, ih]

/-- A read after a write to the same key gives the value written. -/
@[simp] theorem sget_sset_same [DecidableEq α] (d : α) (k : Nat) (v : α) (l : List (Nat × α)) :
    sget d k (sset d k v l) = v := by
  unfold sset
  split_ifs with h
  · rw [sget_sdel_same, h]
  · exact sget_sput_same d k v l

/-- A write leaves every other key alone. -/
theorem sget_sset_other [DecidableEq α] (d : α) {k q : Nat} (h : q ≠ k) (v : α) (l : List (Nat × α)) :
    sget d q (sset d k v l) = sget d q l := by
  unfold sset
  split_ifs
  · exact sget_sdel_other d h l
  · exact sget_sput_other d h v l

/-- Both laws in one: what is read under q after a write under k. -/
theorem sget_sset [DecidableEq α] (d : α) (k q : Nat) (v : α) (l : List (Nat × α)) :
    sget d q (sset d k v l) = if q = k then v else sget d q l := by
  split_ifs with h
  · subst h; exact sget_sset_same d q v l
  · exact sget_sset_other d h v l

/-- The default of a key that is read under another default: a write read under a default of its own. -/
theorem sget_sset_dflt [DecidableEq α] (d e : α) {k q : Nat} (h : q ≠ k) (v : α) (l : List (Nat × α)) :
    sget e q (sset d k v l) = sget e q l := by
  unfold sset
  split_ifs
  · exact sget_sdel_other e h l
  · exact sget_sput_other e h v l

/-! ## The canonical form -/

/-- A store whose keys rise from a bound has them rise from every lower bound. -/
theorem swfFrom_mono [DecidableEq α] (d : α) {lo lo' : Nat} (h : lo' ≤ lo) {l : List (Nat × α)} (w : swfFrom d lo l = true) :
    swfFrom d lo' l = true := by
  cases l with
  | nil => rfl
  | cons c l =>
    simp only [swfFrom, Bool.and_eq_true, decide_eq_true_eq] at w ⊢
    exact ⟨⟨h.trans w.1.1, w.1.2⟩, w.2⟩

theorem swfFrom_sput [DecidableEq α] (d : α) {v : α} (hv : v ≠ d) {k lo : Nat} (hk : lo ≤ k) {l : List (Nat × α)}
    (w : swfFrom d lo l = true) : swfFrom d lo (sput k v l) = true := by
  induction l generalizing lo with
  | nil => simp [sput, swfFrom, hk, hv]
  | cons c l ih =>
    obtain ⟨j, x⟩ := c
    simp only [swfFrom, Bool.and_eq_true, decide_eq_true_eq] at w
    obtain ⟨⟨h1, h2⟩, h3⟩ := w
    simp only [sput]
    split_ifs with a b
    · simp [swfFrom, hk, hv, h2, h3, Nat.succ_le_of_lt a]
    · subst b; simp [swfFrom, hk, hv, h3]
    · have hj : j + 1 ≤ k := by omega
      simp [swfFrom, h1, h2, ih hj h3]

theorem swfFrom_sdel [DecidableEq α] (d : α) {k lo : Nat} {l : List (Nat × α)} (w : swfFrom d lo l = true) :
    swfFrom d lo (sdel k l) = true := by
  induction l generalizing lo with
  | nil => rfl
  | cons c l ih =>
    obtain ⟨j, x⟩ := c
    simp only [swfFrom, Bool.and_eq_true, decide_eq_true_eq] at w
    obtain ⟨⟨h1, h2⟩, h3⟩ := w
    simp only [sdel]
    split_ifs
    · exact ih (swfFrom_mono d (by omega) h3)
    · simp [swfFrom, h1, h2, ih h3]

/-- A write keeps the canonical form. -/
theorem swf_sset [DecidableEq α] (d : α) (k : Nat) (v : α) {l : List (Nat × α)} (w : swf d l = true) :
    swf d (sset d k v l) = true := by
  unfold sset
  split_ifs with h
  · exact swfFrom_sdel d w
  · exact swfFrom_sput d h (Nat.zero_le k) w

/-- Taking entries away keeps the canonical form. -/
theorem swfFrom_filter [DecidableEq α] (d : α) (p : Nat × α → Bool) {lo : Nat} {l : List (Nat × α)}
    (w : swfFrom d lo l = true) : swfFrom d lo (l.filter p) = true := by
  induction l generalizing lo with
  | nil => rfl
  | cons c l ih =>
    obtain ⟨j, x⟩ := c
    simp only [swfFrom, Bool.and_eq_true, decide_eq_true_eq] at w
    obtain ⟨⟨h1, h2⟩, h3⟩ := w
    rw [List.filter_cons]
    split_ifs
    · simp [swfFrom, h1, h2, ih h3]
    · exact ih (swfFrom_mono d (by omega) h3)

/-! ## Equal stores are equal data -/

theorem sget_of_lt [DecidableEq α] (d : α) {k lo : Nat} (hk : k < lo) {l : List (Nat × α)} (w : swfFrom d lo l = true) :
    sget d k l = d := by
  induction l generalizing lo with
  | nil => rfl
  | cons c l ih =>
    obtain ⟨j, x⟩ := c
    simp only [swfFrom, Bool.and_eq_true, decide_eq_true_eq] at w
    have hj : j ≠ k := by omega
    simp only [sget, hj, if_false]
    exact ih (by omega) w.2

/-- Two stores in canonical form that read alike under every key are the same list. -/
theorem swfFrom_ext [DecidableEq α] (d : α) {lo : Nat} {l m : List (Nat × α)} (wl : swfFrom d lo l = true)
    (wm : swfFrom d lo m = true) (h : ∀ k, sget d k l = sget d k m) : l = m := by
  induction l generalizing lo m with
  | nil =>
    cases m with
    | nil => rfl
    | cons c m =>
      simp only [swfFrom, Bool.and_eq_true, decide_eq_true_eq] at wm
      have := h c.1
      simp only [sget, if_true] at this
      exact absurd this.symm wm.1.2
  | cons c l ih =>
    obtain ⟨j, x⟩ := c
    cases m with
    | nil =>
      simp only [swfFrom, Bool.and_eq_true, decide_eq_true_eq] at wl
      have := h j
      simp only [sget, if_true] at this
      exact absurd this wl.1.2
    | cons c m =>
      obtain ⟨i, y⟩ := c
      simp only [swfFrom, Bool.and_eq_true, decide_eq_true_eq] at wl wm
      have hij : j = i := by
        rcases Nat.lt_trichotomy j i with a | a | a
        · have e := h j
          have n : i ≠ j := by omega
          simp only [sget, if_true, n, if_false] at e
          rw [sget_of_lt d (by omega) wm.2] at e
          exact absurd e wl.1.2
        · exact a
        · have e := h i
          have n : j ≠ i := by omega
          simp only [sget, if_true, n, if_false] at e
          rw [sget_of_lt d (by omega) wl.2] at e
          exact absurd e.symm wm.1.2
      subst hij
      have hxy : x = y := by simpa [sget] using h j
      subst hxy
      have : l = m := by
        refine ih wl.2 wm.2 fun k => ?_
        by_cases hk : j = k
        · subst hk
          rw [sget_of_lt d (Nat.lt_succ_self j) wl.2, sget_of_lt d (Nat.lt_succ_self j) wm.2]
        · simpa [sget, hk] using h k
      rw [this]

end Sys2Proof.Machine
end

