-- ==== Sys2Proof/Laws/Memory.lean ====
section
/-! SUPPORT. Laws of the byte memories: a read after a write, what a write leaves alone, and that every memory operation keeps
the canonical form. -/

namespace Sys2Proof.Machine
open Sys2Proof

/-! ## One byte -/

@[simp] theorem memRead_memWrite_same (a : Nat) (b : Byte) (m : List Host.Cell) : memRead (memWrite a b m) a = b :=
  sget_sset_same memDefault a b m

theorem memRead_memWrite_other {a q : Nat} (h : q ≠ a) (b : Byte) (m : List Host.Cell) :
    memRead (memWrite a b m) q = memRead m q :=
  sget_sset_other memDefault h b m

theorem memWrite_wf (a : Nat) (b : Byte) {m : List Host.Cell} (w : Memory.wf m = true) : Memory.wf (memWrite a b m) = true :=
  swf_sset memDefault a b w

@[simp] theorem Memory.wf_nil : Memory.wf [] = true := rfl

/-! ## Several bytes -/

theorem memWriteN_wf (a : Nat) (bs : Bytes) {m : List Host.Cell} (w : Memory.wf m = true) :
    Memory.wf (memWriteN a bs m) = true := by
  induction bs generalizing a m with
  | nil => exact w
  | cons b bs ih => exact ih (a + 1) (memWrite_wf a b w)

/-- A write of several bytes leaves every byte outside them alone. -/
theorem memRead_memWriteN_outside {a q : Nat} {bs : Bytes} (h : q < a ∨ a + bs.length ≤ q) (m : List Host.Cell) :
    memRead (memWriteN a bs m) q = memRead m q := by
  induction bs generalizing a m with
  | nil => rfl
  | cons b bs ih =>
    simp only [List.length_cons] at h
    have hq : q ≠ a := by omega
    show memRead (memWriteN (a + 1) bs (memWrite a b m)) q = memRead m q
    rw [ih (by omega), memRead_memWrite_other hq]

/-- A write of several bytes is read back byte by byte. -/
theorem memRead_memWriteN_inside (a : Nat) (bs : Bytes) (i : Nat) (h : i < bs.length) (m : List Host.Cell) :
    memRead (memWriteN a bs m) (a + i) = bs[i] := by
  induction bs generalizing a i m with
  | nil => simp at h
  | cons b bs ih =>
    cases i with
    | zero =>
      show memRead (memWriteN (a + 1) bs (memWrite a b m)) a = b
      rw [memRead_memWriteN_outside (Or.inl (Nat.lt_succ_self a)), memRead_memWrite_same]
    | succ i =>
      simp only [List.length_cons] at h
      have := ih (a + 1) i (by omega) (memWrite a b m)
      simpa [memWriteN, Nat.add_assoc, Nat.add_comm 1 i] using this

@[simp] theorem memReadN_length (m : List Host.Cell) (a n : Nat) : (memReadN m a n).length = n := by
  induction n generalizing a with
  | zero => rfl
  | succ n ih => simp [memReadN, ih]

/-! ## Ranges set to zero, and copies -/

theorem memZero_wf (a n : Nat) {m : List Host.Cell} (w : Memory.wf m = true) : Memory.wf (memZero a n m) = true :=
  swfFrom_filter memDefault _ w

theorem sget_filter_none {α : Type} (d : α) (p : Nat × α → Bool) (k : Nat) (l : List (Nat × α))
    (h : ∀ v, p (k, v) = false) : sget d k (l.filter p) = d := by
  induction l with
  | nil => rfl
  | cons c l ih =>
    obtain ⟨j, x⟩ := c
    rw [List.filter_cons]
    split_ifs with hp
    · have : j ≠ k := fun e => by subst e; rw [h x] at hp; exact absurd hp (by decide)
      simp [sget, this, ih]
    · exact ih

theorem sget_filter_all {α : Type} (d : α) (p : Nat × α → Bool) (k : Nat) (l : List (Nat × α))
    (h : ∀ v, p (k, v) = true) : sget d k (l.filter p) = sget d k l := by
  induction l with
  | nil => rfl
  | cons c l ih =>
    obtain ⟨j, x⟩ := c
    rw [List.filter_cons]
    split_ifs with hp
    · simp only [sget, ih]
    · have : j ≠ k := fun e => by subst e; exact hp (h x)
      simp [sget, this, ih]

/-- A byte of a zeroed range reads 0. -/
theorem memRead_memZero_inside {a n q : Nat} (h1 : a ≤ q) (h2 : q < a + n) (m : List Host.Cell) :
    memRead (memZero a n m) q = 0#8 := by
  refine sget_filter_none memDefault _ q m fun v => ?_
  simp only [Bool.or_eq_false_iff, decide_eq_false_iff_not]
  omega

/-- A byte outside a zeroed range reads as before. -/
theorem memRead_memZero_outside {a n q : Nat} (h : q < a ∨ a + n ≤ q) (m : List Host.Cell) :
    memRead (memZero a n m) q = memRead m q := by
  refine sget_filter_all memDefault _ q m fun v => ?_
  simp only [Bool.or_eq_true, decide_eq_true_eq]
  omega

/-- A fold of operations that each keep the canonical form keeps it. -/
theorem foldl_wf {β : Type} (f : List Host.Cell → β → List Host.Cell)
    (h : ∀ m b, Memory.wf m = true → Memory.wf (f m b) = true) (l : List β) {m : List Host.Cell} (w : Memory.wf m = true) :
    Memory.wf (l.foldl f m) = true := by
  induction l generalizing m with
  | nil => exact w
  | cons b l ih => exact ih (h m b w)

theorem copyPage_wf (src dst : Nat) {m : List Host.Cell} (w : Memory.wf m = true) : Memory.wf (copyPage src dst m) = true :=
  foldl_wf _ (fun _ _ h => memWrite_wf _ _ h) _ (memZero_wf _ _ w)

theorem transposeBlock_wf (d : Desc) (m : List Host.Cell) (k : Nat) (w : Memory.wf m = true) :
    Memory.wf (transposeBlock d m k) = true :=
  foldl_wf _ (fun _ _ h => memWriteN_wf _ _ h) _ w

end Sys2Proof.Machine
end

