-- ==== Sys2Proof/Laws/State.lean ====
section
/-! SUPPORT. Laws of the state's updates: one lemma for each field that an update leaves alone, and what an update leaves to be
read through the accessor of what it changes. -/

namespace Sys2Proof.Machine
open Sys2Proof

variable (s : State) (i u n v : Nat) (b : Bytes) (o : Out) (os : List Out) (e : Entry)
  (fl : Link → Link) (fe : Entry → Entry) (fr : Ring → Ring) (fw : Win → Win) (fg : Dma → Dma) (fa : Arr → Arr) (fd : Die → Die)
  (ff : Fabric → Fabric) (fs : Step → Step) (ft : TimeSt → TimeSt)

/-! ### wrI -/

@[simp] theorem wrI_pending : (s.wrI i u n v).pending = s.pending := rfl
@[simp] theorem wrI_count : (s.wrI i u n v).count = s.count := rfl
@[simp] theorem wrI_draws : (s.wrI i u n v).draws = s.draws := rfl
@[simp] theorem wrI_pend : (s.wrI i u n v).pend = s.pend := rfl
@[simp] theorem wrI_oct : (s.wrI i u n v).oct = s.oct := rfl
@[simp] theorem wrI_table : (s.wrI i u n v).table = s.table := rfl
@[simp] theorem wrI_rings : (s.wrI i u n v).rings = s.rings := rfl
@[simp] theorem wrI_ringMem : (s.wrI i u n v).ringMem = s.ringMem := rfl
@[simp] theorem wrI_landed : (s.wrI i u n v).landed = s.landed := rfl
@[simp] theorem wrI_taken : (s.wrI i u n v).taken = s.taken := rfl
@[simp] theorem wrI_mem : (s.wrI i u n v).mem = s.mem := rfl
@[simp] theorem wrI_bufs : (s.wrI i u n v).bufs = s.bufs := rfl
@[simp] theorem wrI_granZero : (s.wrI i u n v).granZero = s.granZero := rfl
@[simp] theorem wrI_wins : (s.wrI i u n v).wins = s.wins := rfl
@[simp] theorem wrI_dma : (s.wrI i u n v).dma = s.dma := rfl
@[simp] theorem wrI_pool : (s.wrI i u n v).pool = s.pool := rfl
@[simp] theorem wrI_arrays : (s.wrI i u n v).arrays = s.arrays := rfl
@[simp] theorem wrI_dies : (s.wrI i u n v).dies = s.dies := rfl
@[simp] theorem wrI_img : (s.wrI i u n v).img = s.img := rfl
@[simp] theorem wrI_load : (s.wrI i u n v).load = s.load := rfl
@[simp] theorem wrI_qmonCopy : (s.wrI i u n v).qmonCopy = s.qmonCopy := rfl
@[simp] theorem wrI_samples : (s.wrI i u n v).samples = s.samples := rfl
@[simp] theorem wrI_monReads : (s.wrI i u n v).monReads = s.monReads := rfl
@[simp] theorem wrI_work : (s.wrI i u n v).work = s.work := rfl
@[simp] theorem wrI_nextRid : (s.wrI i u n v).nextRid = s.nextRid := rfl
@[simp] theorem wrI_fab : (s.wrI i u n v).fab = s.fab := rfl
@[simp] theorem wrI_links : (s.wrI i u n v).links = s.links := rfl
@[simp] theorem wrI_time : (s.wrI i u n v).time = s.time := rfl
@[simp] theorem wrI_eth : (s.wrI i u n v).eth = s.eth := rfl
@[simp] theorem wrI_hk : (s.wrI i u n v).hk = s.hk := rfl
@[simp] theorem wrI_cal : (s.wrI i u n v).cal = s.cal := rfl
@[simp] theorem wrI_power : (s.wrI i u n v).power = s.power := rfl
@[simp] theorem wrI_boot : (s.wrI i u n v).boot = s.boot := rfl
@[simp] theorem wrI_masthead : (s.wrI i u n v).masthead = s.masthead := rfl
@[simp] theorem wrI_flash : (s.wrI i u n v).flash = s.flash := rfl
@[simp] theorem wrI_sec : (s.wrI i u n v).sec = s.sec := rfl
@[simp] theorem wrI_faults : (s.wrI i u n v).faults = s.faults := rfl
@[simp] theorem wrI_tap : (s.wrI i u n v).tap = s.tap := rfl
@[simp] theorem wrI_out : (s.wrI i u n v).out = s.out := rfl

/-! ### wr -/

@[simp] theorem wr_pending : (s.wr i u v).pending = s.pending := rfl
@[simp] theorem wr_count : (s.wr i u v).count = s.count := rfl
@[simp] theorem wr_draws : (s.wr i u v).draws = s.draws := rfl
@[simp] theorem wr_pend : (s.wr i u v).pend = s.pend := rfl
@[simp] theorem wr_oct : (s.wr i u v).oct = s.oct := rfl
@[simp] theorem wr_table : (s.wr i u v).table = s.table := rfl
@[simp] theorem wr_rings : (s.wr i u v).rings = s.rings := rfl
@[simp] theorem wr_ringMem : (s.wr i u v).ringMem = s.ringMem := rfl
@[simp] theorem wr_landed : (s.wr i u v).landed = s.landed := rfl
@[simp] theorem wr_taken : (s.wr i u v).taken = s.taken := rfl
@[simp] theorem wr_mem : (s.wr i u v).mem = s.mem := rfl
@[simp] theorem wr_bufs : (s.wr i u v).bufs = s.bufs := rfl
@[simp] theorem wr_granZero : (s.wr i u v).granZero = s.granZero := rfl
@[simp] theorem wr_wins : (s.wr i u v).wins = s.wins := rfl
@[simp] theorem wr_dma : (s.wr i u v).dma = s.dma := rfl
@[simp] theorem wr_pool : (s.wr i u v).pool = s.pool := rfl
@[simp] theorem wr_arrays : (s.wr i u v).arrays = s.arrays := rfl
@[simp] theorem wr_dies : (s.wr i u v).dies = s.dies := rfl
@[simp] theorem wr_img : (s.wr i u v).img = s.img := rfl
@[simp] theorem wr_load : (s.wr i u v).load = s.load := rfl
@[simp] theorem wr_qmonCopy : (s.wr i u v).qmonCopy = s.qmonCopy := rfl
@[simp] theorem wr_samples : (s.wr i u v).samples = s.samples := rfl
@[simp] theorem wr_monReads : (s.wr i u v).monReads = s.monReads := rfl
@[simp] theorem wr_work : (s.wr i u v).work = s.work := rfl
@[simp] theorem wr_nextRid : (s.wr i u v).nextRid = s.nextRid := rfl
@[simp] theorem wr_fab : (s.wr i u v).fab = s.fab := rfl
@[simp] theorem wr_links : (s.wr i u v).links = s.links := rfl
@[simp] theorem wr_time : (s.wr i u v).time = s.time := rfl
@[simp] theorem wr_eth : (s.wr i u v).eth = s.eth := rfl
@[simp] theorem wr_hk : (s.wr i u v).hk = s.hk := rfl
@[simp] theorem wr_cal : (s.wr i u v).cal = s.cal := rfl
@[simp] theorem wr_power : (s.wr i u v).power = s.power := rfl
@[simp] theorem wr_boot : (s.wr i u v).boot = s.boot := rfl
@[simp] theorem wr_masthead : (s.wr i u v).masthead = s.masthead := rfl
@[simp] theorem wr_flash : (s.wr i u v).flash = s.flash := rfl
@[simp] theorem wr_sec : (s.wr i u v).sec = s.sec := rfl
@[simp] theorem wr_faults : (s.wr i u v).faults = s.faults := rfl
@[simp] theorem wr_tap : (s.wr i u v).tap = s.tap := rfl
@[simp] theorem wr_out : (s.wr i u v).out = s.out := rfl

/-! ### bump -/

@[simp] theorem bump_pending : (s.bump i u v).pending = s.pending := rfl
@[simp] theorem bump_count : (s.bump i u v).count = s.count := rfl
@[simp] theorem bump_draws : (s.bump i u v).draws = s.draws := rfl
@[simp] theorem bump_pend : (s.bump i u v).pend = s.pend := rfl
@[simp] theorem bump_oct : (s.bump i u v).oct = s.oct := rfl
@[simp] theorem bump_table : (s.bump i u v).table = s.table := rfl
@[simp] theorem bump_rings : (s.bump i u v).rings = s.rings := rfl
@[simp] theorem bump_ringMem : (s.bump i u v).ringMem = s.ringMem := rfl
@[simp] theorem bump_landed : (s.bump i u v).landed = s.landed := rfl
@[simp] theorem bump_taken : (s.bump i u v).taken = s.taken := rfl
@[simp] theorem bump_mem : (s.bump i u v).mem = s.mem := rfl
@[simp] theorem bump_bufs : (s.bump i u v).bufs = s.bufs := rfl
@[simp] theorem bump_granZero : (s.bump i u v).granZero = s.granZero := rfl
@[simp] theorem bump_wins : (s.bump i u v).wins = s.wins := rfl
@[simp] theorem bump_dma : (s.bump i u v).dma = s.dma := rfl
@[simp] theorem bump_pool : (s.bump i u v).pool = s.pool := rfl
@[simp] theorem bump_arrays : (s.bump i u v).arrays = s.arrays := rfl
@[simp] theorem bump_dies : (s.bump i u v).dies = s.dies := rfl
@[simp] theorem bump_img : (s.bump i u v).img = s.img := rfl
@[simp] theorem bump_load : (s.bump i u v).load = s.load := rfl
@[simp] theorem bump_qmonCopy : (s.bump i u v).qmonCopy = s.qmonCopy := rfl
@[simp] theorem bump_samples : (s.bump i u v).samples = s.samples := rfl
@[simp] theorem bump_monReads : (s.bump i u v).monReads = s.monReads := rfl
@[simp] theorem bump_work : (s.bump i u v).work = s.work := rfl
@[simp] theorem bump_nextRid : (s.bump i u v).nextRid = s.nextRid := rfl
@[simp] theorem bump_fab : (s.bump i u v).fab = s.fab := rfl
@[simp] theorem bump_links : (s.bump i u v).links = s.links := rfl
@[simp] theorem bump_time : (s.bump i u v).time = s.time := rfl
@[simp] theorem bump_eth : (s.bump i u v).eth = s.eth := rfl
@[simp] theorem bump_hk : (s.bump i u v).hk = s.hk := rfl
@[simp] theorem bump_cal : (s.bump i u v).cal = s.cal := rfl
@[simp] theorem bump_power : (s.bump i u v).power = s.power := rfl
@[simp] theorem bump_boot : (s.bump i u v).boot = s.boot := rfl
@[simp] theorem bump_masthead : (s.bump i u v).masthead = s.masthead := rfl
@[simp] theorem bump_flash : (s.bump i u v).flash = s.flash := rfl
@[simp] theorem bump_sec : (s.bump i u v).sec = s.sec := rfl
@[simp] theorem bump_faults : (s.bump i u v).faults = s.faults := rfl
@[simp] theorem bump_tap : (s.bump i u v).tap = s.tap := rfl
@[simp] theorem bump_out : (s.bump i u v).out = s.out := rfl

/-! ### bumpI -/

@[simp] theorem bumpI_pending : (s.bumpI i u n v).pending = s.pending := rfl
@[simp] theorem bumpI_count : (s.bumpI i u n v).count = s.count := rfl
@[simp] theorem bumpI_draws : (s.bumpI i u n v).draws = s.draws := rfl
@[simp] theorem bumpI_pend : (s.bumpI i u n v).pend = s.pend := rfl
@[simp] theorem bumpI_oct : (s.bumpI i u n v).oct = s.oct := rfl
@[simp] theorem bumpI_table : (s.bumpI i u n v).table = s.table := rfl
@[simp] theorem bumpI_rings : (s.bumpI i u n v).rings = s.rings := rfl
@[simp] theorem bumpI_ringMem : (s.bumpI i u n v).ringMem = s.ringMem := rfl
@[simp] theorem bumpI_landed : (s.bumpI i u n v).landed = s.landed := rfl
@[simp] theorem bumpI_taken : (s.bumpI i u n v).taken = s.taken := rfl
@[simp] theorem bumpI_mem : (s.bumpI i u n v).mem = s.mem := rfl
@[simp] theorem bumpI_bufs : (s.bumpI i u n v).bufs = s.bufs := rfl
@[simp] theorem bumpI_granZero : (s.bumpI i u n v).granZero = s.granZero := rfl
@[simp] theorem bumpI_wins : (s.bumpI i u n v).wins = s.wins := rfl
@[simp] theorem bumpI_dma : (s.bumpI i u n v).dma = s.dma := rfl
@[simp] theorem bumpI_pool : (s.bumpI i u n v).pool = s.pool := rfl
@[simp] theorem bumpI_arrays : (s.bumpI i u n v).arrays = s.arrays := rfl
@[simp] theorem bumpI_dies : (s.bumpI i u n v).dies = s.dies := rfl
@[simp] theorem bumpI_img : (s.bumpI i u n v).img = s.img := rfl
@[simp] theorem bumpI_load : (s.bumpI i u n v).load = s.load := rfl
@[simp] theorem bumpI_qmonCopy : (s.bumpI i u n v).qmonCopy = s.qmonCopy := rfl
@[simp] theorem bumpI_samples : (s.bumpI i u n v).samples = s.samples := rfl
@[simp] theorem bumpI_monReads : (s.bumpI i u n v).monReads = s.monReads := rfl
@[simp] theorem bumpI_work : (s.bumpI i u n v).work = s.work := rfl
@[simp] theorem bumpI_nextRid : (s.bumpI i u n v).nextRid = s.nextRid := rfl
@[simp] theorem bumpI_fab : (s.bumpI i u n v).fab = s.fab := rfl
@[simp] theorem bumpI_links : (s.bumpI i u n v).links = s.links := rfl
@[simp] theorem bumpI_time : (s.bumpI i u n v).time = s.time := rfl
@[simp] theorem bumpI_eth : (s.bumpI i u n v).eth = s.eth := rfl
@[simp] theorem bumpI_hk : (s.bumpI i u n v).hk = s.hk := rfl
@[simp] theorem bumpI_cal : (s.bumpI i u n v).cal = s.cal := rfl
@[simp] theorem bumpI_power : (s.bumpI i u n v).power = s.power := rfl
@[simp] theorem bumpI_boot : (s.bumpI i u n v).boot = s.boot := rfl
@[simp] theorem bumpI_masthead : (s.bumpI i u n v).masthead = s.masthead := rfl
@[simp] theorem bumpI_flash : (s.bumpI i u n v).flash = s.flash := rfl
@[simp] theorem bumpI_sec : (s.bumpI i u n v).sec = s.sec := rfl
@[simp] theorem bumpI_faults : (s.bumpI i u n v).faults = s.faults := rfl
@[simp] theorem bumpI_tap : (s.bumpI i u n v).tap = s.tap := rfl
@[simp] theorem bumpI_out : (s.bumpI i u n v).out = s.out := rfl

/-! ### flag -/

@[simp] theorem flag_pending : (s.flag i u v).pending = s.pending := rfl
@[simp] theorem flag_count : (s.flag i u v).count = s.count := rfl
@[simp] theorem flag_draws : (s.flag i u v).draws = s.draws := rfl
@[simp] theorem flag_pend : (s.flag i u v).pend = s.pend := rfl
@[simp] theorem flag_oct : (s.flag i u v).oct = s.oct := rfl
@[simp] theorem flag_table : (s.flag i u v).table = s.table := rfl
@[simp] theorem flag_rings : (s.flag i u v).rings = s.rings := rfl
@[simp] theorem flag_ringMem : (s.flag i u v).ringMem = s.ringMem := rfl
@[simp] theorem flag_landed : (s.flag i u v).landed = s.landed := rfl
@[simp] theorem flag_taken : (s.flag i u v).taken = s.taken := rfl
@[simp] theorem flag_mem : (s.flag i u v).mem = s.mem := rfl
@[simp] theorem flag_bufs : (s.flag i u v).bufs = s.bufs := rfl
@[simp] theorem flag_granZero : (s.flag i u v).granZero = s.granZero := rfl
@[simp] theorem flag_wins : (s.flag i u v).wins = s.wins := rfl
@[simp] theorem flag_dma : (s.flag i u v).dma = s.dma := rfl
@[simp] theorem flag_pool : (s.flag i u v).pool = s.pool := rfl
@[simp] theorem flag_arrays : (s.flag i u v).arrays = s.arrays := rfl
@[simp] theorem flag_dies : (s.flag i u v).dies = s.dies := rfl
@[simp] theorem flag_img : (s.flag i u v).img = s.img := rfl
@[simp] theorem flag_load : (s.flag i u v).load = s.load := rfl
@[simp] theorem flag_qmonCopy : (s.flag i u v).qmonCopy = s.qmonCopy := rfl
@[simp] theorem flag_samples : (s.flag i u v).samples = s.samples := rfl
@[simp] theorem flag_monReads : (s.flag i u v).monReads = s.monReads := rfl
@[simp] theorem flag_work : (s.flag i u v).work = s.work := rfl
@[simp] theorem flag_nextRid : (s.flag i u v).nextRid = s.nextRid := rfl
@[simp] theorem flag_fab : (s.flag i u v).fab = s.fab := rfl
@[simp] theorem flag_links : (s.flag i u v).links = s.links := rfl
@[simp] theorem flag_time : (s.flag i u v).time = s.time := rfl
@[simp] theorem flag_eth : (s.flag i u v).eth = s.eth := rfl
@[simp] theorem flag_hk : (s.flag i u v).hk = s.hk := rfl
@[simp] theorem flag_cal : (s.flag i u v).cal = s.cal := rfl
@[simp] theorem flag_power : (s.flag i u v).power = s.power := rfl
@[simp] theorem flag_boot : (s.flag i u v).boot = s.boot := rfl
@[simp] theorem flag_masthead : (s.flag i u v).masthead = s.masthead := rfl
@[simp] theorem flag_flash : (s.flag i u v).flash = s.flash := rfl
@[simp] theorem flag_sec : (s.flag i u v).sec = s.sec := rfl
@[simp] theorem flag_faults : (s.flag i u v).faults = s.faults := rfl
@[simp] theorem flag_tap : (s.flag i u v).tap = s.tap := rfl
@[simp] theorem flag_out : (s.flag i u v).out = s.out := rfl

/-! ### putOct -/

@[simp] theorem putOct_pending : (s.putOct i u n b).pending = s.pending := rfl
@[simp] theorem putOct_count : (s.putOct i u n b).count = s.count := rfl
@[simp] theorem putOct_draws : (s.putOct i u n b).draws = s.draws := rfl
@[simp] theorem putOct_obj : (s.putOct i u n b).obj = s.obj := rfl
@[simp] theorem putOct_pend : (s.putOct i u n b).pend = s.pend := rfl
@[simp] theorem putOct_table : (s.putOct i u n b).table = s.table := rfl
@[simp] theorem putOct_rings : (s.putOct i u n b).rings = s.rings := rfl
@[simp] theorem putOct_ringMem : (s.putOct i u n b).ringMem = s.ringMem := rfl
@[simp] theorem putOct_landed : (s.putOct i u n b).landed = s.landed := rfl
@[simp] theorem putOct_taken : (s.putOct i u n b).taken = s.taken := rfl
@[simp] theorem putOct_mem : (s.putOct i u n b).mem = s.mem := rfl
@[simp] theorem putOct_bufs : (s.putOct i u n b).bufs = s.bufs := rfl
@[simp] theorem putOct_granZero : (s.putOct i u n b).granZero = s.granZero := rfl
@[simp] theorem putOct_wins : (s.putOct i u n b).wins = s.wins := rfl
@[simp] theorem putOct_dma : (s.putOct i u n b).dma = s.dma := rfl
@[simp] theorem putOct_pool : (s.putOct i u n b).pool = s.pool := rfl
@[simp] theorem putOct_arrays : (s.putOct i u n b).arrays = s.arrays := rfl
@[simp] theorem putOct_dies : (s.putOct i u n b).dies = s.dies := rfl
@[simp] theorem putOct_img : (s.putOct i u n b).img = s.img := rfl
@[simp] theorem putOct_load : (s.putOct i u n b).load = s.load := rfl
@[simp] theorem putOct_qmonCopy : (s.putOct i u n b).qmonCopy = s.qmonCopy := rfl
@[simp] theorem putOct_samples : (s.putOct i u n b).samples = s.samples := rfl
@[simp] theorem putOct_monReads : (s.putOct i u n b).monReads = s.monReads := rfl
@[simp] theorem putOct_work : (s.putOct i u n b).work = s.work := rfl
@[simp] theorem putOct_nextRid : (s.putOct i u n b).nextRid = s.nextRid := rfl
@[simp] theorem putOct_fab : (s.putOct i u n b).fab = s.fab := rfl
@[simp] theorem putOct_links : (s.putOct i u n b).links = s.links := rfl
@[simp] theorem putOct_time : (s.putOct i u n b).time = s.time := rfl
@[simp] theorem putOct_eth : (s.putOct i u n b).eth = s.eth := rfl
@[simp] theorem putOct_hk : (s.putOct i u n b).hk = s.hk := rfl
@[simp] theorem putOct_cal : (s.putOct i u n b).cal = s.cal := rfl
@[simp] theorem putOct_power : (s.putOct i u n b).power = s.power := rfl
@[simp] theorem putOct_boot : (s.putOct i u n b).boot = s.boot := rfl
@[simp] theorem putOct_masthead : (s.putOct i u n b).masthead = s.masthead := rfl
@[simp] theorem putOct_flash : (s.putOct i u n b).flash = s.flash := rfl
@[simp] theorem putOct_sec : (s.putOct i u n b).sec = s.sec := rfl
@[simp] theorem putOct_faults : (s.putOct i u n b).faults = s.faults := rfl
@[simp] theorem putOct_tap : (s.putOct i u n b).tap = s.tap := rfl
@[simp] theorem putOct_out : (s.putOct i u n b).out = s.out := rfl

/-! ### send -/

@[simp] theorem send_pending : (s.send o).pending = s.pending := rfl
@[simp] theorem send_count : (s.send o).count = s.count := rfl
@[simp] theorem send_draws : (s.send o).draws = s.draws := rfl
@[simp] theorem send_obj : (s.send o).obj = s.obj := rfl
@[simp] theorem send_pend : (s.send o).pend = s.pend := rfl
@[simp] theorem send_oct : (s.send o).oct = s.oct := rfl
@[simp] theorem send_table : (s.send o).table = s.table := rfl
@[simp] theorem send_rings : (s.send o).rings = s.rings := rfl
@[simp] theorem send_ringMem : (s.send o).ringMem = s.ringMem := rfl
@[simp] theorem send_landed : (s.send o).landed = s.landed := rfl
@[simp] theorem send_taken : (s.send o).taken = s.taken := rfl
@[simp] theorem send_mem : (s.send o).mem = s.mem := rfl
@[simp] theorem send_bufs : (s.send o).bufs = s.bufs := rfl
@[simp] theorem send_granZero : (s.send o).granZero = s.granZero := rfl
@[simp] theorem send_wins : (s.send o).wins = s.wins := rfl
@[simp] theorem send_dma : (s.send o).dma = s.dma := rfl
@[simp] theorem send_pool : (s.send o).pool = s.pool := rfl
@[simp] theorem send_arrays : (s.send o).arrays = s.arrays := rfl
@[simp] theorem send_dies : (s.send o).dies = s.dies := rfl
@[simp] theorem send_img : (s.send o).img = s.img := rfl
@[simp] theorem send_load : (s.send o).load = s.load := rfl
@[simp] theorem send_qmonCopy : (s.send o).qmonCopy = s.qmonCopy := rfl
@[simp] theorem send_samples : (s.send o).samples = s.samples := rfl
@[simp] theorem send_monReads : (s.send o).monReads = s.monReads := rfl
@[simp] theorem send_work : (s.send o).work = s.work := rfl
@[simp] theorem send_nextRid : (s.send o).nextRid = s.nextRid := rfl
@[simp] theorem send_fab : (s.send o).fab = s.fab := rfl
@[simp] theorem send_links : (s.send o).links = s.links := rfl
@[simp] theorem send_time : (s.send o).time = s.time := rfl
@[simp] theorem send_eth : (s.send o).eth = s.eth := rfl
@[simp] theorem send_hk : (s.send o).hk = s.hk := rfl
@[simp] theorem send_cal : (s.send o).cal = s.cal := rfl
@[simp] theorem send_power : (s.send o).power = s.power := rfl
@[simp] theorem send_boot : (s.send o).boot = s.boot := rfl
@[simp] theorem send_masthead : (s.send o).masthead = s.masthead := rfl
@[simp] theorem send_flash : (s.send o).flash = s.flash := rfl
@[simp] theorem send_sec : (s.send o).sec = s.sec := rfl
@[simp] theorem send_faults : (s.send o).faults = s.faults := rfl
@[simp] theorem send_tap : (s.send o).tap = s.tap := rfl

/-! ### sendAll -/

@[simp] theorem sendAll_pending : (s.sendAll os).pending = s.pending := rfl
@[simp] theorem sendAll_count : (s.sendAll os).count = s.count := rfl
@[simp] theorem sendAll_draws : (s.sendAll os).draws = s.draws := rfl
@[simp] theorem sendAll_obj : (s.sendAll os).obj = s.obj := rfl
@[simp] theorem sendAll_pend : (s.sendAll os).pend = s.pend := rfl
@[simp] theorem sendAll_oct : (s.sendAll os).oct = s.oct := rfl
@[simp] theorem sendAll_table : (s.sendAll os).table = s.table := rfl
@[simp] theorem sendAll_rings : (s.sendAll os).rings = s.rings := rfl
@[simp] theorem sendAll_ringMem : (s.sendAll os).ringMem = s.ringMem := rfl
@[simp] theorem sendAll_landed : (s.sendAll os).landed = s.landed := rfl
@[simp] theorem sendAll_taken : (s.sendAll os).taken = s.taken := rfl
@[simp] theorem sendAll_mem : (s.sendAll os).mem = s.mem := rfl
@[simp] theorem sendAll_bufs : (s.sendAll os).bufs = s.bufs := rfl
@[simp] theorem sendAll_granZero : (s.sendAll os).granZero = s.granZero := rfl
@[simp] theorem sendAll_wins : (s.sendAll os).wins = s.wins := rfl
@[simp] theorem sendAll_dma : (s.sendAll os).dma = s.dma := rfl
@[simp] theorem sendAll_pool : (s.sendAll os).pool = s.pool := rfl
@[simp] theorem sendAll_arrays : (s.sendAll os).arrays = s.arrays := rfl
@[simp] theorem sendAll_dies : (s.sendAll os).dies = s.dies := rfl
@[simp] theorem sendAll_img : (s.sendAll os).img = s.img := rfl
@[simp] theorem sendAll_load : (s.sendAll os).load = s.load := rfl
@[simp] theorem sendAll_qmonCopy : (s.sendAll os).qmonCopy = s.qmonCopy := rfl
@[simp] theorem sendAll_samples : (s.sendAll os).samples = s.samples := rfl
@[simp] theorem sendAll_monReads : (s.sendAll os).monReads = s.monReads := rfl
@[simp] theorem sendAll_work : (s.sendAll os).work = s.work := rfl
@[simp] theorem sendAll_nextRid : (s.sendAll os).nextRid = s.nextRid := rfl
@[simp] theorem sendAll_fab : (s.sendAll os).fab = s.fab := rfl
@[simp] theorem sendAll_links : (s.sendAll os).links = s.links := rfl
@[simp] theorem sendAll_time : (s.sendAll os).time = s.time := rfl
@[simp] theorem sendAll_eth : (s.sendAll os).eth = s.eth := rfl
@[simp] theorem sendAll_hk : (s.sendAll os).hk = s.hk := rfl
@[simp] theorem sendAll_cal : (s.sendAll os).cal = s.cal := rfl
@[simp] theorem sendAll_power : (s.sendAll os).power = s.power := rfl
@[simp] theorem sendAll_boot : (s.sendAll os).boot = s.boot := rfl
@[simp] theorem sendAll_masthead : (s.sendAll os).masthead = s.masthead := rfl
@[simp] theorem sendAll_flash : (s.sendAll os).flash = s.flash := rfl
@[simp] theorem sendAll_sec : (s.sendAll os).sec = s.sec := rfl
@[simp] theorem sendAll_faults : (s.sendAll os).faults = s.faults := rfl
@[simp] theorem sendAll_tap : (s.sendAll os).tap = s.tap := rfl

/-! ### setLink -/

@[simp] theorem setLink_pending : (s.setLink n fl).pending = s.pending := rfl
@[simp] theorem setLink_count : (s.setLink n fl).count = s.count := rfl
@[simp] theorem setLink_draws : (s.setLink n fl).draws = s.draws := rfl
@[simp] theorem setLink_obj : (s.setLink n fl).obj = s.obj := rfl
@[simp] theorem setLink_pend : (s.setLink n fl).pend = s.pend := rfl
@[simp] theorem setLink_oct : (s.setLink n fl).oct = s.oct := rfl
@[simp] theorem setLink_table : (s.setLink n fl).table = s.table := rfl
@[simp] theorem setLink_rings : (s.setLink n fl).rings = s.rings := rfl
@[simp] theorem setLink_ringMem : (s.setLink n fl).ringMem = s.ringMem := rfl
@[simp] theorem setLink_landed : (s.setLink n fl).landed = s.landed := rfl
@[simp] theorem setLink_taken : (s.setLink n fl).taken = s.taken := rfl
@[simp] theorem setLink_mem : (s.setLink n fl).mem = s.mem := rfl
@[simp] theorem setLink_bufs : (s.setLink n fl).bufs = s.bufs := rfl
@[simp] theorem setLink_granZero : (s.setLink n fl).granZero = s.granZero := rfl
@[simp] theorem setLink_wins : (s.setLink n fl).wins = s.wins := rfl
@[simp] theorem setLink_dma : (s.setLink n fl).dma = s.dma := rfl
@[simp] theorem setLink_pool : (s.setLink n fl).pool = s.pool := rfl
@[simp] theorem setLink_arrays : (s.setLink n fl).arrays = s.arrays := rfl
@[simp] theorem setLink_dies : (s.setLink n fl).dies = s.dies := rfl
@[simp] theorem setLink_img : (s.setLink n fl).img = s.img := rfl
@[simp] theorem setLink_load : (s.setLink n fl).load = s.load := rfl
@[simp] theorem setLink_qmonCopy : (s.setLink n fl).qmonCopy = s.qmonCopy := rfl
@[simp] theorem setLink_samples : (s.setLink n fl).samples = s.samples := rfl
@[simp] theorem setLink_monReads : (s.setLink n fl).monReads = s.monReads := rfl
@[simp] theorem setLink_work : (s.setLink n fl).work = s.work := rfl
@[simp] theorem setLink_nextRid : (s.setLink n fl).nextRid = s.nextRid := rfl
@[simp] theorem setLink_fab : (s.setLink n fl).fab = s.fab := rfl
@[simp] theorem setLink_time : (s.setLink n fl).time = s.time := rfl
@[simp] theorem setLink_eth : (s.setLink n fl).eth = s.eth := rfl
@[simp] theorem setLink_hk : (s.setLink n fl).hk = s.hk := rfl
@[simp] theorem setLink_cal : (s.setLink n fl).cal = s.cal := rfl
@[simp] theorem setLink_power : (s.setLink n fl).power = s.power := rfl
@[simp] theorem setLink_boot : (s.setLink n fl).boot = s.boot := rfl
@[simp] theorem setLink_masthead : (s.setLink n fl).masthead = s.masthead := rfl
@[simp] theorem setLink_flash : (s.setLink n fl).flash = s.flash := rfl
@[simp] theorem setLink_sec : (s.setLink n fl).sec = s.sec := rfl
@[simp] theorem setLink_faults : (s.setLink n fl).faults = s.faults := rfl
@[simp] theorem setLink_tap : (s.setLink n fl).tap = s.tap := rfl
@[simp] theorem setLink_out : (s.setLink n fl).out = s.out := rfl

/-! ### putEntry -/

@[simp] theorem putEntry_pending : (s.putEntry n e).pending = s.pending := rfl
@[simp] theorem putEntry_count : (s.putEntry n e).count = s.count := rfl
@[simp] theorem putEntry_draws : (s.putEntry n e).draws = s.draws := rfl
@[simp] theorem putEntry_obj : (s.putEntry n e).obj = s.obj := rfl
@[simp] theorem putEntry_pend : (s.putEntry n e).pend = s.pend := rfl
@[simp] theorem putEntry_oct : (s.putEntry n e).oct = s.oct := rfl
@[simp] theorem putEntry_rings : (s.putEntry n e).rings = s.rings := rfl
@[simp] theorem putEntry_ringMem : (s.putEntry n e).ringMem = s.ringMem := rfl
@[simp] theorem putEntry_landed : (s.putEntry n e).landed = s.landed := rfl
@[simp] theorem putEntry_taken : (s.putEntry n e).taken = s.taken := rfl
@[simp] theorem putEntry_mem : (s.putEntry n e).mem = s.mem := rfl
@[simp] theorem putEntry_bufs : (s.putEntry n e).bufs = s.bufs := rfl
@[simp] theorem putEntry_granZero : (s.putEntry n e).granZero = s.granZero := rfl
@[simp] theorem putEntry_wins : (s.putEntry n e).wins = s.wins := rfl
@[simp] theorem putEntry_dma : (s.putEntry n e).dma = s.dma := rfl
@[simp] theorem putEntry_pool : (s.putEntry n e).pool = s.pool := rfl
@[simp] theorem putEntry_arrays : (s.putEntry n e).arrays = s.arrays := rfl
@[simp] theorem putEntry_dies : (s.putEntry n e).dies = s.dies := rfl
@[simp] theorem putEntry_img : (s.putEntry n e).img = s.img := rfl
@[simp] theorem putEntry_load : (s.putEntry n e).load = s.load := rfl
@[simp] theorem putEntry_qmonCopy : (s.putEntry n e).qmonCopy = s.qmonCopy := rfl
@[simp] theorem putEntry_samples : (s.putEntry n e).samples = s.samples := rfl
@[simp] theorem putEntry_monReads : (s.putEntry n e).monReads = s.monReads := rfl
@[simp] theorem putEntry_work : (s.putEntry n e).work = s.work := rfl
@[simp] theorem putEntry_nextRid : (s.putEntry n e).nextRid = s.nextRid := rfl
@[simp] theorem putEntry_fab : (s.putEntry n e).fab = s.fab := rfl
@[simp] theorem putEntry_links : (s.putEntry n e).links = s.links := rfl
@[simp] theorem putEntry_time : (s.putEntry n e).time = s.time := rfl
@[simp] theorem putEntry_eth : (s.putEntry n e).eth = s.eth := rfl
@[simp] theorem putEntry_hk : (s.putEntry n e).hk = s.hk := rfl
@[simp] theorem putEntry_cal : (s.putEntry n e).cal = s.cal := rfl
@[simp] theorem putEntry_power : (s.putEntry n e).power = s.power := rfl
@[simp] theorem putEntry_boot : (s.putEntry n e).boot = s.boot := rfl
@[simp] theorem putEntry_masthead : (s.putEntry n e).masthead = s.masthead := rfl
@[simp] theorem putEntry_flash : (s.putEntry n e).flash = s.flash := rfl
@[simp] theorem putEntry_sec : (s.putEntry n e).sec = s.sec := rfl
@[simp] theorem putEntry_faults : (s.putEntry n e).faults = s.faults := rfl
@[simp] theorem putEntry_tap : (s.putEntry n e).tap = s.tap := rfl
@[simp] theorem putEntry_out : (s.putEntry n e).out = s.out := rfl

/-! ### modEntry -/

@[simp] theorem modEntry_pending : (s.modEntry n fe).pending = s.pending := rfl
@[simp] theorem modEntry_count : (s.modEntry n fe).count = s.count := rfl
@[simp] theorem modEntry_draws : (s.modEntry n fe).draws = s.draws := rfl
@[simp] theorem modEntry_obj : (s.modEntry n fe).obj = s.obj := rfl
@[simp] theorem modEntry_pend : (s.modEntry n fe).pend = s.pend := rfl
@[simp] theorem modEntry_oct : (s.modEntry n fe).oct = s.oct := rfl
@[simp] theorem modEntry_rings : (s.modEntry n fe).rings = s.rings := rfl
@[simp] theorem modEntry_ringMem : (s.modEntry n fe).ringMem = s.ringMem := rfl
@[simp] theorem modEntry_landed : (s.modEntry n fe).landed = s.landed := rfl
@[simp] theorem modEntry_taken : (s.modEntry n fe).taken = s.taken := rfl
@[simp] theorem modEntry_mem : (s.modEntry n fe).mem = s.mem := rfl
@[simp] theorem modEntry_bufs : (s.modEntry n fe).bufs = s.bufs := rfl
@[simp] theorem modEntry_granZero : (s.modEntry n fe).granZero = s.granZero := rfl
@[simp] theorem modEntry_wins : (s.modEntry n fe).wins = s.wins := rfl
@[simp] theorem modEntry_dma : (s.modEntry n fe).dma = s.dma := rfl
@[simp] theorem modEntry_pool : (s.modEntry n fe).pool = s.pool := rfl
@[simp] theorem modEntry_arrays : (s.modEntry n fe).arrays = s.arrays := rfl
@[simp] theorem modEntry_dies : (s.modEntry n fe).dies = s.dies := rfl
@[simp] theorem modEntry_img : (s.modEntry n fe).img = s.img := rfl
@[simp] theorem modEntry_load : (s.modEntry n fe).load = s.load := rfl
@[simp] theorem modEntry_qmonCopy : (s.modEntry n fe).qmonCopy = s.qmonCopy := rfl
@[simp] theorem modEntry_samples : (s.modEntry n fe).samples = s.samples := rfl
@[simp] theorem modEntry_monReads : (s.modEntry n fe).monReads = s.monReads := rfl
@[simp] theorem modEntry_work : (s.modEntry n fe).work = s.work := rfl
@[simp] theorem modEntry_nextRid : (s.modEntry n fe).nextRid = s.nextRid := rfl
@[simp] theorem modEntry_fab : (s.modEntry n fe).fab = s.fab := rfl
@[simp] theorem modEntry_links : (s.modEntry n fe).links = s.links := rfl
@[simp] theorem modEntry_time : (s.modEntry n fe).time = s.time := rfl
@[simp] theorem modEntry_eth : (s.modEntry n fe).eth = s.eth := rfl
@[simp] theorem modEntry_hk : (s.modEntry n fe).hk = s.hk := rfl
@[simp] theorem modEntry_cal : (s.modEntry n fe).cal = s.cal := rfl
@[simp] theorem modEntry_power : (s.modEntry n fe).power = s.power := rfl
@[simp] theorem modEntry_boot : (s.modEntry n fe).boot = s.boot := rfl
@[simp] theorem modEntry_masthead : (s.modEntry n fe).masthead = s.masthead := rfl
@[simp] theorem modEntry_flash : (s.modEntry n fe).flash = s.flash := rfl
@[simp] theorem modEntry_sec : (s.modEntry n fe).sec = s.sec := rfl
@[simp] theorem modEntry_faults : (s.modEntry n fe).faults = s.faults := rfl
@[simp] theorem modEntry_tap : (s.modEntry n fe).tap = s.tap := rfl
@[simp] theorem modEntry_out : (s.modEntry n fe).out = s.out := rfl

/-! ### modRing -/

@[simp] theorem modRing_pending : (s.modRing n fr).pending = s.pending := rfl
@[simp] theorem modRing_count : (s.modRing n fr).count = s.count := rfl
@[simp] theorem modRing_draws : (s.modRing n fr).draws = s.draws := rfl
@[simp] theorem modRing_obj : (s.modRing n fr).obj = s.obj := rfl
@[simp] theorem modRing_pend : (s.modRing n fr).pend = s.pend := rfl
@[simp] theorem modRing_oct : (s.modRing n fr).oct = s.oct := rfl
@[simp] theorem modRing_table : (s.modRing n fr).table = s.table := rfl
@[simp] theorem modRing_ringMem : (s.modRing n fr).ringMem = s.ringMem := rfl
@[simp] theorem modRing_landed : (s.modRing n fr).landed = s.landed := rfl
@[simp] theorem modRing_taken : (s.modRing n fr).taken = s.taken := rfl
@[simp] theorem modRing_mem : (s.modRing n fr).mem = s.mem := rfl
@[simp] theorem modRing_bufs : (s.modRing n fr).bufs = s.bufs := rfl
@[simp] theorem modRing_granZero : (s.modRing n fr).granZero = s.granZero := rfl
@[simp] theorem modRing_wins : (s.modRing n fr).wins = s.wins := rfl
@[simp] theorem modRing_dma : (s.modRing n fr).dma = s.dma := rfl
@[simp] theorem modRing_pool : (s.modRing n fr).pool = s.pool := rfl
@[simp] theorem modRing_arrays : (s.modRing n fr).arrays = s.arrays := rfl
@[simp] theorem modRing_dies : (s.modRing n fr).dies = s.dies := rfl
@[simp] theorem modRing_img : (s.modRing n fr).img = s.img := rfl
@[simp] theorem modRing_load : (s.modRing n fr).load = s.load := rfl
@[simp] theorem modRing_qmonCopy : (s.modRing n fr).qmonCopy = s.qmonCopy := rfl
@[simp] theorem modRing_samples : (s.modRing n fr).samples = s.samples := rfl
@[simp] theorem modRing_monReads : (s.modRing n fr).monReads = s.monReads := rfl
@[simp] theorem modRing_work : (s.modRing n fr).work = s.work := rfl
@[simp] theorem modRing_nextRid : (s.modRing n fr).nextRid = s.nextRid := rfl
@[simp] theorem modRing_fab : (s.modRing n fr).fab = s.fab := rfl
@[simp] theorem modRing_links : (s.modRing n fr).links = s.links := rfl
@[simp] theorem modRing_time : (s.modRing n fr).time = s.time := rfl
@[simp] theorem modRing_eth : (s.modRing n fr).eth = s.eth := rfl
@[simp] theorem modRing_hk : (s.modRing n fr).hk = s.hk := rfl
@[simp] theorem modRing_cal : (s.modRing n fr).cal = s.cal := rfl
@[simp] theorem modRing_power : (s.modRing n fr).power = s.power := rfl
@[simp] theorem modRing_boot : (s.modRing n fr).boot = s.boot := rfl
@[simp] theorem modRing_masthead : (s.modRing n fr).masthead = s.masthead := rfl
@[simp] theorem modRing_flash : (s.modRing n fr).flash = s.flash := rfl
@[simp] theorem modRing_sec : (s.modRing n fr).sec = s.sec := rfl
@[simp] theorem modRing_faults : (s.modRing n fr).faults = s.faults := rfl
@[simp] theorem modRing_tap : (s.modRing n fr).tap = s.tap := rfl
@[simp] theorem modRing_out : (s.modRing n fr).out = s.out := rfl

/-! ### modWin -/

@[simp] theorem modWin_pending : (s.modWin n fw).pending = s.pending := rfl
@[simp] theorem modWin_count : (s.modWin n fw).count = s.count := rfl
@[simp] theorem modWin_draws : (s.modWin n fw).draws = s.draws := rfl
@[simp] theorem modWin_obj : (s.modWin n fw).obj = s.obj := rfl
@[simp] theorem modWin_pend : (s.modWin n fw).pend = s.pend := rfl
@[simp] theorem modWin_oct : (s.modWin n fw).oct = s.oct := rfl
@[simp] theorem modWin_table : (s.modWin n fw).table = s.table := rfl
@[simp] theorem modWin_rings : (s.modWin n fw).rings = s.rings := rfl
@[simp] theorem modWin_ringMem : (s.modWin n fw).ringMem = s.ringMem := rfl
@[simp] theorem modWin_landed : (s.modWin n fw).landed = s.landed := rfl
@[simp] theorem modWin_taken : (s.modWin n fw).taken = s.taken := rfl
@[simp] theorem modWin_mem : (s.modWin n fw).mem = s.mem := rfl
@[simp] theorem modWin_bufs : (s.modWin n fw).bufs = s.bufs := rfl
@[simp] theorem modWin_granZero : (s.modWin n fw).granZero = s.granZero := rfl
@[simp] theorem modWin_dma : (s.modWin n fw).dma = s.dma := rfl
@[simp] theorem modWin_pool : (s.modWin n fw).pool = s.pool := rfl
@[simp] theorem modWin_arrays : (s.modWin n fw).arrays = s.arrays := rfl
@[simp] theorem modWin_dies : (s.modWin n fw).dies = s.dies := rfl
@[simp] theorem modWin_img : (s.modWin n fw).img = s.img := rfl
@[simp] theorem modWin_load : (s.modWin n fw).load = s.load := rfl
@[simp] theorem modWin_qmonCopy : (s.modWin n fw).qmonCopy = s.qmonCopy := rfl
@[simp] theorem modWin_samples : (s.modWin n fw).samples = s.samples := rfl
@[simp] theorem modWin_monReads : (s.modWin n fw).monReads = s.monReads := rfl
@[simp] theorem modWin_work : (s.modWin n fw).work = s.work := rfl
@[simp] theorem modWin_nextRid : (s.modWin n fw).nextRid = s.nextRid := rfl
@[simp] theorem modWin_fab : (s.modWin n fw).fab = s.fab := rfl
@[simp] theorem modWin_links : (s.modWin n fw).links = s.links := rfl
@[simp] theorem modWin_time : (s.modWin n fw).time = s.time := rfl
@[simp] theorem modWin_eth : (s.modWin n fw).eth = s.eth := rfl
@[simp] theorem modWin_hk : (s.modWin n fw).hk = s.hk := rfl
@[simp] theorem modWin_cal : (s.modWin n fw).cal = s.cal := rfl
@[simp] theorem modWin_power : (s.modWin n fw).power = s.power := rfl
@[simp] theorem modWin_boot : (s.modWin n fw).boot = s.boot := rfl
@[simp] theorem modWin_masthead : (s.modWin n fw).masthead = s.masthead := rfl
@[simp] theorem modWin_flash : (s.modWin n fw).flash = s.flash := rfl
@[simp] theorem modWin_sec : (s.modWin n fw).sec = s.sec := rfl
@[simp] theorem modWin_faults : (s.modWin n fw).faults = s.faults := rfl
@[simp] theorem modWin_tap : (s.modWin n fw).tap = s.tap := rfl
@[simp] theorem modWin_out : (s.modWin n fw).out = s.out := rfl

/-! ### modEngine -/

@[simp] theorem modEngine_pending : (s.modEngine n fg).pending = s.pending := rfl
@[simp] theorem modEngine_count : (s.modEngine n fg).count = s.count := rfl
@[simp] theorem modEngine_draws : (s.modEngine n fg).draws = s.draws := rfl
@[simp] theorem modEngine_obj : (s.modEngine n fg).obj = s.obj := rfl
@[simp] theorem modEngine_pend : (s.modEngine n fg).pend = s.pend := rfl
@[simp] theorem modEngine_oct : (s.modEngine n fg).oct = s.oct := rfl
@[simp] theorem modEngine_table : (s.modEngine n fg).table = s.table := rfl
@[simp] theorem modEngine_rings : (s.modEngine n fg).rings = s.rings := rfl
@[simp] theorem modEngine_ringMem : (s.modEngine n fg).ringMem = s.ringMem := rfl
@[simp] theorem modEngine_landed : (s.modEngine n fg).landed = s.landed := rfl
@[simp] theorem modEngine_taken : (s.modEngine n fg).taken = s.taken := rfl
@[simp] theorem modEngine_mem : (s.modEngine n fg).mem = s.mem := rfl
@[simp] theorem modEngine_bufs : (s.modEngine n fg).bufs = s.bufs := rfl
@[simp] theorem modEngine_granZero : (s.modEngine n fg).granZero = s.granZero := rfl
@[simp] theorem modEngine_wins : (s.modEngine n fg).wins = s.wins := rfl
@[simp] theorem modEngine_pool : (s.modEngine n fg).pool = s.pool := rfl
@[simp] theorem modEngine_arrays : (s.modEngine n fg).arrays = s.arrays := rfl
@[simp] theorem modEngine_dies : (s.modEngine n fg).dies = s.dies := rfl
@[simp] theorem modEngine_img : (s.modEngine n fg).img = s.img := rfl
@[simp] theorem modEngine_load : (s.modEngine n fg).load = s.load := rfl
@[simp] theorem modEngine_qmonCopy : (s.modEngine n fg).qmonCopy = s.qmonCopy := rfl
@[simp] theorem modEngine_samples : (s.modEngine n fg).samples = s.samples := rfl
@[simp] theorem modEngine_monReads : (s.modEngine n fg).monReads = s.monReads := rfl
@[simp] theorem modEngine_work : (s.modEngine n fg).work = s.work := rfl
@[simp] theorem modEngine_nextRid : (s.modEngine n fg).nextRid = s.nextRid := rfl
@[simp] theorem modEngine_fab : (s.modEngine n fg).fab = s.fab := rfl
@[simp] theorem modEngine_links : (s.modEngine n fg).links = s.links := rfl
@[simp] theorem modEngine_time : (s.modEngine n fg).time = s.time := rfl
@[simp] theorem modEngine_eth : (s.modEngine n fg).eth = s.eth := rfl
@[simp] theorem modEngine_hk : (s.modEngine n fg).hk = s.hk := rfl
@[simp] theorem modEngine_cal : (s.modEngine n fg).cal = s.cal := rfl
@[simp] theorem modEngine_power : (s.modEngine n fg).power = s.power := rfl
@[simp] theorem modEngine_boot : (s.modEngine n fg).boot = s.boot := rfl
@[simp] theorem modEngine_masthead : (s.modEngine n fg).masthead = s.masthead := rfl
@[simp] theorem modEngine_flash : (s.modEngine n fg).flash = s.flash := rfl
@[simp] theorem modEngine_sec : (s.modEngine n fg).sec = s.sec := rfl
@[simp] theorem modEngine_faults : (s.modEngine n fg).faults = s.faults := rfl
@[simp] theorem modEngine_tap : (s.modEngine n fg).tap = s.tap := rfl
@[simp] theorem modEngine_out : (s.modEngine n fg).out = s.out := rfl

/-! ### modArr -/

@[simp] theorem modArr_pending : (s.modArr n fa).pending = s.pending := rfl
@[simp] theorem modArr_count : (s.modArr n fa).count = s.count := rfl
@[simp] theorem modArr_draws : (s.modArr n fa).draws = s.draws := rfl
@[simp] theorem modArr_obj : (s.modArr n fa).obj = s.obj := rfl
@[simp] theorem modArr_pend : (s.modArr n fa).pend = s.pend := rfl
@[simp] theorem modArr_oct : (s.modArr n fa).oct = s.oct := rfl
@[simp] theorem modArr_table : (s.modArr n fa).table = s.table := rfl
@[simp] theorem modArr_rings : (s.modArr n fa).rings = s.rings := rfl
@[simp] theorem modArr_ringMem : (s.modArr n fa).ringMem = s.ringMem := rfl
@[simp] theorem modArr_landed : (s.modArr n fa).landed = s.landed := rfl
@[simp] theorem modArr_taken : (s.modArr n fa).taken = s.taken := rfl
@[simp] theorem modArr_mem : (s.modArr n fa).mem = s.mem := rfl
@[simp] theorem modArr_bufs : (s.modArr n fa).bufs = s.bufs := rfl
@[simp] theorem modArr_granZero : (s.modArr n fa).granZero = s.granZero := rfl
@[simp] theorem modArr_wins : (s.modArr n fa).wins = s.wins := rfl
@[simp] theorem modArr_dma : (s.modArr n fa).dma = s.dma := rfl
@[simp] theorem modArr_pool : (s.modArr n fa).pool = s.pool := rfl
@[simp] theorem modArr_dies : (s.modArr n fa).dies = s.dies := rfl
@[simp] theorem modArr_img : (s.modArr n fa).img = s.img := rfl
@[simp] theorem modArr_load : (s.modArr n fa).load = s.load := rfl
@[simp] theorem modArr_qmonCopy : (s.modArr n fa).qmonCopy = s.qmonCopy := rfl
@[simp] theorem modArr_samples : (s.modArr n fa).samples = s.samples := rfl
@[simp] theorem modArr_monReads : (s.modArr n fa).monReads = s.monReads := rfl
@[simp] theorem modArr_work : (s.modArr n fa).work = s.work := rfl
@[simp] theorem modArr_nextRid : (s.modArr n fa).nextRid = s.nextRid := rfl
@[simp] theorem modArr_fab : (s.modArr n fa).fab = s.fab := rfl
@[simp] theorem modArr_links : (s.modArr n fa).links = s.links := rfl
@[simp] theorem modArr_time : (s.modArr n fa).time = s.time := rfl
@[simp] theorem modArr_eth : (s.modArr n fa).eth = s.eth := rfl
@[simp] theorem modArr_hk : (s.modArr n fa).hk = s.hk := rfl
@[simp] theorem modArr_cal : (s.modArr n fa).cal = s.cal := rfl
@[simp] theorem modArr_power : (s.modArr n fa).power = s.power := rfl
@[simp] theorem modArr_boot : (s.modArr n fa).boot = s.boot := rfl
@[simp] theorem modArr_masthead : (s.modArr n fa).masthead = s.masthead := rfl
@[simp] theorem modArr_flash : (s.modArr n fa).flash = s.flash := rfl
@[simp] theorem modArr_sec : (s.modArr n fa).sec = s.sec := rfl
@[simp] theorem modArr_faults : (s.modArr n fa).faults = s.faults := rfl
@[simp] theorem modArr_tap : (s.modArr n fa).tap = s.tap := rfl
@[simp] theorem modArr_out : (s.modArr n fa).out = s.out := rfl

/-! ### modDie -/

@[simp] theorem modDie_pending : (s.modDie n fd).pending = s.pending := rfl
@[simp] theorem modDie_count : (s.modDie n fd).count = s.count := rfl
@[simp] theorem modDie_draws : (s.modDie n fd).draws = s.draws := rfl
@[simp] theorem modDie_obj : (s.modDie n fd).obj = s.obj := rfl
@[simp] theorem modDie_pend : (s.modDie n fd).pend = s.pend := rfl
@[simp] theorem modDie_oct : (s.modDie n fd).oct = s.oct := rfl
@[simp] theorem modDie_table : (s.modDie n fd).table = s.table := rfl
@[simp] theorem modDie_rings : (s.modDie n fd).rings = s.rings := rfl
@[simp] theorem modDie_ringMem : (s.modDie n fd).ringMem = s.ringMem := rfl
@[simp] theorem modDie_landed : (s.modDie n fd).landed = s.landed := rfl
@[simp] theorem modDie_taken : (s.modDie n fd).taken = s.taken := rfl
@[simp] theorem modDie_mem : (s.modDie n fd).mem = s.mem := rfl
@[simp] theorem modDie_bufs : (s.modDie n fd).bufs = s.bufs := rfl
@[simp] theorem modDie_granZero : (s.modDie n fd).granZero = s.granZero := rfl
@[simp] theorem modDie_wins : (s.modDie n fd).wins = s.wins := rfl
@[simp] theorem modDie_dma : (s.modDie n fd).dma = s.dma := rfl
@[simp] theorem modDie_pool : (s.modDie n fd).pool = s.pool := rfl
@[simp] theorem modDie_arrays : (s.modDie n fd).arrays = s.arrays := rfl
@[simp] theorem modDie_img : (s.modDie n fd).img = s.img := rfl
@[simp] theorem modDie_load : (s.modDie n fd).load = s.load := rfl
@[simp] theorem modDie_qmonCopy : (s.modDie n fd).qmonCopy = s.qmonCopy := rfl
@[simp] theorem modDie_samples : (s.modDie n fd).samples = s.samples := rfl
@[simp] theorem modDie_monReads : (s.modDie n fd).monReads = s.monReads := rfl
@[simp] theorem modDie_work : (s.modDie n fd).work = s.work := rfl
@[simp] theorem modDie_nextRid : (s.modDie n fd).nextRid = s.nextRid := rfl
@[simp] theorem modDie_fab : (s.modDie n fd).fab = s.fab := rfl
@[simp] theorem modDie_links : (s.modDie n fd).links = s.links := rfl
@[simp] theorem modDie_time : (s.modDie n fd).time = s.time := rfl
@[simp] theorem modDie_eth : (s.modDie n fd).eth = s.eth := rfl
@[simp] theorem modDie_hk : (s.modDie n fd).hk = s.hk := rfl
@[simp] theorem modDie_cal : (s.modDie n fd).cal = s.cal := rfl
@[simp] theorem modDie_power : (s.modDie n fd).power = s.power := rfl
@[simp] theorem modDie_boot : (s.modDie n fd).boot = s.boot := rfl
@[simp] theorem modDie_masthead : (s.modDie n fd).masthead = s.masthead := rfl
@[simp] theorem modDie_flash : (s.modDie n fd).flash = s.flash := rfl
@[simp] theorem modDie_sec : (s.modDie n fd).sec = s.sec := rfl
@[simp] theorem modDie_faults : (s.modDie n fd).faults = s.faults := rfl
@[simp] theorem modDie_tap : (s.modDie n fd).tap = s.tap := rfl
@[simp] theorem modDie_out : (s.modDie n fd).out = s.out := rfl

/-! ### modFab -/

@[simp] theorem modFab_pending : (s.modFab ff).pending = s.pending := rfl
@[simp] theorem modFab_count : (s.modFab ff).count = s.count := rfl
@[simp] theorem modFab_draws : (s.modFab ff).draws = s.draws := rfl
@[simp] theorem modFab_obj : (s.modFab ff).obj = s.obj := rfl
@[simp] theorem modFab_pend : (s.modFab ff).pend = s.pend := rfl
@[simp] theorem modFab_oct : (s.modFab ff).oct = s.oct := rfl
@[simp] theorem modFab_table : (s.modFab ff).table = s.table := rfl
@[simp] theorem modFab_rings : (s.modFab ff).rings = s.rings := rfl
@[simp] theorem modFab_ringMem : (s.modFab ff).ringMem = s.ringMem := rfl
@[simp] theorem modFab_landed : (s.modFab ff).landed = s.landed := rfl
@[simp] theorem modFab_taken : (s.modFab ff).taken = s.taken := rfl
@[simp] theorem modFab_mem : (s.modFab ff).mem = s.mem := rfl
@[simp] theorem modFab_bufs : (s.modFab ff).bufs = s.bufs := rfl
@[simp] theorem modFab_granZero : (s.modFab ff).granZero = s.granZero := rfl
@[simp] theorem modFab_wins : (s.modFab ff).wins = s.wins := rfl
@[simp] theorem modFab_dma : (s.modFab ff).dma = s.dma := rfl
@[simp] theorem modFab_pool : (s.modFab ff).pool = s.pool := rfl
@[simp] theorem modFab_arrays : (s.modFab ff).arrays = s.arrays := rfl
@[simp] theorem modFab_dies : (s.modFab ff).dies = s.dies := rfl
@[simp] theorem modFab_img : (s.modFab ff).img = s.img := rfl
@[simp] theorem modFab_load : (s.modFab ff).load = s.load := rfl
@[simp] theorem modFab_qmonCopy : (s.modFab ff).qmonCopy = s.qmonCopy := rfl
@[simp] theorem modFab_samples : (s.modFab ff).samples = s.samples := rfl
@[simp] theorem modFab_monReads : (s.modFab ff).monReads = s.monReads := rfl
@[simp] theorem modFab_work : (s.modFab ff).work = s.work := rfl
@[simp] theorem modFab_nextRid : (s.modFab ff).nextRid = s.nextRid := rfl
@[simp] theorem modFab_links : (s.modFab ff).links = s.links := rfl
@[simp] theorem modFab_time : (s.modFab ff).time = s.time := rfl
@[simp] theorem modFab_eth : (s.modFab ff).eth = s.eth := rfl
@[simp] theorem modFab_hk : (s.modFab ff).hk = s.hk := rfl
@[simp] theorem modFab_cal : (s.modFab ff).cal = s.cal := rfl
@[simp] theorem modFab_power : (s.modFab ff).power = s.power := rfl
@[simp] theorem modFab_boot : (s.modFab ff).boot = s.boot := rfl
@[simp] theorem modFab_masthead : (s.modFab ff).masthead = s.masthead := rfl
@[simp] theorem modFab_flash : (s.modFab ff).flash = s.flash := rfl
@[simp] theorem modFab_sec : (s.modFab ff).sec = s.sec := rfl
@[simp] theorem modFab_faults : (s.modFab ff).faults = s.faults := rfl
@[simp] theorem modFab_tap : (s.modFab ff).tap = s.tap := rfl
@[simp] theorem modFab_out : (s.modFab ff).out = s.out := rfl

/-! ### modStep -/

@[simp] theorem modStep_pending : (s.modStep fs).pending = s.pending := rfl
@[simp] theorem modStep_count : (s.modStep fs).count = s.count := rfl
@[simp] theorem modStep_draws : (s.modStep fs).draws = s.draws := rfl
@[simp] theorem modStep_obj : (s.modStep fs).obj = s.obj := rfl
@[simp] theorem modStep_pend : (s.modStep fs).pend = s.pend := rfl
@[simp] theorem modStep_oct : (s.modStep fs).oct = s.oct := rfl
@[simp] theorem modStep_table : (s.modStep fs).table = s.table := rfl
@[simp] theorem modStep_rings : (s.modStep fs).rings = s.rings := rfl
@[simp] theorem modStep_ringMem : (s.modStep fs).ringMem = s.ringMem := rfl
@[simp] theorem modStep_landed : (s.modStep fs).landed = s.landed := rfl
@[simp] theorem modStep_taken : (s.modStep fs).taken = s.taken := rfl
@[simp] theorem modStep_mem : (s.modStep fs).mem = s.mem := rfl
@[simp] theorem modStep_bufs : (s.modStep fs).bufs = s.bufs := rfl
@[simp] theorem modStep_granZero : (s.modStep fs).granZero = s.granZero := rfl
@[simp] theorem modStep_wins : (s.modStep fs).wins = s.wins := rfl
@[simp] theorem modStep_dma : (s.modStep fs).dma = s.dma := rfl
@[simp] theorem modStep_pool : (s.modStep fs).pool = s.pool := rfl
@[simp] theorem modStep_arrays : (s.modStep fs).arrays = s.arrays := rfl
@[simp] theorem modStep_dies : (s.modStep fs).dies = s.dies := rfl
@[simp] theorem modStep_img : (s.modStep fs).img = s.img := rfl
@[simp] theorem modStep_load : (s.modStep fs).load = s.load := rfl
@[simp] theorem modStep_qmonCopy : (s.modStep fs).qmonCopy = s.qmonCopy := rfl
@[simp] theorem modStep_samples : (s.modStep fs).samples = s.samples := rfl
@[simp] theorem modStep_monReads : (s.modStep fs).monReads = s.monReads := rfl
@[simp] theorem modStep_work : (s.modStep fs).work = s.work := rfl
@[simp] theorem modStep_nextRid : (s.modStep fs).nextRid = s.nextRid := rfl
@[simp] theorem modStep_links : (s.modStep fs).links = s.links := rfl
@[simp] theorem modStep_time : (s.modStep fs).time = s.time := rfl
@[simp] theorem modStep_eth : (s.modStep fs).eth = s.eth := rfl
@[simp] theorem modStep_hk : (s.modStep fs).hk = s.hk := rfl
@[simp] theorem modStep_cal : (s.modStep fs).cal = s.cal := rfl
@[simp] theorem modStep_power : (s.modStep fs).power = s.power := rfl
@[simp] theorem modStep_boot : (s.modStep fs).boot = s.boot := rfl
@[simp] theorem modStep_masthead : (s.modStep fs).masthead = s.masthead := rfl
@[simp] theorem modStep_flash : (s.modStep fs).flash = s.flash := rfl
@[simp] theorem modStep_sec : (s.modStep fs).sec = s.sec := rfl
@[simp] theorem modStep_faults : (s.modStep fs).faults = s.faults := rfl
@[simp] theorem modStep_tap : (s.modStep fs).tap = s.tap := rfl
@[simp] theorem modStep_out : (s.modStep fs).out = s.out := rfl

/-! ### modTime -/

@[simp] theorem modTime_pending : (s.modTime ft).pending = s.pending := rfl
@[simp] theorem modTime_count : (s.modTime ft).count = s.count := rfl
@[simp] theorem modTime_draws : (s.modTime ft).draws = s.draws := rfl
@[simp] theorem modTime_obj : (s.modTime ft).obj = s.obj := rfl
@[simp] theorem modTime_pend : (s.modTime ft).pend = s.pend := rfl
@[simp] theorem modTime_oct : (s.modTime ft).oct = s.oct := rfl
@[simp] theorem modTime_table : (s.modTime ft).table = s.table := rfl
@[simp] theorem modTime_rings : (s.modTime ft).rings = s.rings := rfl
@[simp] theorem modTime_ringMem : (s.modTime ft).ringMem = s.ringMem := rfl
@[simp] theorem modTime_landed : (s.modTime ft).landed = s.landed := rfl
@[simp] theorem modTime_taken : (s.modTime ft).taken = s.taken := rfl
@[simp] theorem modTime_mem : (s.modTime ft).mem = s.mem := rfl
@[simp] theorem modTime_bufs : (s.modTime ft).bufs = s.bufs := rfl
@[simp] theorem modTime_granZero : (s.modTime ft).granZero = s.granZero := rfl
@[simp] theorem modTime_wins : (s.modTime ft).wins = s.wins := rfl
@[simp] theorem modTime_dma : (s.modTime ft).dma = s.dma := rfl
@[simp] theorem modTime_pool : (s.modTime ft).pool = s.pool := rfl
@[simp] theorem modTime_arrays : (s.modTime ft).arrays = s.arrays := rfl
@[simp] theorem modTime_dies : (s.modTime ft).dies = s.dies := rfl
@[simp] theorem modTime_img : (s.modTime ft).img = s.img := rfl
@[simp] theorem modTime_load : (s.modTime ft).load = s.load := rfl
@[simp] theorem modTime_qmonCopy : (s.modTime ft).qmonCopy = s.qmonCopy := rfl
@[simp] theorem modTime_samples : (s.modTime ft).samples = s.samples := rfl
@[simp] theorem modTime_monReads : (s.modTime ft).monReads = s.monReads := rfl
@[simp] theorem modTime_work : (s.modTime ft).work = s.work := rfl
@[simp] theorem modTime_nextRid : (s.modTime ft).nextRid = s.nextRid := rfl
@[simp] theorem modTime_fab : (s.modTime ft).fab = s.fab := rfl
@[simp] theorem modTime_links : (s.modTime ft).links = s.links := rfl
@[simp] theorem modTime_eth : (s.modTime ft).eth = s.eth := rfl
@[simp] theorem modTime_hk : (s.modTime ft).hk = s.hk := rfl
@[simp] theorem modTime_cal : (s.modTime ft).cal = s.cal := rfl
@[simp] theorem modTime_power : (s.modTime ft).power = s.power := rfl
@[simp] theorem modTime_boot : (s.modTime ft).boot = s.boot := rfl
@[simp] theorem modTime_masthead : (s.modTime ft).masthead = s.masthead := rfl
@[simp] theorem modTime_flash : (s.modTime ft).flash = s.flash := rfl
@[simp] theorem modTime_sec : (s.modTime ft).sec = s.sec := rfl
@[simp] theorem modTime_faults : (s.modTime ft).faults = s.faults := rfl
@[simp] theorem modTime_tap : (s.modTime ft).tap = s.tap := rfl
@[simp] theorem modTime_out : (s.modTime ft).out = s.out := rfl

/-! ## What an update leaves to be read -/

/-- An object's key names its index, subindex and instance. -/
theorem objKey_inj {i u n i' u' n' : Nat} (hi : i < 65536) (hu : u < 256) (hi' : i' < 65536) (hu' : u' < 256)
    (h : objKey i u n = objKey i' u' n') : i = i' ∧ u = u' ∧ n = n' := by
  unfold objKey at h
  omega

@[simp] theorem rdI_wrI_same : (s.wrI i u n v).rdI i u n = v := sget_sset_same _ _ _ _

theorem rdI_wrI_other {i' u' n' : Nat} (h : objKey i' u' n' ≠ objKey i u n) : (s.wrI i u n v).rdI i' u' n' = s.rdI i' u' n' :=
  sget_sset_dflt _ _ h _ _

@[simp] theorem rd_wr_same : (s.wr i u v).rd i u = v := rdI_wrI_same s i u 0 v

theorem rd_wr_other {i' u' : Nat} (h : objKey i' u' 0 ≠ objKey i u 0) : (s.wr i u v).rd i' u' = s.rd i' u' :=
  rdI_wrI_other s i u 0 v h

@[simp] theorem rd_bump_same : (s.bump i u v).rd i u = (s.rd i u + v) % objModulus i u := rd_wr_same s i u _

theorem rd_bump_other {i' u' : Nat} (h : objKey i' u' 0 ≠ objKey i u 0) : (s.bump i u v).rd i' u' = s.rd i' u' :=
  rd_wr_other s i u _ h

@[simp] theorem rd_flag_same : (s.flag i u v).rd i u = setBit (s.rd i u) v := rd_wr_same s i u _

theorem rd_flag_other {i' u' : Nat} (h : objKey i' u' 0 ≠ objKey i u 0) : (s.flag i u v).rd i' u' = s.rd i' u' :=
  rd_wr_other s i u _ h

@[simp] theorem entry_putEntry_same : (s.putEntry n e).entry n = e := sget_sset_same _ _ _ _

theorem entry_putEntry_other {q : Nat} (h : q ≠ n) : (s.putEntry n e).entry q = s.entry q := sget_sset_other _ h _ _

@[simp] theorem entry_modEntry_same : (s.modEntry n fe).entry n = fe (s.entry n) := entry_putEntry_same s n _

theorem entry_modEntry_other {q : Nat} (h : q ≠ n) : (s.modEntry n fe).entry q = s.entry q := entry_putEntry_other s n _ h

@[simp] theorem ring_modRing_same : (s.modRing n fr).ring n = fr (s.ring n) := sget_sset_same _ _ _ _

theorem ring_modRing_other {q : Nat} (h : q ≠ n) : (s.modRing n fr).ring q = s.ring q := sget_sset_other _ h _ _

@[simp] theorem win_modWin_same : (s.modWin n fw).win n = fw (s.win n) := sget_sset_same _ _ _ _

theorem win_modWin_other {q : Nat} (h : q ≠ n) : (s.modWin n fw).win q = s.win q := sget_sset_other _ h _ _

@[simp] theorem engine_modEngine_same : (s.modEngine n fg).engine n = fg (s.engine n) := sget_sset_same _ _ _ _

theorem engine_modEngine_other {q : Nat} (h : q ≠ n) : (s.modEngine n fg).engine q = s.engine q := sget_sset_other _ h _ _

@[simp] theorem arr_modArr_same : (s.modArr n fa).arr n = fa (s.arr n) := sget_sset_same _ _ _ _

theorem arr_modArr_other {q : Nat} (h : q ≠ n) : (s.modArr n fa).arr q = s.arr q := sget_sset_other _ h _ _

@[simp] theorem send_out : (s.send o).out = s.out ++ [o] := rfl

@[simp] theorem sendAll_out : (s.sendAll os).out = s.out ++ os := rfl

@[simp] theorem modFab_fab : (s.modFab ff).fab = ff s.fab := rfl

@[simp] theorem modStep_step : (s.modStep fs).fab.step = s.fab.step.map fs := rfl

@[simp] theorem modTime_time : (s.modTime ft).time = ft s.time := rfl

/-! ## Reads see only the part of the state that holds them -/

theorem rd_congr {s t : State} (h : t.obj = s.obj) (i u : Nat) : t.rd i u = s.rd i u := by
  unfold State.rd State.rdI; rw [h]

theorem rdI_congr {s t : State} (h : t.obj = s.obj) (i u n : Nat) : t.rdI i u n = s.rdI i u n := by
  unfold State.rdI; rw [h]

theorem entry_congr {s t : State} (h : t.table = s.table) (q : Nat) : t.entry q = s.entry q := by
  unfold State.entry; rw [h]

/-- A late event is counted and changes nothing else. -/
theorem late_eq (due : Nat) : s.late due = s ∨ s.late due = s.bump 0x1201 0x05 1 := by
  unfold State.late; split_ifs <;> simp

/-- A command whose effect keeps the queue answers its effect. -/
theorem done_eq {s t : State} (h : t.pending = s.pending) : done s t = .next t := by
  unfold done; rw [← h]

/-- A command whose effect keeps the queue, the memories, the flash and the port answers its effect. -/
theorem doneQuiet_eq {s t : State} (h : t.pending = s.pending) (hm : t.mem = s.mem) (hr : t.ringMem = s.ringMem)
    (hf : t.flash = s.flash) (ht : t.tap = s.tap) : doneQuiet s t = .next t := by
  unfold doneQuiet; rw [← h, ← hm, ← hr, ← hf, ← ht]

/-- What the two forms of a command's answer leave alone. -/
theorem done_next {s t u : State} (h : done s t = .next u) : u = { t with pending := s.pending } := by
  unfold done at h; cases h; rfl

theorem doneQuiet_next {s t u : State} (h : doneQuiet s t = .next u) :
    u = { t with pending := s.pending, mem := s.mem, ringMem := s.ringMem, flash := s.flash, tap := s.tap } := by
  unfold doneQuiet at h; cases h; rfl

end Sys2Proof.Machine
end

