-- ==== Sys2Proof/Laws/Steps.lean ====
section
/-! SUPPORT. Laws of a step's start: what the sequencers' plan leaves alone. -/

namespace Sys2Proof.Machine
open Sys2Proof

/-- An allotment changes the list of buffers alone. -/
theorem allot_eq (a : Allot) (s : State) : ∃ b, allot a s = { s with bufs := b } := by
  unfold allot
  split
  · exact ⟨_, rfl⟩
  · exact ⟨s.bufs, rfl⟩

/-- A descriptor that enters a queue changes the DMA engines alone. -/
theorem submitOwn_eq (engine : Nat) (data : Bytes) (s : State) : ∃ e, submitOwn engine data s = { s with dma := e } := by
  unfold submitOwn
  split
  · exact ⟨_, rfl⟩
  · exact ⟨s.dma, rfl⟩

/-- Allotments change the list of buffers alone. -/
theorem allots_eq (l : List Allot) (s : State) : ∃ b, l.foldl (fun s a => allot a s) s = { s with bufs := b } := by
  induction l generalizing s with
  | nil => exact ⟨s.bufs, rfl⟩
  | cons a l ih =>
    obtain ⟨b, hb⟩ := allot_eq a s
    obtain ⟨c, hc⟩ := ih { s with bufs := b }
    exact ⟨c, by simp [hb, hc]⟩

/-- Submissions change the DMA engines alone. -/
theorem submits_eq (l : List (Nat × Bytes)) (s : State) :
    ∃ e, l.foldl (fun s x => submitOwn x.1 x.2 s) s = { s with dma := e } := by
  induction l generalizing s with
  | nil => exact ⟨s.dma, rfl⟩
  | cons a l ih =>
    obtain ⟨b, hb⟩ := submitOwn_eq a.1 a.2 s
    obtain ⟨c, hc⟩ := ih { s with dma := b }
    exact ⟨c, by simp [hb, hc]⟩

/-- The sequencers' plan changes the list of buffers and the engines, and nothing else. -/
theorem seqWork_eq (p : SeqPlan) (s : State) : ∃ b e, seqWork p s = { s with bufs := b, dma := e } := by
  obtain ⟨b, hb⟩ := allots_eq p.allots s
  obtain ⟨e, he⟩ := submits_eq p.submits { s with bufs := b }
  exact ⟨b, e, by unfold seqWork; rw [hb, he]⟩

end Sys2Proof.Machine
end

