-- ==== Sys2Proof/Tests/Slice0.lean ====
section
/-! SUPPORT. Tests of the model: ill-formed commands that the check of well-formed commands refuses, a witness for each clause of
each statement that has hypotheses, and single commands on small states. -/

section

set_option Elab.async false

open Sys2Proof Sys2Proof.Machine

/-! ## Small states that the witnesses are built from -/

/-- A dictionary object set in a small state, where it is read first. -/
def Sys2Proof.Machine.State.put (s : State) (index sub inst v : Nat) : State := { s with obj := (objKey index sub inst, v) :: s.obj }

namespace Sys2Proof.Tests

/-- A state at the first tick of a beat. -/
def atBeat (b : Nat) (s : State) : State := { s with count := BitVec.ofNat 64 (1024 * b) }

/-- The device in service at position 0 in a region of the devices at 0 and 1, with the head and the tail at two positions. -/
def inRegion (head tail : Nat) : State :=
  atBeat 1048576 { (((State.reset.put 0x1000 0x08 0 0).put 0x3101 0x09 0 1).put 0x3101 0x0A 0 head).put 0x3101 0x0B 0 tail with
    fab := { Fabric.idle with extent := [2, 1, 1] } }

/-- An open step of no entries. -/
def step0 : Step := { (default : Step) with num := 5, run := 1, visible := true, started := true }

/-- A state that holds a step. -/
def withStep (st : Step) (s : State) : State := { s with fab := { s.fab with step := some st } }

/-- A length table of one GENERATE entry, request 7. -/
def line0 : LenEntry := ⟨7, 0, 0, 1, 0, 4, 9, 0⟩

/-- A request entry in a state, of context 9 with tag 3 from ring 0. -/
def entry0 (state : Nat) : Entry := { Entry.free with state := state, context := 9, burgee := 2, tag := 3, promptLen := 4, committed := 4 }

/-- A decision for step 5. -/
def decision0 (outcome : Nat) : DecMsg := ⟨5, 1, outcome, 1048576, [⟨7, 0, 0⟩]⟩

/-- The step with its one entry decided. -/
def decided0 (outcome : Nat) : Step :=
  { step0 with len := [line0], decision := some (decision0 outcome), decided := true, released := true }

/-- A batch of no entries. -/
def batch0 : BatchMsg := ⟨5, 1, 0, [], [], []⟩

/-- A multicast that this device holds open, and a pending copy of one. -/
def out0 (b : McBody) : McOut := ⟨11, 0, 1, [], false, b⟩
def in0 (b : McBody) : McIn := ⟨11, 1, 0, 0, [0], 0, [0], 1, true, [], b⟩

/-- A scheduled command for request 7, held for its effect beat. -/
def sched0 (cmd target : Nat) : SchedMsg := ⟨2, 1, 6, 1048576, cmd, target, 3, 10⟩
def due (m : SchedMsg) (s : State) : State := { s with fab := { s.fab with scheds := [m] } }


/-- Ring pair 0 enabled and ready with credits, in burgee 2. -/
def ringOn (s : State) : State :=
  (((((s.put 0x1111 0x01 0 2).put 0x1111 0x02 0 64).put 0x1111 0x03 0 64).put 0x1111 0x09 0 1).put 0x1111 0x0D 0 1).put 0x1111 0x0F 0 4

/-- An ingress entry that the poll has taken from ring 0, for request 7 and context 9. -/
def taken0 (op : Nat) : Taken := { (default : Taken) with op := op, context := 9, tag := 3, entry := 7 }

/-- A command completion. -/
def compl0 : Compl := ⟨0, 1, 16, 3, 7, [], 1, 0, 0, 0, 0, false⟩

/-- A tail that admits a request of context 9 in burgee 2: an image in service, and a pool of pages. -/
def admits0 : State :=
  { ((((((inRegion 1 0).put 0x1111 0x01 0 2).put 0x4000 0x11 0 4).put 0x5021 0x01 9 2).put 0x5021 0x02 9 1).put 0x5102 0x01 0 1).put
      0x5102 0x07 0 8 with
    taken := [{ taken0 1 with promptLen := 4, tokens := [1, 2, 3, 4] }]
    pool := ⟨[0x100000, 0x280000], [16, 16], [], [], [], [], []⟩
    fab := { (inRegion 1 0).fab with imageReports := [(0, (inRegion 1 0).imageDigest), (1, (inRegion 1 0).imageDigest)] } }

/-- A device that serves requests: boot is complete, the port is up, Masthead runs, and an operator's session 0 is open. -/
def serving (s : State) : State :=
  { s.put 0x1100 0x03 0 2 with
    boot := ⟨true, true, true, true, true, true, true, true, false⟩
    sec := { s.sec with sessions := [{ (default : Session) with opened := true }] }
    masthead := { s.masthead with on := true } }

/-- A request of the operator's session. -/
def request0 : DictReq := ⟨0x5044, 1, 2, 8, some 0⟩

/-- A device whose link 0 is trained, and has lost its parent. -/
def linkUp0 (s : State) : State := s.put 0x3010 0x01 0 2
def orphan0 (t : TimeSt) : State :=
  { (((linkUp0 (inRegion 0 1)).put 0x1200 0x03 0 3).setLink 0 fun l => { l with nbSync := 2, nbRootBound := 5 }) with time := t }

/-- An image with an attention layer of one head in slot 3: its Q, K, V and router matrices, 1,024 rows and 32 columns each. -/
def mat0 (role : Nat) : MatEntry := { (default : MatEntry) with role := role, k := 1024, n := 32, rbCount := 1, expert := 0xFF }
def layer0 : LayerEntry :=
  { (default : LayerEntry) with slot := 3, kind := 1, matCount := 4, heads := 1, kvHeads := 1, headDim := 128 }
def image0 : Image :=
  { (default : Image) with digest := [1#8], layers := [layer0], mats := [mat0 0, mat0 1, mat0 2, mat0 11], scales := [(0, 0x38)] }

/-- The step in flight of one token, on a member whose image is that one, with array 0 (and array 4224 on the next die) in use. -/
def place0 (rb : Nat) : Place := ⟨0, rb, 0, 0, rb⟩
def stepping (w : Work) : State :=
  { withStep { step0 with len := [line0] } (inRegion 1 1) with
    img := some image0, table := [(7, { entry0 3 with pages := [⟨0, 0, 5⟩, ⟨1, 0, 6⟩] })]
    work := { w with snap := { w.snap with places := [(0, place0 0), (4224, place0 1)], reserveClock := 500 } } }

/-- A read of array 0, a read result, and the strip block and tier of its row block. -/
def read0 (p : ReadPhase) : ReadRec := { (default : ReadRec) with rid := 1, phase := p }
def block0 (form pass : Nat) : Block := { (default : Block) with form := form, pass := pass, vals := List.replicate 32 1 }
def tier0 : Tier := { (default : Tier) with second := [5], secondDone := true }
def sample0 : Sample :=
  { (default : Sample) with slot := 3, rbs := [0], drives := [[1]], vals := [0x3F800000#32], digest := [1#8] }

/-- A member that has what one head of token 0 needs: its Q, K and V blocks, and the headers of its pages. -/
def outBlock0 (mat : Nat) : OutBlk := { (default : OutBlk) with mat := mat }
def attending : State :=
  { stepping { Work.none with outs := [outBlock0 0, outBlock0 1, outBlock0 2] } with
    mem := [(5 * 65536, 7#8), (6 * 65536, 7#8), (6 * 65536 + 2, 1#8)] }

/-- A routine window on die 0 from a start beat, and the state in the middle of it, with array 0 in service. -/
def window0 (full : Bool) (start : Nat) : CalWin := ⟨0, full, 0, true, none, none, start⟩
def measuring (w : CalWin) : State :=
  { stepping Work.none with
    cal := { State.reset.cal with current := some w }, arrays := [(0, { Arr.blank with place := some (place0 0) })] }

/-- A load in a state, with the next image held; array 0 is to be programmed by a program operation. -/
def load0 (state : Nat) : State :=
  { (inRegion 0 0).put 0x4000 0x11 0 state with
    fab := { (inRegion 0 0).fab with extent := [1, 1, 1] }, load := { State.reset.load with next := some image0, reload := true } }
def programming0 (op : Option ProgOp) : State :=
  { ((load0 2).modArr 0 fun x => { x with prog := op }).modDie 0 fun d => { d with band := 0 } with
    load := { (load0 2).load with toProgram := [0], plan := [(0, place0 0)] } }
def prog0 (key : Nat) (p : PairOp) : ProgOp := ⟨0, [(key, p)]⟩

/-- The first 42 bytes of a manifest of one layer and four sections, and the section entries as zeros. -/
def manifest0 : Bytes :=
  asciiBytes "PSITI-WI" ++ leBytes 2 1 ++ leBytes 2 4 ++ leBytes 4 1152 ++ leBytes 8 77 ++ leBytes 4 2 ++ leBytes 2 1 ++
    [1#8, 1#8, 1#8, 0#8] ++ zeros 1118

/-- A context buffer in scratchpad half 1, and a descriptor in progress on engine 0. -/
def buffer0 (ctx : Nat) : Buf := ⟨ctx, 0x10000000, 65536, 0, false⟩
def desc0 (op length rows : Nat) : Desc :=
  { (default : Desc) with op := op, length := length, rows := rows, src := 0x10000000, dst := 0x10008000, compl := 0x10000000 }
def run0 (d : Desc) : DescRun := { (default : DescRun) with d := d }
def moving (r : DescRun) : State := (inRegion 0 1).modEngine 0 fun e => { e with running := [r] }

/-- A window of 64 bytes in slot 5 under generation 1, and a request for one. -/
def windowed (state expiry : Nat) : State :=
  (serving (inRegion 0 1)).modWin 5 fun w =>
    { w with state := state, gen := 1, base := 0x10000000, len := 64, expiry := expiry, devices := [0xFFFE] }
def winReq0 : Bytes :=
  leBytes 2 9 ++ zeros 2 ++ leBytes 4 64 ++ leBytes 8 0x10000000 ++ leBytes 8 1048640 ++ zeros 2 ++
    List.replicate 30 0xFF#8 ++ zeros 8

/-- A link in a state, with its dictionary state. -/
def linked (state : Nat) (l : Link) : State :=
  { (inRegion 0 1).put 0x3015 0x01 0 state with links := State.reset.links.set 5 l }

/-- A word that Masthead has taken from mailbox 7. -/
def handed (w : Word) : State :=
  { serving (inRegion 0 1) with masthead := { State.reset.masthead with on := true, taken := [(7, w)] } }
def flashing (j : FlashJob) : State :=
  { serving (inRegion 0 1) with masthead := { State.reset.masthead with on := true, jobs := [j] } }

/-- A device that is ready to open sessions: session 1 is not open yet. -/
def ensigned : State :=
  { serving (inRegion 0 1) with
    sec := { (serving (inRegion 0 1)).sec with
      ensign := true, algOk := true, keys := [(6, 4)]
      sessions := [{ (default : Session) with opened := true }, { (default : Session) with id := 1 }] } }

/-- Array 1 replaces array 0 in a strip move, and its program operation has run for its longest time. -/
def capped : State :=
  { atBeat 5078125 ((programming0 none).modArr 1 fun x => { x with prog := some (prog0 0 PairOp.fresh) }) with
    load := { (load0 4).load with moves := [⟨[0], [1], 0, [], []⟩] }
    arrays := [(0, { Arr.blank with place := some (place0 0) }), (1, { Arr.blank with prog := some (prog0 0 PairOp.fresh) })] }

/-- A message ring of 4,096 bytes of a context. -/
def messaged (ctx : Nat) : State :=
  { ((inRegion 0 1).put 0x5021 0x04 ctx 0x10000000).put 0x5021 0x05 ctx 4096 with bufs := [buffer0 ctx] }

/-- A round in which every diode reads 115.00 °C and the reference channels read what they must. -/
def hotRound : HkRound :=
  { (default : HkRound) with codes := (List.range 63).map fun e => if e = 0 then 2400 else if e = 61 then 0 else if e = 62 then 4000 else 3100 }

/-- A window for an array test on die 0. -/
def testWindow0 : CalWin := { window0 false 0 with routine := false, test := some 1 }

/-- Pools of 16 pages with pages and Reserve pages taken, and an entry for request 7. -/
def pooled (used reserve : List Nat) (e : Entry) : State :=
  { inRegion 1 1 with table := [(7, e)], pool := ⟨[0x100000, 0x280000], [16, 16], used, [], [], reserve, []⟩ }

/-- A matrix whose strip is divided between two dies, and one whose rows are reduced. -/
def mat2 : MatEntry := { mat0 0 with k := 2048, rbCount := 2 }
def matRed : MatEntry := { mat0 0 with red := 1 }
def steppingOn (m : MatEntry) (w : Work) : State := { stepping w with img := some { image0 with mats := [m] } }

/-- The enable of each ring pair is 0 by default (object 0x1111:09). -/
theorem ring_switch (r : Nat) : objDefault (r * 16777216 + 1118464 + 9) = 0 := by
  have h1 : (r * 16777216 + 1118464 + 9) / 256 % 65536 = 0x1111 := by omega
  have h2 : (r * 16777216 + 1118464 + 9) % 256 = 9 := by omega
  unfold objDefault
  simp only [h1, h2]
  decide +kernel

theorem ring_off (r : Nat) (h : r ≠ 0) : (ringOn (inRegion 0 1)).rdI 0x1111 0x09 r = 0 := by
  simp only [State.rdI, ringOn, State.put, inRegion, atBeat, State.reset, sget, objKey]
  rw [if_neg (by omega), if_neg (by omega), if_neg (by omega), if_neg (by omega), if_neg (by omega), if_neg (by omega),
    if_neg (by omega), if_neg (by omega), if_neg (by omega), if_neg (by omega)]
  exact ring_switch r

/-- A device long in half-mast, from escalation alone. -/
def escalated : State :=
  { (atBeat 0x100000000 (inRegion 0 1)).put 0x7001 0x07 0 1 with
    faults := { State.reset.faults with causes := [1], hmEntered := some 1 } }

/-- A device whose link 5 may train. -/
def enabled0 (l : Link) : State := { (linked 0 l).put 0x3000 0x02 0 63 with power := { Power.inReset with bypHold := 1 } }

/-! ## A witness for each clause that has hypotheses -/

theorem witness_StepRunsTheFrontCommand :
    ∃ (c : Instr) (rest : List Instr) (s : State), s.pending = c :: rest :=
  ⟨.stepStart default, [.commit], { State.reset with pending := [.stepStart default, .commit] }, by decide +kernel⟩

theorem witness_IdleStepIsOneTick :
    ∃ (s : State), s.pending = [] :=
  ⟨State.reset, by decide +kernel⟩

theorem witness_EveryStepKeepsMemoryCanonical :
    ∃ (s t : State), s.Canonical ∧ step s = .next t :=
  ⟨State.reset, { State.reset with count := 1#64 }, by unfold State.Canonical; decide +kernel, by rfl⟩

theorem witness_QuietCommandsStoreNothing :
    ∃ (c : Instr) (s t : State), storesNothing c = true ∧ exec c s = .next t :=
  ⟨.keepAlive, State.reset, State.reset, by decide +kernel, by rfl⟩

theorem witness_AcknowledgementsClimbTheTailsTree :
    (∃ (s : State) (st : Step), OpenStep s st ∧ st.started = true ∧ st.workDone = false ∧ st.discardSent = false ∧
      st.ackSent = false ∧ s.inService = true ∧ (∀ r ∈ s.work.reads, r.phase = .done) ∧ s.isTail = false ∧ (∀ c ∈ s.tailChildren,
      ∃ a ∈ st.childAcks, a.1 = c) ∧ s.fab.inDoubt = none ∧ s.load.refetch = none ∧ s.stripLost = false) ∧
    (∃ (s : State) (st : Step), OpenStep s st ∧ st.workDone = false) ∧
    (∃ (s : State), s.hasRegion = true ∧ s.isTail = false) ∧
    (∃ (s : State) (st : Step), OpenStep s st ∧ s.isTail = true ∧ st.decided = false ∧ (∀ o ∈ s.fab.outs, o.mcnum ≠ s.fab.mcNext) ∧
      s.commitDeadlineOf st.frame ≤ s.beat + s.commitLead) :=
  ⟨⟨withStep step0 (inRegion 1 1), step0, by unfold OpenStep; decide +kernel⟩,
   ⟨withStep step0 (inRegion 1 1), step0, by unfold OpenStep; decide +kernel⟩,
   ⟨inRegion 1 1, by decide +kernel⟩,
   ⟨withStep step0 (inRegion 1 0), step0, by unfold OpenStep; decide +kernel⟩⟩

theorem witness_CommitAdvancesEachEntryOfTheStep :
    ∃ (s : State) (st : Step) (d : DecMsg), OpenStep s st ∧ s.fab.inDoubt = none ∧ st.decision = some d ∧ st.released = true ∧
      st.withdrawn = false ∧ d.outcome = 1 ∧ d.commitBeat ≤ s.beat ∧ (st.len.map (·.req)).Nodup ∧ (∀ l ∈ st.len,
      (s.entry l.req).state = 1 ∨ (s.entry l.req).state = 2 ∨ (s.entry l.req).state = 3) ∧ st.leftOut = [] ∧ st.deferred = [] ∧
      (∀ r ∈ d.recs, r.mark = 0) ∧ (∀ l ∈ st.len, l.kind = 2 → hasEncoder s.image = false ∧ hasOutputHead s.image = true) :=
  ⟨withStep (decided0 1) { inRegion 1 1 with table := [(7, entry0 3)] }, decided0 1, decision0 1, by unfold OpenStep; decide +kernel⟩

theorem witness_ADiscardedStepChangesNoEntry :
    (∃ (s : State) (st : Step) (d : DecMsg), OpenStep s st ∧ s.fab.inDoubt = none ∧ st.decision = some d ∧ st.withdrawn = true ∧
      d.commitBeat ≤ s.beat ∧ st.deferred = [] ∧ (∀ l ∈ st.len, (s.entry l.req).state ≠ 0)) ∧
    (∃ (s : State) (st : Step) (e : Nat), OpenStep s st ∧ s.fab.inDoubt = some (st.num, e) ∧ st.deferred = [] ∧ (∀ l ∈ st.len,
      (s.entry l.req).state ≠ 0)) :=
  ⟨⟨withStep { decided0 1 with withdrawn := true } { inRegion 1 1 with table := [(7, entry0 3)] },
      { decided0 1 with withdrawn := true }, decision0 1, by unfold OpenStep; decide +kernel⟩,
   ⟨(withStep (decided0 1) { inRegion 1 1 with table := [(7, entry0 3)] }).modFab fun f => { f with inDoubt := some (5, 2000000) },
      decided0 1, 2000000, by unfold OpenStep; decide +kernel⟩⟩

theorem witness_TheStepLeaseReleasesItsWork :
    ∃ (s : State) (st : Step), s.fab.step = some st ∧ s.commitDeadlineOf st.frame ≤ s.beat :=
  ⟨withStep step0 (inRegion 1 1), step0, by decide +kernel⟩

theorem witness_AMemberInDoubtAsksTheTail :
    (∃ (s : State) (st : Step), OpenStep s st ∧ s.fab.inDoubt = none ∧ st.decision = none ∧ st.visible = true ∧
      s.commitDeadlineOf st.frame ≤ s.beat) ∧
    (∃ (s : State) (st : Step) (x : Nat × Nat), s.fab.step = some st ∧ s.fab.inDoubt = some x ∧ s.fab.lastQuery + 16 ≤ s.beat) ∧
    (∃ (s : State) (step run : Nat), s.isTail = true ∧ (∀ d ∈ s.fab.decisions, d.step = step → d.run = run → d.outcome ≠ 1)) ∧
    (∃ (s : State) (n e : Nat), s.fab.inDoubt = some (n, e) ∧ e ≠ 0 ∧ e ≤ s.beat) :=
  ⟨⟨withStep step0 (inRegion 1 1), step0, by unfold OpenStep; decide +kernel⟩,
   ⟨(withStep step0 (inRegion 1 1)).modFab fun f => { f with inDoubt := some (5, 2000000), lastQuery := 1048560 }, step0, (5,
      2000000), by decide +kernel⟩,
   ⟨(inRegion 1 0).modFab fun f => { f with decisions := [decision0 0] }, 5, 1, by decide +kernel⟩,
   ⟨(inRegion 1 1).modFab fun f => { f with inDoubt := some (5, 1048576) }, 5, 1048576, by decide +kernel⟩⟩

theorem witness_AHeldMulticastIsAcknowledgedAndReleased :
    (∃ (s : State) (c : McCopy), s.hasRegion = true ∧ s.inBox s.pos = true ∧ copyChildren c.src c.mode c.targets s = [] ∧ c.mode = 0 ∧
      c.parts = 1 ∧ (∀ i ∈ s.fab.ins, ¬(i.mcnum = c.mcnum ∧ i.src = c.src)) ∧ (∀ d, c.body ≠ .decision d)) ∧
    (∃ (s : State) (o : McOut) (d : DecMsg) (acked child : Nat), s.fab.outs = [o] ∧ o.closed = false ∧ o.body = .decision d ∧
      o.expected ≤ (sput child acked o.acked).foldl (fun n x => n + x.2) 0) ∧
    (∃ (s : State) (i : McIn) (st : Step) (d : DecMsg), s.fab.ins = [i] ∧ i.mode = 0 ∧ i.parts.length = i.total ∧
      i.body = .decision d ∧ OpenStep s st ∧ st.num = d.step) ∧
    (∃ (s : State) (i : McIn) (b : BatchMsg), s.fab.ins = [i] ∧ i.body = .batch b) :=
  ⟨⟨inRegion 1 1, ⟨11, 1, 0, [0], 0, 1, 2000000, 0, .batch batch0⟩, by decide +kernel, by decide +kernel, by decide +kernel,
      by decide +kernel, by decide +kernel, by decide +kernel, by intro d h; cases h⟩,
   ⟨(inRegion 0 1).modFab fun f => { f with outs := [out0 (.decision (decision0 1))] }, out0 (.decision (decision0 1)), decision0 1,
      1, 1, by decide +kernel⟩,
   ⟨(withStep step0 (inRegion 1 1)).modFab fun f => { f with ins := [in0 (.decision (decision0 1))] }, in0 (.decision (decision0 1)),
      step0, decision0 1, by unfold OpenStep; decide +kernel⟩,
   ⟨(inRegion 1 1).modFab fun f => { f with ins := [in0 (.batch batch0)] }, in0 (.batch batch0), batch0, by decide +kernel⟩⟩

theorem witness_MulticastsEndAtTheirDeadlines :
    (∃ (s : State) (o : McOut) (b : BatchMsg), s.fab.outs = [o] ∧ o.closed = false ∧ o.body = .batch b ∧ o.deadline ≤ s.beat) ∧
    (∃ (s : State) (i : McIn) (b : BatchMsg), s.fab.ins = [i] ∧ i.body = .batch b ∧ i.deadline + s.rd 0x3102 0x02 ≤ s.beat) ∧
    (∃ (s : State) (m : SchedMsg), s.beat ≤ m.effect ∧ m.msgnum ∉ s.fab.acted ∧ m ∉ s.fab.scheds) ∧
    (∃ (s : State) (m : SchedMsg), m.effect < s.beat) :=
  ⟨⟨(inRegion 0 1).modFab fun f => { f with outs := [out0 (.batch batch0)] }, out0 (.batch batch0), batch0, by decide +kernel⟩,
   ⟨(inRegion 1 1).modFab fun f => { f with ins := [in0 (.batch batch0)] }, in0 (.batch batch0), batch0, by decide +kernel⟩,
   ⟨inRegion 1 1, sched0 1 7, by decide +kernel⟩,
   ⟨atBeat 1048577 (inRegion 1 1), sched0 1 7, by decide +kernel⟩⟩

theorem witness_CommandsActAtTheirEffectBeat :
    (∃ (s : State) (m : SchedMsg), DueNow s m ∧ m.cmd = 1 ∧ s.isTail = true ∧ s.isHead = false ∧ 1 ≤ (s.entry m.target).state ∧
      (s.entry m.target).state ≤ 4 ∧ (s.entry m.target).tag = m.tag ∧ (s.entry m.target).ring ≠ m.ring) ∧
    (∃ (s : State) (m : SchedMsg), DueNow s m ∧ m.cmd = 2 ∧ s.isTail = true ∧ s.isHead = false ∧ s.inFlight m.target = false ∧
      1 ≤ (s.entry m.target).state ∧ (s.entry m.target).state ≤ 4 ∧ (s.entry m.target).tag = m.tag ∧ (s.entry m.target).ring ≠ m.ring) ∧
    (∃ (s : State) (m : SchedMsg), DueNow s m ∧ m.cmd = 1 ∧ s.isTail = true ∧ s.isHead = false ∧ (s.entry m.target).state = 5) ∧
    (∃ (s : State) (m : SchedMsg), DueNow s m ∧ m.cmd = 3 ∧ s.inFlight m.target = false ∧ (s.entry m.target).tag = m.tag ∧
      ((s.entry m.target).state = 2 ∨ (s.entry m.target).state = 3)) ∧
    (∃ (s : State) (m : SchedMsg), DueNow s m ∧ m.cmd = 4 ∧ (s.entry m.target).tag = m.tag ∧ (s.entry m.target).state = 4) :=
  ⟨⟨due (sched0 1 7) { inRegion 1 0 with table := [(7, entry0 3)] }, sched0 1 7, by unfold DueNow; decide +kernel⟩,
   ⟨due (sched0 2 7) { inRegion 1 0 with table := [(7, entry0 4)] }, sched0 2 7, by unfold DueNow; decide +kernel⟩,
   ⟨due (sched0 1 7) { inRegion 1 0 with table := [(7, entry0 5)] }, sched0 1 7, by unfold DueNow; decide +kernel⟩,
   ⟨due (sched0 3 7) { inRegion 1 1 with table := [(7, entry0 2)] }, sched0 3 7, by unfold DueNow; decide +kernel⟩,
   ⟨due (sched0 4 7) { inRegion 1 1 with table := [(7, entry0 4)] }, sched0 4 7, by unfold DueNow; decide +kernel⟩⟩

theorem witness_DisablesAndLimitsEndEntries :
    (∃ (s : State) (m : SchedMsg) (q : Nat), DueNow s m ∧ m.cmd = 5 ∧ KeepsEntries s ∧ s.inFlight q = false ∧ 1 ≤ (s.entry q).state ∧
      (s.entry q).state ≤ 4 ∧ (s.entry q).burgee = m.target) ∧
    (∃ (s : State) (m : SchedMsg) (q : Nat), DueNow s m ∧ m.cmd = 6 ∧ KeepsEntries s ∧ s.inFlight q = false ∧ 1 ≤ (s.entry q).state ∧
      (s.entry q).state ≤ 4 ∧ (s.entry q).context = m.target) ∧
    (∃ (s : State) (m : SchedMsg), DueNow s m ∧ m.cmd = 8 ∧ KeepsEntries s ∧ (s.entry m.target).state = 1) :=
  ⟨⟨due (sched0 5 2) { inRegion 1 0 with table := [(7, entry0 3)] }, sched0 5 2, 7, by unfold DueNow KeepsEntries; decide +kernel⟩,
   ⟨due (sched0 6 9) { inRegion 0 1 with table := [(7, entry0 1)] }, sched0 6 9, 7, by unfold DueNow KeepsEntries; decide +kernel⟩,
   ⟨due (sched0 8 7) { inRegion 0 1 with table := [(7, entry0 1)] }, sched0 8 7, by unfold DueNow KeepsEntries; decide +kernel⟩⟩

theorem witness_PagesMoveRestoreAndReturn :
    (∃ (s : State) (q lane chunk p r : Nat) (s' : State), s.Canonical ∧ (s.entry q).state = 4 ∧ s.movePage q lane chunk = some p ∧
      p < 0x400000 ∧ s.takeReserve (s.laneHalf lane) = some (r, s') ∧ s.pool.used.contains p = true ∧ s.pool.retired.contains p = false) ∧
    (∃ (s : State) (q : Nat), (s.entry q).state = 4 ∧ (s.entry q).ttlEnd ≤ s.beat ∧ KeepsEntries s) ∧
    (∃ (s : State) (q lane chunk r p : Nat) (s' : State), s.Canonical ∧ ((s.entry q).state = 2 ∨ (s.entry q).state = 3) ∧
      s.movePage q lane chunk = some r ∧ 0x400000 ≤ r ∧ s.takePage (s.laneHalf lane) = some (p, s') ∧
      memReadN s.mem (r * 65536) 8 = pageHeader q lane chunk) ∧
    (∃ (s : State) (q : Nat), s.isHead = true ∧ (s.entry q).restoring = true) ∧
    (∃ (s : State) (p : Nat), s.pool.zeroing.contains p = true) :=
  ⟨⟨pooled [5] [] { entry0 4 with statePages := [5] }, 7, 0, 0, 5, _, _, by unfold State.Canonical; decide +kernel, by decide +kernel,
      by decide +kernel, by decide +kernel, by rfl, by decide +kernel, by decide +kernel⟩,
   ⟨{ inRegion 0 1 with table := [(7, entry0 4)] }, 7, by unfold KeepsEntries; decide +kernel⟩,
   ⟨{ pooled [] [0x400000] { entry0 2 with statePages := [0x400000] } with mem := [(0x4000000000, 7#8)] }, 7, 0, 0, 0x400000, _, _,
      by unfold State.Canonical; decide +kernel, by decide +kernel, by decide +kernel, by decide +kernel, by rfl, by decide +kernel⟩,
   ⟨{ inRegion 0 1 with table := [(7, { entry0 3 with restoring := true, awaiting := [1] })] }, 7, by decide +kernel⟩,
   ⟨{ inRegion 1 1 with pool := ⟨[0x100000, 0x280000], [16, 16], [], [], [5], [], []⟩ }, 5, by decide +kernel⟩⟩

theorem witness_ThePollTakesWaitingEntries :
    (∃ (s : State) (ring : Nat), s.isHead = true ∧ s.inService = true ∧ s.landed = [] ∧ ring < 256 ∧ (∀ r, r < 256 →
      (s.rdI 0x1111 0x09 r = 1 ↔ r = ring)) ∧ s.ringPi ring = ((s.ring ring).taken + 1) % 0x100000000 ∧
      s.ringPi ring ≠ (s.ring ring).taken ∧ s.rdI 0x1111 0x0F ring ≠ 0 ∧
      (readIngress s ring (s.ring ring).taken).1 = (s.ring ring).taken % 65536 ∧
      schedFull s (readIngress s ring (s.ring ring).taken).2.op = false ∧
      malformed s (readIngress s ring (s.ring ring).taken).2 = false) ∧
    (∃ (s : State) (ring b : Nat), s.isHead = true ∧ s.isTail = true ∧ s.inService = true ∧ (s.ring ring).mismatch = some b ∧
      b + 64 ≤ s.beat ∧ s.rdI 0x1111 0x0F ring ≠ 0 ∧ (readIngress s ring (s.ring ring).taken).1 ≠ (s.ring ring).taken % 65536) :=
  ⟨⟨{ ringOn (inRegion 0 1) with ringMem := [(ringBase 0, 1#8), (ringBase 0 + 66, 1#8)] }, 0, by decide +kernel, by decide +kernel,
      by decide +kernel, by decide +kernel, (by
      intro r _
      by_cases h0 : r = 0
      · subst h0; decide +kernel
      · have h : (ringOn (inRegion 0 1)).rdI 0x1111 0x09 r = 0 := ring_off r h0
        change (ringOn (inRegion 0 1)).rdI 0x1111 0x09 r = 1 ↔ r = 0
        rw [h]; exact ⟨fun x => absurd x (by decide), fun x => absurd x h0⟩), by decide +kernel, by decide +kernel, by decide +kernel,
      by decide +kernel, by decide +kernel, by decide +kernel⟩,
   ⟨{ ringOn (inRegion 0 0) with ringMem := [(ringBase 0 + 64, 9#8)], rings := [(0, { Ring.idle with mismatch := some 1048512 })] },
      0, 1048512, by decide +kernel⟩⟩

theorem witness_SubmitAdmitsOrRejects :
    (∃ (s s' : State) (t : Taken) (rest : List Taken) (q cls b : Nat) (ps : List Nat), s.taken = t :: rest ∧ t.op = 1 ∧
      s.isTail = true ∧ b = s.rdI 0x1111 0x01 t.ring ∧ s.loadState = 4 ∧ s.allReported = true ∧ s.burgeeOf t.context = b ∧
      b ≠ 0xFFFF ∧ s.rd (0x5100 + b) 0x01 = 1 ∧ s.rdI 0x5021 0x02 t.context = 1 ∧
      policyClass (s.rd (0x5100 + b) 0x05) t.cls = some cls ∧ 0 < t.promptLen ∧ t.promptLen < s.maxCtx ∧ hasEncoder s.image = false ∧
      (s.entriesWhere fun e => live e && e.burgee = b).length < s.rd (0x5100 + b) 0x07 ∧ s.freeEntryNo = some q ∧
      State.takePages 0 (ceilDiv (4 * t.promptLen) 65536) { s with taken := rest } = some (ps, s')) ∧
    (∃ (s : State) (t : Taken) (rest : List Taken), s.taken = t :: rest ∧ t.op = 1 ∧ s.isTail = true ∧ s.loadState ≠ 4) :=
  ⟨⟨admits0, _, { taken0 1 with promptLen := 4, tokens := [1, 2, 3, 4] }, [], 0, 0, 2, _, by decide +kernel, by decide +kernel,
      by decide +kernel, by decide +kernel, by decide +kernel, by decide +kernel, by decide +kernel, by decide +kernel,
      by decide +kernel, by decide +kernel, by decide +kernel, by decide +kernel, by decide +kernel, by decide +kernel,
      by decide +kernel, by decide +kernel, by rfl⟩,
   ⟨{ inRegion 1 0 with taken := [taken0 1] }, taken0 1, [], by decide +kernel⟩⟩

theorem witness_TheHeadMulticastsCommands :
    ∃ (s : State) (t : Taken) (rest : List Taken), FrontCommand s t rest :=
  ⟨{ (inRegion 0 1).put 0x1111 0x01 0 2 with taken := [taken0 3], table := [(7, entry0 3)] }, taken0 3, [],
      by unfold FrontCommand; decide +kernel⟩

theorem witness_TheTailWritesCompletions :
    ∃ (s : State) (ring : Nat) (c : Compl), s.completionBeat = true ∧ s.portUp = true ∧ s.isTail = true ∧ s.isHead = false ∧
      s.landed = [] ∧ s.rings = [(ring, { Ring.idle with cmds := [c] })] ∧ s.ringReady ring = true ∧ s.ringRoom ring = true ∧
      s.table = [] ∧ c.kind = 1 ∧ c.final = false :=
  ⟨{ (ringOn (inRegion 1 0)).put 0x1100 0x03 0 2 with rings := [(0, { Ring.idle with cmds := [compl0] })] }, 0, compl0, by decide +kernel⟩

theorem witness_ReportsReachTheirAddressee :
    (∃ (s : State), s.isTail = true) ∧
    (∃ (s : State), s.isHead = true) ∧
    (∃ (s : State) (q : Nat), s.isHead = true ∧ s.inFlight q = false ∧ (s.entry q).state = 5) ∧
    (∃ (s : State), s.isHead = true) ∧
    (∃ (s : State), s.isHead = true) :=
  ⟨⟨inRegion 1 0, by decide +kernel⟩,
   ⟨inRegion 0 1, by decide +kernel⟩,
   ⟨{ inRegion 0 1 with table := [(7, entry0 5)] }, 7, by decide +kernel⟩,
   ⟨inRegion 0 1, by decide +kernel⟩,
   ⟨inRegion 0 1, by decide +kernel⟩⟩

theorem witness_FrameLengthChangesAtItsArmedBeat :
    (∃ (s : State) (r : DictReq) (data : Bytes), ByOperator r s ∧ NotBusy r s 0x1201 0x07 ∧ data.length = 8 ∧ 64 ≤ s.rd 0x1201 0x06 ∧
      s.rd 0x1201 0x06 ≤ 65535 ∧ beNat data % s.frameLen = 0 ∧ beNat data % s.rd 0x1201 0x06 = 0 ∧ s.beat + 64 ≤ beNat data) ∧
    (∃ (s : State) (r : DictReq) (data : Bytes), ByOperator r s ∧ data.length = 8 ∧ beNat data < s.beat + 64) ∧
    (∃ (s : State) (b n : Nat), s.time.armed = some (b, n) ∧ b ≤ s.beat) :=
  ⟨⟨serving (inRegion 0 0), request0, beBytes 8 1048832, by unfold ByOperator Served NotBusy; decide +kernel⟩,
   ⟨serving (inRegion 0 0), request0, beBytes 8 1048639, by unfold ByOperator Served; decide +kernel⟩,
   ⟨{ inRegion 0 0 with time := { TimeSt.unlocked with armed := some (1048576, 128) } }, 1048576, 128, by decide +kernel⟩⟩

theorem witness_TimeFlitsAreSentAndKept :
    (∃ (s : State) (k : Nat), k < s.links.length ∧ s.trained k = true ∧ (s.link k).sentAt = [] ∧ (¬(s.linkState k = 3 ∧
      s.rd 0x1200 0x06 = k + 1))) ∧
    (∃ (s : State) (k : Nat), k < s.links.length ∧ s.trained k = true) :=
  ⟨⟨linkUp0 (inRegion 0 1), 0, by decide +kernel⟩,
   ⟨linkUp0 (inRegion 0 1), 0, by decide +kernel⟩⟩

theorem witness_ParentsRootsAndPtpLockChange :
    (∃ (s : State) (k : Nat), s.rd 0x1200 0x03 = 3 ∧ s.rd 0x1200 0x06 = 0 ∧ s.actingRoot = false ∧
      s.bestParent (fun j => s.eligible j && (s.time.guardLapsed || decide ((if s.byRegion then (s.link j).nbRegionBound else (s.link
      j).nbRootBound) < s.time.lastAdvertised))) = some k) ∧
    (∃ (s : State) (k b : Nat), s.rd 0x1200 0x03 = 3 ∧ s.rd 0x1200 0x06 = 0 ∧ s.actingRoot = false ∧ s.time.lostAt = some b ∧
      b + 64 ≤ s.beat ∧ s.bestParent s.eligible = some k) ∧
    (∃ (s : State) (b : Nat), s.time.lockLostAt = some b ∧ b + s.rd 0x1202 0x04 ≤ s.beat) ∧
    (∃ (s : State), s.rd 0x1202 0x01 = 1 ∧ s.time.ptpLock = true) ∧
    (∃ (s : State), s.rd 0x1202 0x01 ≠ 1) ∧
    (∃ (s : State) (o : Int), s.rd 0x1202 0x01 = 1 ∧ s.portUp = true ∧ s.time.ptpLock = true ∧ s.time.ptpBad = 15 ∧ 1000 < o.natAbs) ∧
    (∃ (s : State) (o : Int), s.rd 0x1202 0x01 = 1 ∧ s.portUp = true ∧ s.time.ptpLock = true ∧ o.natAbs ≤ 50) :=
  ⟨⟨orphan0 { TimeSt.unlocked with lastAdvertised := 6 }, 0, by decide +kernel⟩,
   ⟨orphan0 { TimeSt.unlocked with lostAt := some 1048512 }, 0, 1048512, by decide +kernel⟩,
   ⟨{ inRegion 0 1 with time := { TimeSt.unlocked with lockLostAt := some (1048576 - 0xee6b3) } }, 1048576 - 0xee6b3, by decide +kernel⟩,
   ⟨{ (inRegion 0 1).put 0x1202 0x01 0 1 with time := { TimeSt.unlocked with ptpLock := true } }, by decide +kernel⟩,
   ⟨inRegion 0 1, by decide +kernel⟩,
   ⟨{ (serving (inRegion 0 1)).put 0x1202 0x01 0 1 with time := { TimeSt.unlocked with ptpLock := true, ptpBad := 15 } }, 1001,
      by decide +kernel⟩,
   ⟨{ (serving (inRegion 0 1)).put 0x1202 0x01 0 1 with time := { TimeSt.unlocked with ptpLock := true } }, -50, by decide +kernel⟩⟩

theorem witness_TheBoundaryTakesPendingValues :
    (∃ (s : State), s.atBoundary = true ∧ s.boot.released = true ∧ s.power.s3 = none ∧ s.boot.recovery = false) ∧
    (∃ (s : State), s.atBoundary = false) :=
  ⟨⟨{ serving (inRegion 0 1) with pend := [(objKey 0x1103 0x01 0, 128)] }, by decide +kernel⟩,
   ⟨atBeat 1048577 (inRegion 0 1), by decide +kernel⟩⟩

theorem witness_AStepStartsAtItsSlot :
    (∃ (s : State) (st : Step), OpenStep s st ∧ s.synced = true ∧ s.inService = true ∧ s.hasRegion = true ∧ s.fab.inDoubt = none ∧
      s.frameStart + s.slot ≤ s.beat ∧ st.frame = s.frameStart ∧ s.isHead = false ∧ st.visible = true ∧ st.started = false) ∧
    (∃ (s : State), s.fab.step = none ∧ s.fab.outs = [] ∧ s.synced = true ∧ s.inService = true ∧ s.isHead = true ∧
      s.fab.inDoubt = none ∧ s.frameStart + s.slot ≤ s.beat ∧ s.blanked s.frameStart = true) ∧
    (∃ (s : State) (a : Allot) (st : Step), OpenStep s st ∧ s.synced = true ∧ s.inService = true ∧ s.hasRegion = true ∧
      s.fab.inDoubt = none ∧ s.frameStart + s.slot ≤ s.beat ∧ st.frame = s.frameStart ∧ s.isHead = false ∧ st.visible = true ∧
      st.started = false ∧ s.canAllot a = true) :=
  ⟨⟨withStep { step0 with frame := 1048576, started := false } ((inRegion 1 1).put 0x1200 0x03 0 2),
      { step0 with frame := 1048576, started := false }, by unfold OpenStep; decide +kernel⟩,
   ⟨{ (inRegion 0 1).put 0x1200 0x03 0 2 with cal := { State.reset.cal with blankUntil := 1048577 } }, by decide +kernel⟩,
   ⟨withStep { step0 with frame := 1048576, started := false } (((inRegion 1 1).put 0x1200 0x03 0 2).put 0x5021 0x03 9 2), ⟨9,
      0x10000, 2⟩, { step0 with frame := 1048576, started := false }, by unfold OpenStep; decide +kernel⟩⟩

theorem witness_TheDriveVectorLeavesOutTheTiers :
    ∃ (s : State) (mat rb token : Nat) (m : MatEntry) (l : LayerEntry), s.mat? mat = some m ∧ s.layerOf? mat = some l ∧
      s.working = true ∧ m.rbFirst ≤ rb ∧ rb < m.rbFirst + m.rbCount ∧ s.drivesMat m token = true ∧ s.tier? mat rb token = none ∧
      m.role = 11 :=
  ⟨stepping Work.none, 3, 0, 0, mat0 11, layer0, by decide +kernel⟩

theorem witness_ArrayReadsAreCheckedAndDelivered :
    (∃ (s : State) (rid : Nat) (r : ReadRec), s.readRec? rid = some r ∧ r.phase = .driven ∧ s.working = true ∧
      s.readable r.arr = true ∧ s.arrayBusy r.arr rid = false) ∧
    (∃ (s : State) (rid : Nat) (r : ReadRec) (o : ReadOut), s.readRec? rid = some r ∧ r.reads = [o] ∧ r.phase = .converted ∧
      s.working = true ∧ checkPasses (goodRefs (s.arr r.arr)) (s.gainAt r.arr) r.tau r.asum r.rprod o.totals o.qsum = true ∧
      12 ≤ (goodRefs (s.arr r.arr)).length ∧ (s.arr r.arr).failed = false ∧ (∀ c, c < 512 → lostCol (s.arr r.arr) c = false)) ∧
    (∃ (s : State) (rid : Nat) (r : ReadRec) (o : ReadOut), s.readRec? rid = some r ∧ r.reads = [o] ∧ r.phase = .converted ∧
      s.working = true ∧ checkPasses (goodRefs (s.arr r.arr)) (s.gainAt r.arr) r.tau r.asum r.rprod o.totals o.qsum = false) ∧
    (∃ (s : State) (rid : Nat) (r : ReadRec), s.readRec? rid = some r ∧ r.phase = .repeating ∧ r.reads.length = 1 + r.repeats ∧
      s.working = true) ∧
    (∃ (s : State) (a : Nat), (s.arr a).idleUntil ≠ 0 ∧ (s.arr a).idleUntil ≤ s.count.toNat) :=
  ⟨⟨stepping { Work.none with reads := [read0 .driven] }, 1, read0 .driven, by decide +kernel⟩,
   ⟨stepping { Work.none with reads := [{ read0 .converted with reads := [default] }] }, 1,
      { read0 .converted with reads := [default] }, default, by decide +kernel⟩,
   ⟨stepping { Work.none with reads := [{ read0 .converted with reads := [default], rprod := [1] }] }, 1,
      { read0 .converted with reads := [default], rprod := [1] }, default, by decide +kernel⟩,
   ⟨stepping { Work.none with reads := [{ read0 .repeating with reads := [default, default, default, default], repeats := 3 }] }, 1,
      { read0 .repeating with reads := [default, default, default, default], repeats := 3 }, by decide +kernel⟩,
   ⟨(inRegion 1 1).modArr 0 fun x => { x with idleUntil := 1073741824 }, 0, by decide +kernel⟩⟩

theorem witness_TheStripTreeFormsBlocks :
    ∃ (s : State) (mat token cb die p : Nat) (rbs : List Nat) (m : MatEntry), s.mat? mat = some m ∧ s.working = true ∧
      s.passes mat cb m = [(p, some die, rbs)] ∧ (stripsOf m.k)[0]? = some (0, rbs.length) ∧ p < rbs.length ∧
      (((s.arraysAt mat cb).filter fun x => rbs.contains x.2.rb).filterMap fun x => (s.delivered x.1 token).map fun r => (x.2.rb,
      r)).length = rbs.length ∧ (∀ r ∈ s.work.reads, ∀ v ∈ r.leaf, v.natAbs ≤ 870400) ∧ (∀ b ∈ s.work.merged, ¬(b.mat = mat ∧
      b.token = token ∧ b.block / 16 = cb)) :=
  ⟨stepping { Work.none with reads := [{ read0 .done with leaf := [870400, -870400] }] }, 0, 0, 0, 0, 0, [0], mat0 0, by decide +kernel⟩

theorem witness_PassesMergeInOrder :
    (∃ (s : State) (mat token block : Nat) (m : MatEntry) (v : List Int) (f : Nat), s.mat? mat = some m ∧ s.working = true ∧
      2 ≤ (s.passes mat (block / 16) m).length ∧ (∀ b ∈ s.work.merged, ¬(b.mat = mat ∧ b.token = token ∧ b.block = block)) ∧
      s.passBlock mat token block 0 = some (v, f)) ∧
    (∃ (s : State) (mat token block n : Nat) (m : MatEntry) (b : Block) (v : List Int) (f : Nat), s.mat? mat = some m ∧
      s.working = true ∧ (s.passes mat (block / 16) m).length = n + 1 ∧ 1 ≤ n ∧ s.work.merged = [b] ∧ b.mat = mat ∧ b.token = token ∧
      b.block = block ∧ b.form = 1 ∧ b.pass = n ∧ s.passBlock mat token block n = some (v, f)) ∧
    (∃ (s : State) (slot planned : Nat) (tr : Tier) (m : MatEntry), s.work.tiers = [tr] ∧ s.slotOfMat tr.mat = slot ∧
      tr.secondDone = false ∧ s.mat? tr.mat = some m ∧ s.working = true ∧
      ceilDiv (tr.second.length * m.n) 1024 ≤ planned * s.work.snap.reserveClock * 12 / 100000) :=
  ⟨⟨steppingOn mat2 { Work.none with blocks := [block0 1 0] }, 0, 0, 0, mat2, List.replicate 32 1, 0, by decide +kernel⟩,
   ⟨steppingOn mat2 { Work.none with blocks := [block0 1 1], merged := [block0 1 1] }, 0, 0, 0, 1, mat2, block0 1 1,
      List.replicate 32 1, 0, by decide +kernel⟩,
   ⟨stepping { Work.none with tiers := [{ tier0 with secondDone := false }] }, 3, 17, { tier0 with secondDone := false }, mat0 0,
      by decide +kernel⟩⟩

theorem witness_ABlockMergesIntoItsOutputs :
    (∃ (s : State) (mat token block : Nat) (m : MatEntry) (l : LayerEntry) (b : Block), s.mat? mat = some m ∧
      s.layerOf? mat = some l ∧ s.working = true ∧ m.role = 0 ∧ m.red % 8 = 0 ∧
      s.work.merged.find? (fun b => b.mat = mat && b.token = token && b.block = block && b.form = 0) = some b ∧ (∀ i, i < m.rbCount →
      ∃ tr, s.tier? mat (m.rbFirst + i) token = some tr ∧ tr.secondDone = true) ∧ s.out? mat token block = none) ∧
    (∃ (s t : State) (mat token block page : Nat) (m : MatEntry) (l : LayerEntry) (ln : LenEntry) (a : Nat), s.mat? mat = some m ∧
      s.layerOf? mat = some l ∧ l.kind = 1 ∧ (m.role = 1 ∨ m.role = 2) ∧ s.lineOf token = some ln ∧
      backedPage (s.entry ln.req) (laneOf s.image l (m.role = 2) (32 * block / l.headDim)) (positionOf ln token / s.kvT) = some page ∧
      exec (.blockMerge mat token block .clean) s = .next t ∧ (let off := 32 * block % l.headDim;
        let data := page * 65536 + 256 + positionOf ln token % s.kvT * s.kvData l.headDim + off / 32 *
          (if s.rd 0x6000 0x01 = 0 then 16 else 32);
        let scale := page * 65536 + 256 + s.kvT * s.kvData l.headDim + 
          positionOf ln token % s.kvT * kvScales l.headDim + off / 32;
        a ≠ scale ∧ (a < data ∨ data + 32 ≤ a))) :=
  ⟨⟨stepping { Work.none with tiers := [tier0], merged := [block0 0 0] }, 0, 0, 0, mat0 0, layer0, block0 0 0, by decide +kernel,
      by decide +kernel, by decide +kernel, by decide +kernel, by decide +kernel, by decide +kernel, (by
      intro i hi; obtain rfl : i = 0 := by change i < 1 at hi; omega
      exact ⟨tier0, by decide +kernel, rfl⟩), by decide +kernel⟩,
   ⟨stepping Work.none, _, 1, 0, 0, 5, mat0 1, layer0, line0, 0, by decide +kernel, by decide +kernel, by decide +kernel,
      by decide +kernel, by decide +kernel, by decide +kernel, by rfl, by decide +kernel⟩⟩

theorem witness_TheRowReductionRecordIsStored :
    ∃ (s : State) (mat token : Nat) (m : MatEntry), s.mat? mat = some m ∧ s.working = true ∧ m.red % 8 = 1 ∧
      outBlocks m.n ≤ (s.rowRed mat token).next :=
  ⟨steppingOn matRed { Work.none with rows := [⟨0, 0, 1, 0#32, 0, 0#32, 0, 0⟩] }, 0, 0, matRed, by decide +kernel⟩

theorem witness_AttentionRunsSpanBySpan :
    (∃ (s : State) (slot token head span qmat : Nat) (l : LayerEntry) (ln : LenEntry), s.layer? slot = some l ∧
      s.lineOf token = some ln ∧ s.matOf l 0 0xFF = some qmat ∧ s.working = true ∧ 2048 * span < visibleEnd l ln token ∧
      head < l.heads ∧ (∀ x ∈ s.work.spans, ¬(x.slot = slot ∧ x.token = token ∧ x.head = head ∧ x.span = span)) ∧
      s.rowDone qmat token = true ∧ s.kvWritten l ln = true ∧ (∀ lane c,
      headerOk s ((backedPage (s.entry ln.req) lane c).getD 0) ln.req lane c = true ∨ (lane ≠ laneOf s.image l false (kvHeadOf l
      head) ∧ lane ≠ laneOf s.image l true (kvHeadOf l head)) ∨ visibleEnd l ln token ≤ c * s.kvT)) ∧
    (∃ (s : State) (slot token head : Nat) (l : LayerEntry) (ln : LenEntry) (x : SpanOut), s.layer? slot = some l ∧
      s.lineOf token = some ln ∧ s.working = true ∧ ceilDiv (visibleEnd l ln token) 2048 = 1 ∧ s.work.spans = [x] ∧ x.slot = slot ∧
      x.token = token ∧ x.head = head ∧ x.span = 0 ∧ s.work.attn = []) :=
  ⟨⟨attending, 3, 0, 0, 0, 0, layer0, line0, by decide +kernel, by decide +kernel, by decide +kernel, by decide +kernel,
      by decide +kernel, by decide +kernel, by decide +kernel, by decide +kernel, by decide +kernel, (by
      intro lane c
      by_cases hc : c = 0
      · subst hc
        by_cases h0 : lane = 0
        · subst h0; exact .inl (by decide +kernel)
        · by_cases h1 : lane = 1
          · subst h1; exact .inl (by decide +kernel)
          · exact .inr (.inl ⟨h0, h1⟩)
      · refine .inr (.inr ?_)
        have h : (5 : Nat) ≤ 1 * attending.kvT := by decide +kernel
        exact h.trans (Nat.mul_le_mul_right _ (by omega)))⟩,
   ⟨stepping { Work.none with spans := [⟨3, 0, 0, 0, 0#32, 0#32, []⟩] }, 3, 0, 0, layer0, line0, ⟨3, 0, 0, 0, 0#32, 0#32, []⟩,
      by decide +kernel⟩⟩

theorem witness_TheMonitorSamplesAndJudges :
    (∃ (s : State) (rid pass strip : Nat) (d : SampleDue) (r : ReadRec) (m : MatEntry) (rbs : List Nat) (b : Block),
      s.work.samplesDue = [d] ∧ d.rid = rid ∧ s.readRec? rid = some r ∧ s.mat? r.mat = some m ∧ samplePart s r m = some (pass, rbs,
      true, strip) ∧ s.work.merged.find? (fun b => b.mat = r.mat && b.token = r.token && b.block = d.block && b.form = 0) = some b ∧
      s.samples.length < 64) ∧
    (∃ (s : State) (x : Sample) (rest : List Sample), s.samples = x :: rest ∧ x.digest ≠ s.image.digest) ∧
    (∃ (s : State) (x : Sample) (rest : List Sample) (m : MatEntry) (j : Nat), s.samples = x :: rest ∧ x.digest = s.image.digest ∧
      s.img.isSome = true ∧ s.mat? x.mat = some m ∧ noVerdict x.flags = false ∧ j < x.vals.length ∧ x.slot < 256 ∧
      0 < (sampleDiff s x m j).2.1) :=
  ⟨⟨stepping { Work.none with reads := [read0 .done], merged := [block0 0 0], samplesDue := [⟨1, 0, 0, 0⟩] }, 1, 0, 0, ⟨1, 0, 0, 0⟩,
      read0 .done, mat0 0, [0], block0 0 0, by decide +kernel⟩,
   ⟨{ stepping Work.none with samples := [{ sample0 with digest := [] }] }, { sample0 with digest := [] }, [], by decide +kernel⟩,
   ⟨{ stepping Work.none with samples := [sample0] }, sample0, [], mat0 0, 0, by decide +kernel⟩⟩

theorem witness_ContextsAreResetAndMemoryIsScrubbed :
    (∃ (s : State) (g : Nat), s.granZero.contains g = true) ∧
    (∃ (s : State) (b : Buf), s.bufs.find? (fun x => x.ctx = b.ctx && x.base = b.base) = some b ∧ b.live + 16 * s.frameLen ≤ s.beat) ∧
    (∃ (r : DictReq) (data : Bytes) (s : State), ByOperator r s ∧ NotBusy r s 0x7003 0x02 ∧ data.length = 2 ∧ beNat data ≤ 1023 ∧
      s.isHead = true) ∧
    (∃ (s : State) (m : SchedMsg) (q : Nat), DueNow s m ∧ m.cmd = 7 ∧ KeepsEntries s ∧ 1 ≤ (s.entry q).state ∧ (s.entry q).state ≤ 4 ∧
      (s.entry q).context = m.target) ∧
    (∃ (s : State) (a : Nat), s.pool.used.contains (a / 65536) = true) :=
  ⟨⟨{ inRegion 0 1 with granZero := [3] }, 3, by decide +kernel⟩,
   ⟨{ inRegion 0 1 with bufs := [{ buffer0 9 with live := 1044480 }] }, { buffer0 9 with live := 1044480 }, by decide +kernel⟩,
   ⟨request0, beBytes 2 1023, serving (inRegion 0 1), by unfold ByOperator Served NotBusy; decide +kernel⟩,
   ⟨due (sched0 7 9) { inRegion 1 0 with table := [(7, entry0 3)] }, sched0 7 9, 7, by unfold DueNow KeepsEntries; decide +kernel⟩,
   ⟨{ inRegion 0 1 with pool := ⟨[0x100000, 0x280000], [16, 16], [5], [], [], [], []⟩ }, 5 * 65536 + 65535, by decide +kernel⟩⟩

theorem witness_HousekeepingRoundsAreJudged :
    (∃ (s : State), s.boot.released = true ∧ s.power.s3 = none ∧ s.beat % 1953 = 0) ∧
    (∃ (s : State) (h : HkRound) (b : Nat), s.hk.start = some b ∧ b + 1947 ≤ s.beat ∧ s.power.s3 = none ∧ maxJunction h s < 11500) ∧
    (∃ (s : State) (h : HkRound) (b : Nat), s.hk.start = some b ∧ b + 1947 ≤ s.beat ∧ s.power.s3 = none ∧ 11500 ≤ maxJunction h s) :=
  ⟨⟨atBeat 1048761 (serving (inRegion 0 1)), by decide +kernel⟩,
   ⟨{ serving (inRegion 0 1) with hk := { State.reset.hk with start := some 1046629 } }, default, 1046629, by decide +kernel⟩,
   ⟨{ serving (inRegion 0 1) with hk := { State.reset.hk with start := some 1046629 } }, hotRound, 1046629, by decide +kernel⟩⟩

theorem witness_ShutdownsHoldTheDevice :
    (∃ (s : State), s.power.s3 = none) ∧
    (∃ (s : State) (b : Nat), s.power.s3 = some (8, b) ∧ b + 976563 ≤ s.beat) ∧
    (∃ (s : State) (rail : Nat), s.power.s3 = none ∧ 1 ≤ rail ∧ rail ≤ 15) ∧
    (∃ (s : State) (b : Nat), s.power.s3 = some (9, b) ∧ b + 976563 ≤ s.beat) ∧
    (∃ (s : State), s.power.s3 = none) ∧
    (∃ (s : State), s.portUp = true) :=
  ⟨⟨inRegion 0 1, by decide +kernel⟩,
   ⟨{ inRegion 0 1 with power := { Power.inReset with s3 := some (8, 72013) } }, 72013, by decide +kernel⟩,
   ⟨inRegion 0 1, 15, by decide +kernel⟩,
   ⟨{ inRegion 0 1 with power := { Power.inReset with s3 := some (9, 72013) } }, 72013, by decide +kernel⟩,
   ⟨inRegion 0 1, by decide +kernel⟩,
   ⟨serving (inRegion 0 1), by decide +kernel⟩⟩

theorem witness_CalibrationWindowsMeasureAndTrim :
    (∃ (s : State) (w : CalWin), s.nextWindow = some w ∧ w.test = none) ∧
    (∃ (s : State) (w : CalWin) (a adc range : Nat), s.inWindowAt 16 = some w ∧ w.full = true ∧ dieOf a = w.die ∧ adc < 70 ∧
      range < 4 ∧ s.cal.trimmed = false) ∧
    (∃ (s : State) (w : CalWin) (a : Nat), s.inWindowAt 144 = some w ∧ w.full = true ∧ dieOf a = w.die ∧ s.cal.trimmed = false) ∧
    (∃ (s : State) (w : CalWin) (a : Nat) (pl : Place), s.inWindowAt 176 = some w ∧ w.full = true ∧ s.cal.trimmed = false ∧
      (s.inServiceOn w.die).find? (fun x => x.1 = a) = some (a, pl) ∧ (∀ y ∈ s.cal.colGains, y.1 / 560 ≠ a)) ∧
    (∃ (s : State) (w : CalWin), s.inWindowAt 1200 = some w ∧ w.full = true ∧ s.cal.trimmed = false ∧ w.die < s.dies.length) ∧
    (∃ (s : State) (w : CalWin), s.cal.current = some w ∧ w.test = none ∧ w.full = false ∧ w.start ≤ s.beat ∧ s.cal.readBy = [] ∧
      s.loadState ≠ 3 ∧ s.load.moves = []) ∧
    (∃ (s : State) (w : CalWin), s.cal.current = some w ∧ w.test = none ∧ w.answer = none ∧ w.die < 8 ∧ w.start + w.beats ≤ s.beat ∧
      s.dies.length = 8) :=
  ⟨⟨{ serving (inRegion 0 1) with cal := { State.reset.cal with waiting := [window0 true 0] } }, window0 true 0, by decide +kernel⟩,
   ⟨measuring (window0 true 1048560), window0 true 1048560, 4223, 69, 3, by decide +kernel⟩,
   ⟨measuring (window0 true 1048432), window0 true 1048432, 0, by decide +kernel⟩,
   ⟨measuring (window0 true 1048400), window0 true 1048400, 0, place0 0, by decide +kernel⟩,
   ⟨measuring (window0 true 1047376), window0 true 1047376, by decide +kernel⟩,
   ⟨measuring (window0 false 1048576), window0 false 1048576, by decide +kernel⟩,
   ⟨measuring (window0 false 1048528), window0 false 1048528, by decide +kernel⟩⟩

theorem witness_LoadsStartVerifyAndPlace :
    (∃ (r : DictReq) (b : Byte) (s : State), ByOperator r s ∧ NotBusy r s 0x4000 0x10 ∧ b = 1#8 ∧ s.loading = false ∧
      s.requestsHold = false ∧ s.controllerNamed = true) ∧
    (∃ (r : DictReq) (b : Byte) (s : State), ByOperator r s ∧ NotBusy r s 0x4000 0x10 ∧ b = 1#8 ∧ s.loading = false ∧
      s.requestsHold = true) ∧
    (∃ (r : DictReq) (b : Byte) (s : State), ByOperator r s ∧ NotBusy r s 0x4000 0x10 ∧ b = 2#8 ∧ s.loading = true) ∧
    (∃ (s : State) (manifest : Bytes) (h : ManifestHead), s.loadState = 1 ∧ s.load.next = none ∧ parseHead manifest = some h) ∧
    (∃ (s : State) (img : Image) (plan : List (Nat × Place)), s.load.next = some img ∧ s.loadState = 1 ∧ s.listsWhole = true ∧
      expertMapOk img (s.load.lists ++ s.ownLists img) = true ∧ loadPlan img s = some plan) ∧
    (∃ (r : DictReq) (s : State), ByOperator r s ∧ NotBusy r s 0x4004 0x0A) :=
  ⟨⟨request0, 1#8, ((serving (inRegion 0 1)).putOct 0x4000 0x01 0 [1#8]).putOct 0x4000 0x03 0 [1#8],
      by unfold ByOperator Served NotBusy; decide +kernel⟩,
   ⟨request0, 1#8, { serving (inRegion 0 1) with table := [(7, entry0 1)] }, by unfold ByOperator Served NotBusy; decide +kernel⟩,
   ⟨request0, 2#8, (serving (inRegion 0 1)).put 0x4000 0x11 0 3, by unfold ByOperator Served NotBusy; decide +kernel⟩,
   ⟨(inRegion 0 1).put 0x4000 0x11 0 1, manifest0, ⟨4, 77, 2, 1, [1, 1, 1], 0⟩, by decide +kernel⟩,
   ⟨load0 1, image0, [], by decide +kernel⟩,
   ⟨request0, serving (inRegion 0 1), by unfold ByOperator Served NotBusy; decide +kernel⟩⟩

theorem witness_SectionsAreFetched :
    (∃ (s : State), s.fetching = true) ∧
    (∃ (s : State) (k : Nat), s.fetching = true ∧ s.load.retriesLeft = k + 1) ∧
    (∃ (s : State), s.loadState = 1 ∧ s.load.refetch = none ∧ s.load.retriesLeft = 0) ∧
    (∃ (s : State), s.fetching = true ∧ s.load.reconnects = 3) ∧
    (∃ (s : State), s.fetching = true) ∧
    (∃ (s : State) (img : Image) (e : SectionEntry) (sec : Nat), s.load.next = some img ∧ s.loadState = 2 ∧
      s.load.toFetch.contains sec = true ∧ img.sections[sec]? = some e) ∧
    (∃ (s : State) (x : Nat × Nat), s.load.refetch = some x ∧ s.fab.step = none) :=
  ⟨⟨load0 1, by decide +kernel⟩,
   ⟨load0 2, 1, by decide +kernel⟩,
   ⟨{ load0 1 with load := { (load0 1).load with retriesLeft := 0 } }, by decide +kernel⟩,
   ⟨load0 1, by decide +kernel⟩,
   ⟨load0 1, by decide +kernel⟩,
   ⟨{ load0 2 with load := { (load0 2).load with next := some { image0 with sections := [default] }, toFetch := [0] } },
      { image0 with sections := [default] }, default, 0, by decide +kernel⟩,
   ⟨{ load0 4 with load := { (load0 4).load with refetch := some (0, 0) } }, (0, 0), by decide +kernel⟩⟩

theorem witness_ArraysAreProgrammedAndVerified :
    (∃ (s : State) (a : Nat), s.awaitsProgram a = true ∧ (s.arr a).prog = none ∧ s.dieCanProgram (dieOf a) = true ∧
      s.programming (dieOf a) < (if s.loadPrograms then s.rd 0x4004 0x01 else s.rd 0x4004 0x02) ∧ s.hk.vppHold = false) ∧
    (∃ (s : State) (a row col : Nat) (op : ProgOp) (pl : Place), (s.arr a).prog = some op ∧ s.targetPlace a = some pl ∧ col < 560 ∧
      row < 1024 ∧ (sget PairOp.fresh (1024 * col + row) op.pairs).closed = false ∧
      (sget PairOp.fresh (1024 * col + row) op.pairs).failed = false ∧ s.dieCanProgram (dieOf a) = true) ∧
    (∃ (s : State) (a row col : Nat) (op : ProgOp) (pl : Place), (s.arr a).prog = some op ∧ s.targetPlace a = some pl ∧ col < 560 ∧
      row < 1024 ∧ (sget PairOp.fresh (1024 * col + row) op.pairs).closed = false ∧
      (sget PairOp.fresh (1024 * col + row) op.pairs).total = 63 ∧ targetLevel s.sourceImage (s.arr a) pl col row ≠ 0 ∧
      s.dieCanProgram (dieOf a) = true) ∧
    (∃ (s : State) (a : Nat) (noise : List Nat) (op : ProgOp) (pl : Place), (s.arr a).prog = some op ∧ s.targetPlace a = some pl ∧
      (∀ x ∈ op.pairs, x.2.closed = true ∧ x.2.failed = false) ∧ (∀ l, l < 512 → lostCol (mapColumns (s.arr a) [] noise) l = false)) ∧
    (∃ (s : State) (a : Nat) (op : ProgOp) (pl : Place), (s.arr a).prog = some op ∧ s.targetPlace a = some pl ∧
      op.start + 5200000000 ≤ s.count.toNat ∧ (∀ y ∈ s.load.plan, y.1 ≠ a)) :=
  ⟨⟨programming0 none, 0, by decide +kernel⟩,
   ⟨programming0 (some (prog0 0 PairOp.fresh)), 0, 1023, 559, prog0 0 PairOp.fresh, place0 0, by decide +kernel⟩,
   ⟨programming0 (some (prog0 0 { PairOp.fresh with total := 63 })), 0, 0, 0, prog0 0 { PairOp.fresh with total := 63 }, place0 0,
      by decide +kernel⟩,
   ⟨programming0 (some (prog0 0 { PairOp.fresh with closed := true })), 0, [], prog0 0 { PairOp.fresh with closed := true }, place0 0,
      by decide +kernel⟩,
   ⟨capped, 1, prog0 0 PairOp.fresh, place0 0, by decide +kernel⟩⟩

theorem witness_DescriptorsRunFromQueueToCompletion :
    (∃ (r : DictReq) (data : Bytes) (s : State), ByOperator r s ∧ NotBusy r s 0x3210 0x01 ∧ data.length = 32 ∧
      (s.engine (s.rd 0x3210 0x02)).queue.length < 64) ∧
    (∃ (r : DictReq) (data : Bytes) (s : State), ByOperator r s ∧ NotBusy r s 0x3210 0x01 ∧ data.length = 32 ∧
      64 ≤ (s.engine (s.rd 0x3210 0x02)).queue.length) ∧
    (∃ (s : State) (n : Nat) (d : Desc) (rest : List Desc), (s.engine n).queue = d :: rest ∧ (s.engine n).running.length < 8 ∧
      (d.fence = true → (s.engine n).running = []) ∧ n < 16) ∧
    (∃ (s : State) (n seq k : Nat) (r : DescRun), s.run? n seq = some r ∧ complete r = true ∧ r.d.complEn = true ∧
      s.looped r.d.compl = false ∧ rangeOf r.d.compl 16 = some k ∧ farStaging n k = false ∧ n < 16) ∧
    (∃ (s : State) (n seq : Nat) (r : DescRun), s.run? n seq = some r ∧ complete r = true ∧ r.d.complEn = false) ∧
    (∃ (s : State) (n seq : Nat) (r : DescRun), MovesNow s n seq r ∧ r.d.op = 2 ∧ 1 ≤ r.d.length ∧ r.d.length ≤ 4096) ∧
    (∃ (s : State) (n seq : Nat) (r : DescRun), MovesNow s n seq r ∧ r.d.op = 3 ∧ r.d.rows = 1) ∧
    (∃ (s : State) (a : AnswerMsg) (r : DescRun), s.run? a.engine a.seq = some r ∧ awaits r = true ∧ r.status = none) ∧
    (∃ (s : State) (n seq : Nat) (r : DescRun), s.run? n seq = some r ∧ awaits r = true ∧ r.lastIssue + 64 ≤ s.beat) :=
  ⟨⟨request0, zeros 32, (serving (inRegion 0 1)).modEngine 0 fun e => { e with queue := List.replicate 63 (desc0 0 64 1) },
      by unfold ByOperator Served NotBusy; decide +kernel⟩,
   ⟨request0, zeros 32, (serving (inRegion 0 1)).modEngine 0 fun e => { e with queue := List.replicate 64 (desc0 0 64 1) },
      by unfold ByOperator Served NotBusy; decide +kernel⟩,
   ⟨(inRegion 0 1).modEngine 15 fun e => { e with queue := [desc0 0 64 1], running := List.replicate 7 (run0 (desc0 0 64 1)) }, 15,
      desc0 0 64 1, [], by decide +kernel⟩,
   ⟨moving { run0 { desc0 0 64 1 with complEn := true } with status := some 0 }, 0, 0, 1,
      { run0 { desc0 0 64 1 with complEn := true } with status := some 0 }, by decide +kernel⟩,
   ⟨moving { run0 (desc0 0 64 1) with status := some 0 }, 0, 0, { run0 (desc0 0 64 1) with status := some 0 }, by decide +kernel⟩,
   ⟨moving (run0 (desc0 2 4096 1)), 0, 0, run0 (desc0 2 4096 1), by unfold MovesNow; decide +kernel⟩,
   ⟨moving (run0 (desc0 3 64 1)), 0, 0, run0 (desc0 3 64 1), by unfold MovesNow; decide +kernel⟩,
   ⟨moving { run0 (desc0 2 64 1) with unanswered := 1 }, ⟨0, 0, 0, 64⟩, { run0 (desc0 2 64 1) with unanswered := 1 }, by decide +kernel⟩,
   ⟨moving { run0 (desc0 2 64 1) with unanswered := 1, lastIssue := 1048512 }, 0, 0,
      { run0 (desc0 2 64 1) with unanswered := 1, lastIssue := 1048512 }, by decide +kernel⟩⟩

theorem witness_LocalTransfersMoveTheirRows :
    (∃ (s : State) (n seq : Nat) (r : DescRun), MovesNow s n seq r ∧ r.d.op = 0 ∧ r.d.transpose = false) ∧
    (∃ (s : State) (n seq k : Nat) (r : DescRun), MovesNow s n seq r ∧ r.d.op = 0 ∧ r.d.transpose = true ∧ r.d.length = 32 ∧
      r.d.rows = 32 * k) ∧
    (∃ (s : State) (n seq : Nat) (r : DescRun), MovesNow s n seq r ∧ r.d.op = 1) ∧
    (∃ (s : State) (n seq : Nat) (r : DescRun) (p : ParityErr), MovesNow s n seq r ∧ r.d.op = 1 ∧ 1 ≤ p.detector ∧ p.detector ≤ 3) :=
  ⟨⟨moving (run0 (desc0 0 64 2)), 0, 0, run0 (desc0 0 64 2), by unfold MovesNow; decide +kernel⟩,
   ⟨moving (run0 { desc0 0 32 32 with transpose := true }), 0, 0, 1, run0 { desc0 0 32 32 with transpose := true },
      by unfold MovesNow; decide +kernel⟩,
   ⟨moving (run0 (desc0 1 64 2)), 0, 0, run0 (desc0 1 64 2), by unfold MovesNow; decide +kernel⟩,
   ⟨moving (run0 (desc0 1 64 2)), 0, 0, run0 (desc0 1 64 2), ⟨0, 3, 0, 0, false⟩, by unfold MovesNow; decide +kernel⟩⟩

theorem witness_WindowsOpenDrainAndFree :
    (∃ (r : DictReq) (data : Bytes) (s : State) (w : Nat), ByOperator r s ∧ NotBusy r s 0x3203 0x01 ∧ data.length = 64 ∧
      windowReason .operator (parseWinReq data) s = 0 ∧ s.freeSlot = some w) ∧
    (∃ (r : DictReq) (data : Bytes) (s : State), ByOperator r s ∧ NotBusy r s 0x3203 0x01 ∧ data.length = 64 ∧
      windowReason .operator (parseWinReq data) s ≠ 0) ∧
    (∃ (r : DictReq) (data : Bytes) (s : State), ByOperator r s ∧ NotBusy r s 0x3203 0x02 ∧ data.length = 2 ∧
      beNat data / 128 % 2 = 0 ∧ (s.win (beNat data % 128)).gen = beNat data / 256 ∧ (s.win (beNat data % 128)).state = 1) ∧
    (∃ (s : State) (w : Nat), (s.win w).state = 1 ∧ (s.win w).expiry ≤ s.beat) ∧
    (∃ (s : State) (w : Nat), (s.win w).state = 2 ∧ (s.win w).close + (s.win w).drain + 1 ≤ s.beat) ∧
    (∃ (r : DictReq) (w : Nat) (data : Bytes) (s : State), ByOperator r s ∧ NotBusy r s (0x3280 + w) 0x06 ∧ w < 128 ∧
      data.length = 8 ∧ (s.win w).state = 1 ∧ (s.win w).expiry < beNat data ∧ s.beat < (s.win w).expiry) :=
  ⟨⟨request0, winReq0, { serving (inRegion 0 1) with bufs := [buffer0 9] }, 0, by unfold ByOperator Served NotBusy; decide +kernel⟩,
   ⟨request0, winReq0, serving (inRegion 0 1), by unfold ByOperator Served NotBusy; decide +kernel⟩,
   ⟨request0, beBytes 2 261, windowed 1 1048640, by unfold ByOperator Served NotBusy; decide +kernel⟩,
   ⟨windowed 1 1048576, 5, by decide +kernel⟩,
   ⟨windowed 2 1048575, 5, by decide +kernel⟩,
   ⟨request0, 5, beBytes 8 1048578, windowed 1 1048577, by unfold ByOperator Served NotBusy; decide +kernel⟩⟩

theorem witness_WritesAndMessagesArrive :
    (∃ (s : State) (m : RWrite), writeStatus m s = 0) ∧
    (∃ (s : State) (m : RWrite), writeStatus m s ≠ 0) ∧
    (∃ (s : State) (m : MsgIn) (base len : Nat), s.msgRing m.context = some (base, len) ∧ 1 ≤ m.data.length ∧ m.data.length ≤ 4096 ∧
      s.ringWord base 0 % (len - 64) + recordBytes m.data.length ≤ len - 64 ∧
      (s.ringWord base 0 + 0x100000000 - s.ringWord base 4) % 0x100000000 + recordBytes m.data.length ≤ len - 64) ∧
    (∃ (s : State) (m : MsgIn), s.msgRing m.context = none) ∧
    (∃ (r : DictReq) (data : Bytes) (s : State), ByOperator r s ∧ NotBusy r s 0x5021 0x04 ∧ data.length = 8 ∧ beNat data ≠ 0 ∧
      s.inOneBuffer (instOf s r.session 0x5021 0x04) (beNat data) 1 = true ∧ s.rdI 0x5021 0x05 (instOf s r.session 0x5021 0x04) ≠ 0 ∧
      s.inOneBuffer (instOf s r.session 0x5021 0x04) (beNat data) (s.rdI 0x5021 0x05 (instOf s r.session 0x5021 0x04)) = true) :=
  ⟨⟨windowed 1 1048640, ⟨0, 261, 56, 0, 0, 0, zeros 8⟩, by decide +kernel⟩,
   ⟨windowed 1 1048640, ⟨0, 261, 57, 0, 0, 0, zeros 8⟩, by decide +kernel⟩,
   ⟨messaged 9, ⟨1, 9, 0, 0, zeros 4016⟩, 0x10000000, 4096, by decide +kernel⟩,
   ⟨inRegion 0 1, ⟨1, 9, 0, 0, [1#8]⟩, by decide +kernel⟩,
   ⟨request0, beBytes 8 0x10000000, serving (messaged 0), by unfold ByOperator Served NotBusy; decide +kernel⟩⟩

theorem witness_LinksTrainReplayAndGoDown :
    (∃ (s : State) (k : Nat), s.linkState k = 0 ∧ s.canTrain k = true ∧ (s.link k).retryAt = none ∧ s.rd (0x7F10 + k) 0x01 = 0 ∧
      s.links.length = 6) ∧
    (∃ (s : State) (k : Nat), s.linkState k = 1 ∧ (s.link k).converged = false ∧ k < 6 ∧ s.links.length = 6) ∧
    (∃ (s : State) (k : Nat), s.linkState k = 1 ∧ (s.link k).converged = false ∧ (s.link k).attempt = 0 ∧
      (s.link k).trainStart + 100000000 ≤ s.count.toNat) ∧
    (∃ (s : State) (k : Nat), s.linkState k = 1 ∧ (s.link k).converged = false ∧ (s.link k).attempt = 1 ∧ k < 6 ∧ s.links.length = 6 ∧
      (s.link k).trainStart + 100000000 ≤ s.count.toNat) ∧
    (∃ (s : State) (k at_ : Nat), (s.link k).retryAt = some at_ ∧ s.linkState k = 0 ∧ s.canTrain k = true ∧ at_ ≤ s.count.toNat ∧
      s.links.length = 6) ∧
    (∃ (s : State) (k : Nat), s.linkState k = 1 ∧ (s.link k).converged = true ∧ k < 6) ∧
    (∃ (s : State) (k : Nat) (f : Flit), s.trained k = true ∧ s.rd (0x7F10 + k) 0x01 = 0 ∧ f.good = false) ∧
    (∃ (s : State) (k : Nat) (f : Flit), s.linkState k = 2 ∧ k < 6 ∧ s.rd (0x7F10 + k) 0x01 = 0 ∧ s.links.length = 6 ∧ f.good = true ∧
      f.ltype = 1 ∧ f.lseq = (s.link k).rxSeq ∧ f.mc = false ∧ f.ptype = 0x60 ∧ f.vc = 6 ∧ f.dst = s.pos ∧ f.last = true ∧
      (s.link k).waiting = []) ∧
    (∃ (s : State) (k : Nat), s.trained k = true ∧ s.rd (0x7F10 + k) 0x01 = 0 ∧ (∀ x ∈ (s.link k).replay, x.2 < 15)) ∧
    (∃ (s : State) (k lane : Nat), s.trained k = true ∧ k < 6 ∧ lane < 16 ∧ s.links.length = 6) ∧
    (∃ (s : State) (k : Nat), s.trained k = true ∧ k < 6 ∧ s.links.length = 6) ∧
    (∃ (s : State) (k : Nat) (c : Nat × Nat), c ∈ (s.link k).creditsUsed ∧ c.2 + 65536 ≤ s.beat ∧ k < 6) :=
  ⟨⟨enabled0 Link.down, 5, by decide +kernel⟩,
   ⟨linked 1 Link.down, 5, by decide +kernel⟩,
   ⟨linked 1 { Link.down with trainStart := 973741824 }, 5, by decide +kernel⟩,
   ⟨linked 1 { Link.down with attempt := 1, trainStart := 973741824 }, 5, by decide +kernel⟩,
   ⟨enabled0 { Link.down with retryAt := some 1073741824 }, 5, 1073741824, by decide +kernel⟩,
   ⟨linked 1 { Link.down with converged := true }, 5, by decide +kernel⟩,
   ⟨linked 2 Link.down, 5, default, by decide +kernel⟩,
   ⟨linked 2 Link.down, 5, { (default : Flit) with good := true, ltype := 1, ptype := 0x60, vc := 6, last := true }, by decide +kernel⟩,
   ⟨linked 2 { Link.down with replay := [(default, 14)] }, 5, by decide +kernel⟩,
   ⟨linked 2 Link.down, 5, 15, by decide +kernel⟩,
   ⟨linked 3 Link.down, 5, by decide +kernel⟩,
   ⟨linked 2 { Link.down with creditsUsed := [(0, 983040)] }, 5, (0, 983040), by decide +kernel⟩⟩

theorem witness_RegionsBypassesAndTheManagementChannel :
    (∃ (s : State) (member : Nat), s.hasRegion = true ∧ s.inBox member = true) ∧
    (∃ (s : State) (id dst : Nat) (fields : List Nat), (id, dst, fields) ∈ s.fab.vc7) ∧
    (∃ (s : State) (id dst due : Nat) (fields : List Nat), s.fab.vc7Resend = [(id, due)] ∧ due ≤ s.beat ∧
      s.fab.vc7.find? (fun p => p.1 = id) = some (id, dst, fields)) ∧
    (∃ (r : DictReq) (data : Bytes) (s : State), ByOperator r s ∧ NotBusy r s 0x3101 0x07 ∧ data.length = 8 ∧
      beNat data % s.frameLen = 0 ∧ s.beat + 1024 ≤ beNat data ∧ s.boxOk s.nextBox.1 s.nextBox.2 = true ∧
      (s.loadState = 0 ∨ s.loadState = 5) ∧ s.allFree = true) ∧
    (∃ (s : State) (b : Nat) (corner extent : List Nat), s.fab.armed = some (b, corner, extent) ∧ b ≤ s.beat) ∧
    (∃ (r : DictReq) (b : Byte) (s : State), ByOperator r s ∧ NotBusy r s 0x3000 0x02 ∧ b.toNat ≤ 63) ∧
    (∃ (r : DictReq) (b : Byte) (s : State), ByOperator r s ∧ NotBusy r s 0x3000 0x04 ∧ b = 1#8) ∧
    (∃ (r : DictReq) (b : Byte) (s : State), ByOperator r s ∧ NotBusy r s 0x3000 0x04 ∧ b = 2#8) :=
  ⟨⟨inRegion 0 1, 1, by decide +kernel⟩,
   ⟨(inRegion 0 1).modFab fun f => { f with vc7 := [(4, 1, [])] }, 4, 1, [], by decide +kernel⟩,
   ⟨(inRegion 0 1).modFab fun f => { f with vc7 := [(4, 1, [])], vc7Resend := [(4, 1048576)] }, 4, 1, 1048576, [], by decide +kernel⟩,
   ⟨request0, beBytes 8 1049600, (((serving (inRegion 0 1)).put 0x3101 0x04 0 1).put 0x3101 0x05 0 1).put 0x3101 0x06 0 1,
      by unfold ByOperator Served NotBusy; decide +kernel⟩,
   ⟨(inRegion 0 1).modFab fun f => { f with armed := some (1048576, [0, 0, 0], [1, 1, 1]) }, 1048576, [0, 0, 0], [1, 1, 1],
      by decide +kernel⟩,
   ⟨request0, 63#8, serving (inRegion 0 1), by unfold ByOperator Served NotBusy; decide +kernel⟩,
   ⟨request0, 1#8, serving (inRegion 0 1), by unfold ByOperator Served NotBusy; decide +kernel⟩,
   ⟨request0, 2#8, serving (inRegion 0 1), by unfold ByOperator Served NotBusy; decide +kernel⟩⟩

theorem witness_TheEthernetPortAnswers :
    (∃ (s : State), s.portUp = false ∧ s.portMay = true) ∧
    (∃ (s : State), s.portUp = false ∧ s.portMay = true) ∧
    (∃ (s : State), s.portUp = true) ∧
    (∃ (s : State), s.portUp = true ∧ s.rd 0x7F00 0x01 = 0) ∧
    (∃ (s : State) (target : Bytes), s.portUp = true ∧ s.ownAddress target = true) ∧
    (∃ (s : State) (dest : Bytes), s.portUp = true ∧ s.ownAddress dest = true) ∧
    (∃ (s : State), s.portUp = true) ∧
    (∃ (s : State), s.statusBeat = true ∧ s.boot.ready = true ∧ s.rd 0x1102 0x03 = 1 ∧ s.portUp = true ∧ s.rd 0x7F00 0x01 = 0) :=
  ⟨⟨(serving (inRegion 0 1)).put 0x1100 0x03 0 1, by decide +kernel⟩,
   ⟨(serving (inRegion 0 1)).put 0x1100 0x03 0 1, by decide +kernel⟩,
   ⟨serving (inRegion 0 1), by decide +kernel⟩,
   ⟨serving (inRegion 0 1), by decide +kernel⟩,
   ⟨serving (inRegion 0 1), linkLocal, by decide +kernel, by simp [State.ownAddress]⟩,
   ⟨serving (inRegion 0 1), linkLocal, by decide +kernel, by simp [State.ownAddress]⟩,
   ⟨serving (inRegion 0 1), by decide +kernel⟩,
   ⟨(serving (inRegion 0 1)).put 0x1102 0x03 0 1, by decide +kernel⟩⟩

theorem witness_RingPairsServeTheHost :
    (∃ (s : State) (ring offset : Nat) (data : Bytes), s.portUp = true ∧ s.ringReady ring = true ∧ ring < 256 ∧
      offset + data.length ≤ s.ringBytes ring) ∧
    (∃ (s : State) (ring offset : Nat) (data : Bytes), s.portUp = true ∧ s.ringReady ring = true ∧ ring < 256 ∧
      s.ringBytes ring < offset + data.length) ∧
    (∃ (s : State) (ring : Nat), s.portUp = true ∧ s.ringReady ring = true) ∧
    (∃ (s : State) (ring e : Nat), (s.ring ring).rateHalf = some e ∧ e ≤ s.beat) ∧
    (∃ (s : State) (ring : Nat), s.ringReady ring = true) ∧
    (∃ (r : DictReq) (b : Byte) (s : State), ByOperator r s ∧ NotBusy r s 0x1111 0x09 ∧ b = 1#8 ∧
      s.rdI 0x1111 0x01 (instOf s r.session 0x1111 0x09) ≠ 0xFFFF ∧
      ringSizeOk (s.rdI 0x1111 0x02 (instOf s r.session 0x1111 0x09)) = true ∧
      ringSizeOk (s.rdI 0x1111 0x03 (instOf s r.session 0x1111 0x09)) = true ∧
      s.oct? 0x1111 0x06 (instOf s r.session 0x1111 0x09) (zeros 16) ≠ zeros 16 ∧
      s.rdI 0x1111 0x09 (instOf s r.session 0x1111 0x09) = 0) ∧
    (∃ (r : DictReq) (b : Byte) (s : State), ByOperator r s ∧ NotBusy r s 0x1111 0x09 ∧ b = 0#8) :=
  ⟨⟨ringOn (serving (inRegion 0 1)), 0, (ringOn (serving (inRegion 0 1))).ringBytes 0 - 8, zeros 8, by decide +kernel⟩,
   ⟨ringOn (serving (inRegion 0 1)), 0, (ringOn (serving (inRegion 0 1))).ringBytes 0 - 7, zeros 8, by decide +kernel⟩,
   ⟨ringOn (serving (inRegion 0 1)), 0, by decide +kernel⟩,
   ⟨{ inRegion 0 1 with rings := [(255, { Ring.idle with rateHalf := some 1048576 })] }, 255, 1048576, by decide +kernel⟩,
   ⟨ringOn (serving (inRegion 0 1)), 0, by decide +kernel⟩,
   ⟨request0, 1#8, ((ringOn (serving (inRegion 0 1))).put 0x1111 0x09 0 0).putOct 0x1111 0x06 0 (List.replicate 16 1#8),
      by unfold ByOperator Served NotBusy; decide +kernel⟩,
   ⟨request0, 0#8, ringOn (serving (inRegion 0 1)), by unfold ByOperator Served NotBusy; decide +kernel⟩⟩

theorem witness_ReadsAndWritesAreServed :
    (∃ (r : DictReq) (s : State) (index sub : Nat) (row : ObjRow), ByOperator r s ∧ s.entryWaits index sub = false ∧
      presentRow s index sub = some row ∧ row.type ≠ .domain ∧ mayRead s .operator index sub (instOf s r.session index sub) = true) ∧
    (∃ (r : DictReq) (s : State) (index sub : Nat), ByOperator r s ∧ s.entryWaits index sub = false ∧ presentRow s index sub = none) ∧
    (∃ (r : DictReq) (s : State) (index sub offset : Nat) (row : ObjRow), ByOperator r s ∧ s.entryWaits index sub = false ∧
      presentRow s index sub = some row ∧ blockType row = true ∧ mayRead s .operator index sub (instOf s r.session index sub) = true ∧
      offset ≤ (s.enqueueRequest.readValue r.session row index sub (instOf s r.session index sub)).length) ∧
    (∃ (r : DictReq) (s : State) (index sub : Nat) (data : Bytes) (row : ObjRow), ByOperator r s ∧ NotBusy r s index sub ∧
      objRow index sub = some row ∧ sub ≠ 0 ∧ (row.access = .rw ∨ row.access = .rwf) ∧ row.type = .uint ∧ data.length = row.len ∧
      row.least ≤ beNat data ∧ beNat data ≤ row.most ∧
      (rights s .operator index sub (instOf s r.session index sub) (beNat data)).2 = true ∧ isHostMailbox index sub = false ∧ (∀ c u,
      effectOf index sub row c u = storeWrite row index sub c u) ∧ acceptOf index sub ⟨r.session, .operator,
      instOf s r.session index sub, beNat data, data⟩ s.enqueueRequest = true ∧
      objKey index sub (instOf s r.session index sub) ≠ objKey 0x1105 0x01 0) ∧
    (∃ (r : DictReq) (s : State) (data : Bytes), ByOperator r s ∧ data.length ≠ 4) ∧
    (∃ (r : DictReq) (s : State) (data : Bytes), ByOperator r s ∧ data.length = 2 ∧ beNat data < 300) ∧
    (∃ (r : DictReq) (s : State) (data : Bytes), ByOperator r s ∧ NotBusy r s 0x1400 0x05 ∧ data.length ≤ 1024) ∧
    (∃ (s : State) (k : Nat) (session : Option Nat) (n b : Nat) (data : Bytes), s.eth.blocks = [(k, session, n, data, b)] ∧
      k = objKey 0x1400 0x05 0 ∧ b + 1024 ≤ s.beat) ∧
    (∃ (s : State) (session : Nat), s.dictUp = true ∧ s.sessionOpen session = true) ∧
    (∃ (s : State), s.dictUp = true ∧ s.backlog < 1088) :=
  ⟨⟨request0, serving (inRegion 0 1), 0x1201, 0x01, ⟨0x1201, 0x1201, 0x01, 0x01, .uint, 2, .ro, 256, 0, 0⟩,
      by unfold ByOperator Served; decide +kernel⟩,
   ⟨request0, serving (inRegion 0 1), 0x1201, 0x80, by unfold ByOperator Served; decide +kernel⟩,
   ⟨request0, serving (inRegion 0 1), 0x1101, 0x01, 0, ⟨0x1101, 0x1101, 0x01, 0x01, .octets, 16, .rw, 0, 0, 0⟩,
      by unfold ByOperator Served; decide +kernel⟩,
   ⟨request0, serving (inRegion 0 1), 0x1103, 0x01, [64#8], ⟨0x1103, 0x1103, 0x01, 0x01, .uint, 1, .rwf, 1, 1, 64⟩,
      by unfold ByOperator Served; decide +kernel, by unfold NotBusy; decide +kernel, by decide +kernel, by decide +kernel,
      by decide +kernel, by decide +kernel, by decide +kernel, by decide +kernel, by decide +kernel, by decide +kernel,
      by decide +kernel, by intro c u; rfl, by decide +kernel, by decide +kernel⟩,
   ⟨request0, serving (inRegion 0 1), zeros 3, by unfold ByOperator Served; decide +kernel⟩,
   ⟨request0, serving (inRegion 0 1), beBytes 2 299, by unfold ByOperator Served; decide +kernel⟩,
   ⟨request0, serving (inRegion 0 1), zeros 1024, by unfold ByOperator Served NotBusy; decide +kernel⟩,
   ⟨{ serving (inRegion 0 1) with eth := { State.reset.eth with blocks := [(objKey 0x1400 0x05 0, some 0, 0, [], 1047552)] } },
      objKey 0x1400 0x05 0, some 0, 0, 1047552, [], by decide +kernel⟩,
   ⟨serving (inRegion 0 1), 0, by decide +kernel⟩,
   ⟨serving (inRegion 0 1), by decide +kernel⟩⟩

theorem witness_SessionsOpenMeasureAndEnd :
    (∃ (s : State) (offset : Nat), SpdmServed s ∧ offset ≤ Config.certificateChain.length) ∧
    (∃ (s : State) (asym hash dhe aead sched : Nat), SpdmServed s ∧ bitOf asym 5 = true ∧ bitOf hash 2 = true ∧ bitOf dhe 2 = true ∧
      bitOf aead 1 = true ∧ bitOf sched 0 = true) ∧
    (∃ (s : State) (i : Nat), SpdmServed s ∧ s.offersSessions = true ∧ s.sec.algOk = true ∧ s.freeSession = some i ∧
      s.sec.sigQueue.length < 64) ∧
    (∃ (s : State) (session rootKey role b : Nat) (name : Bytes) (x : Session), SpdmServed s ∧ s.boot.recovery = false ∧
      s.session? session = some x ∧ x.opened = false ∧ roleOfName name = some (role, b) ∧ rootOk rootKey s = true) ∧
    (∃ (s : State) (session : Nat) (name : Bytes) (x : Session), SpdmServed s ∧ s.session? session = some x ∧ x.opened = false ∧
      roleOfName name = none) ∧
    (∃ (s : State) (session : Nat), SpdmServed s ∧ s.sessionOpen session = true) ∧
    (∃ (s : State), SpdmServed s ∧ s.offersSessions = true ∧ s.sec.sigQueue.length < 64) ∧
    (∃ (s : State) (q : SigReq) (rest : List SigReq), s.sec.sigQueue = q :: rest ∧ q.kind = 0 ∧ s.offersSessions = true ∧
      s.domainOn 97 = true) ∧
    (∃ (s : State) (session : Nat) (x : Session), s.session? session = some x ∧ x.lastBeat + 58593750 ≤ s.beat) ∧
    (∃ (r : DictReq) (b : Byte) (s : State), ByOperator r s ∧ NotBusy r s 0x7800 0x08 ∧ b.toNat ≤ 63) :=
  ⟨⟨ensigned, 0, by unfold SpdmServed; decide +kernel, by exact Nat.zero_le _⟩,
   ⟨ensigned, 32, 4, 4, 2, 1, by unfold SpdmServed; decide +kernel⟩,
   ⟨{ ensigned with sec := { ensigned.sec with sigQueue := List.replicate 63 ⟨1, 5, none, [], []⟩ } }, 2,
      by unfold SpdmServed; decide +kernel⟩,
   ⟨ensigned, 1, 6, 0, 0, namePrefix ++ [0x6F#8, 0x70#8], { (default : Session) with id := 1 }, by unfold SpdmServed; decide +kernel⟩,
   ⟨ensigned, 1, [], { (default : Session) with id := 1 }, by unfold SpdmServed; decide +kernel⟩,
   ⟨ensigned, 0, by unfold SpdmServed; decide +kernel⟩,
   ⟨ensigned, by unfold SpdmServed; decide +kernel⟩,
   ⟨{ ensigned with sec := { ensigned.sec with sigQueue := [⟨0, 5, some 1, [], []⟩] } }, ⟨0, 5, some 1, [], []⟩, [], by decide +kernel⟩,
   ⟨atBeat 58593750 ensigned, 0, { (default : Session) with opened := true }, by decide +kernel⟩,
   ⟨request0, 63#8, serving (inRegion 0 1), by unfold ByOperator Served NotBusy; decide +kernel⟩⟩

theorem witness_MastheadIsWatchedAndAnswers :
    (∃ (s : State), s.boot.ready = true ∧ s.masthead.on = true ∧ s.rd 0x1203 0x02 ≤ s.beat ∧ s.power.resetDue ≠ some 3 ∧ (∀ b,
      s.masthead.lastRestart = some b → b + 1048576 ≤ s.beat)) ∧
    (∃ (s : State) (b : Nat), s.boot.ready = true ∧ s.masthead.on = true ∧ s.rd 0x1203 0x02 ≤ s.beat ∧
      s.masthead.lastRestart = some b ∧ s.beat < b + 1048576) ∧
    (∃ (s : State) (e : Nat), s.masthead.restartEnd = some e) ∧
    (∃ (s : State), s.boot.ready = true ∧ s.masthead.on = true) ∧
    (∃ (s : State) (d b : Nat), s.masthead.wakeAt = some b ∧ dozes d = true ∧ s.power.awake.contains d = false) ∧
    (∃ (r : DictReq) (m : Nat) (s : State), ByOperator r s ∧ NotBusy r s (0x1810 + m) 0x01 ∧ m < 8 ∧ s.masthead.on = true ∧
      s.rd (0x1810 + m) 0x02 = 0) ∧
    (∃ (r : DictReq) (m : Nat) (s : State), ByOperator r s ∧ m < 8 ∧ s.masthead.on = true ∧ s.rd (0x1810 + m) 0x02 = 1) ∧
    (∃ (r : DictReq) (m : Nat) (s : State), ByOperator r s ∧ m < 8 ∧ s.masthead.on = false) ∧
    (∃ (s : State) (m : Nat), m < 8 ∧ s.masthead.on = true ∧ s.rd (0x1810 + m) 0x02 = 1 ∧ s.rd (0x1810 + m) 0x01 < 2 ^ 32 ∧
      s.takenWord m = none ∧ bitOf (s.rd (0x1818 + m) 0x02) 0 = false) ∧
    (∃ (s : State) (m w : Nat), ActsOn s m w 1) ∧
    (∃ (s : State) (m w : Nat), ActsOn s m w 2 ∧ s.rd 0x1000 0x08 ≤ 255 ∧ s.loadState ≤ 255) ∧
    (∃ (s : State) (m w : Nat), ActsOn s m w 3 ∧ s.recsHeld = [] ∧ s.flash.log.length ≤ 1024) ∧
    (∃ (s : State) (m w : Nat), ActsOn s m w 4 ∧ s.windowFor m = false ∧ (s.die (wordArg w)).lost = false ∧ (∀ x ∈ s.cal.waiting,
      x.die ≠ wordArg w)) ∧
    (∃ (s : State) (code value count : Nat) (rest : List (Nat × Nat × Nat)), s.masthead.notices = (code, value, count) :: rest ∧
      s.masthead.on = true ∧ bitOf (s.rd 0x181F 0x02) 0 = false ∧ s.rd 0x1817 0x02 ≠ 1 ∧ s.takenWord 7 = none ∧ code < 256 ∧
      value < 65536) :=
  ⟨⟨serving (inRegion 0 1), by decide +kernel, by decide +kernel, by decide +kernel, by decide +kernel, by intro b h; cases h⟩,
   ⟨{ serving (inRegion 0 1) with masthead := { State.reset.masthead with on := true, lastRestart := some 1 } }, 1, by decide +kernel⟩,
   ⟨{ serving (inRegion 0 1) with masthead := { State.reset.masthead with restartEnd := some 1048576 } }, 1048576, by decide +kernel⟩,
   ⟨serving (inRegion 0 1), by decide +kernel⟩,
   ⟨{ serving (inRegion 0 1) with masthead := { State.reset.masthead with wakeAt := some 1048576 } }, 97, 1048576, by decide +kernel⟩,
   ⟨request0, 7, serving (inRegion 0 1), by unfold ByOperator Served NotBusy; decide +kernel⟩,
   ⟨request0, 7, (serving (inRegion 0 1)).put 0x1817 0x02 0 1, by unfold ByOperator Served; decide +kernel⟩,
   ⟨request0, 7, { serving (inRegion 0 1) with masthead := State.reset.masthead }, by unfold ByOperator Served; decide +kernel⟩,
   ⟨((serving (inRegion 0 1)).put 0x1817 0x02 0 1).put 0x1817 0x01 0 0xFFFFFFFF, 7, by decide +kernel⟩,
   ⟨handed 0x01FF0005#32, 7, 0x01FF0005, by unfold ActsOn; decide +kernel⟩,
   ⟨handed 0x02010000#32, 7, 0x02010000, by unfold ActsOn; decide +kernel⟩,
   ⟨handed 0x03010000#32, 7, 0x03010000, by unfold ActsOn; decide +kernel⟩,
   ⟨handed 0x04010007#32, 7, 0x04010007, by unfold ActsOn; decide +kernel⟩,
   ⟨{ serving (inRegion 0 1) with masthead := { State.reset.masthead with on := true, notices := [(255, 65535, 1)] } }, 255, 65535, 1,
      [], by decide +kernel⟩⟩

theorem witness_FlashResetsAndHalfMastByCommand :
    (∃ (r : DictReq) (data : Bytes) (s : State), ByOperator r s ∧ NotBusy r s 0x1400 0x05 ∧ data.length ≤ 65536) ∧
    (∃ (s : State) (slot : Nat) (data : Bytes) (rest : List FlashJob), s.masthead.jobs = .profile slot data :: rest ∧
      s.masthead.on = true) ∧
    (∃ (s : State) (slot : Nat) (data : Bytes) (rest : List FlashJob), s.masthead.jobs = .profile slot data :: rest ∧
      s.masthead.on = true) ∧
    (∃ (r : DictReq) (data : Bytes) (s : State), ByOperator r s ∧ NotBusy r s 0x1400 0x0C ∧ data.length ≤ 33554432) ∧
    (∃ (s : State) (image : Bytes) (rest : List FlashJob), s.masthead.jobs = .firmware image :: rest ∧ s.masthead.on = true) ∧
    (∃ (s : State) (x : FaultRec) (rest : List FlashJob), s.masthead.jobs = .record x :: rest ∧ s.masthead.on = true ∧
      s.flash.log.length < 1024) ∧
    (∃ (s : State) (x : FaultRec) (rest : List FlashJob), s.masthead.jobs = .record x :: rest ∧ s.masthead.on = true ∧
      1024 ≤ s.flash.log.length) ∧
    (∃ (r : DictReq) (b : Byte) (s : State), ByOperator r s ∧ NotBusy r s 0x7000 0x05 ∧ b = 1#8) ∧
    (∃ (r : DictReq) (b : Byte) (s : State), ByOperator r s ∧ NotBusy r s 0x1400 0x0B ∧ b = 1#8) ∧
    (∃ (r : DictReq) (b : Byte) (s : State), ByOperator r s ∧ NotBusy r s 0x1400 0x0B ∧ b = 2#8) ∧
    (∃ (r : DictReq) (b : Byte) (s : State), ByOperator r s ∧ NotBusy r s 0x7002 0x05 ∧ b = 1#8 ∧ s.fab.inDoubt = none ∧
      (∀ c ∈ s.faults.causes, c = 1)) ∧
    (∃ (r : DictReq) (b : Byte) (s : State), ByOperator r s ∧ b = 1#8 ∧ s.fab.inDoubt ≠ none) ∧
    (∃ (s : State) (b : Nat), s.faults.hmEntered = some b ∧ s.rd 0x7001 0x07 = 1 ∧ s.faults.causes = [1] ∧
      b + s.rd 0x7002 0x02 ≤ s.beat) ∧
    (∃ (s : State) (d : Nat), d < 8 ∧ s.dies.length = 8 ∧ (s.die d).lost = false) :=
  ⟨⟨request0, zeros 16, serving (inRegion 0 1), by unfold ByOperator Served NotBusy; decide +kernel⟩,
   ⟨flashing (.profile 3 [1#8]), 3, [1#8], [], by decide +kernel⟩,
   ⟨flashing (.profile 3 [1#8]), 3, [1#8], [], by decide +kernel⟩,
   ⟨request0, zeros 16, serving (inRegion 0 1), by unfold ByOperator Served NotBusy; decide +kernel⟩,
   ⟨flashing (.firmware [1#8]), [1#8], [], by decide +kernel⟩,
   ⟨{ flashing (.record default) with flash := { State.reset.flash with log := List.replicate 1023 default } }, default, [],
      by decide +kernel⟩,
   ⟨{ flashing (.record default) with flash := { State.reset.flash with log := List.replicate 1024 default } }, default, [],
      by decide +kernel⟩,
   ⟨request0, 1#8, serving (inRegion 0 1), by unfold ByOperator Served NotBusy; decide +kernel⟩,
   ⟨request0, 1#8, serving (inRegion 0 1), by unfold ByOperator Served NotBusy; decide +kernel⟩,
   ⟨request0, 2#8, serving (inRegion 0 1), by unfold ByOperator Served NotBusy; decide +kernel⟩,
   ⟨request0, 1#8, { serving (inRegion 0 1) with faults := { State.reset.faults with causes := [1] } },
      by unfold ByOperator Served NotBusy; decide +kernel⟩,
   ⟨request0, 1#8, (serving (inRegion 0 1)).modFab fun f => { f with inDoubt := some (5, 1) },
      by unfold ByOperator Served; decide +kernel⟩,
   ⟨escalated, 1, by decide +kernel⟩,
   ⟨inRegion 0 1, 7, by decide +kernel⟩⟩

theorem witness_ResetsAndStartUpRunInStages :
    (∃ (s : State), s.power.s3 = none) ∧
    (∃ (s : State), s.power.s3.isSome = true) ∧
    (∃ (s : State), s.boot.released = false ∧ s.tap.hold = false ∧ s.power.s3 = none) ∧
    (∃ (s : State), s.boot.released = true ∧ s.boot.fwOk = false ∧ s.boot.recovery = false) ∧
    (∃ (s : State), s.boot.fwOk = true ∧ s.boot.recovery = false ∧ s.boot.keyDone = false) ∧
    (∃ (s : State), s.boot.keyDone = true ∧ s.boot.fwOk = true ∧ s.boot.profileDone = false ∧ s.flash.profiles = [[], [], [], []]) ∧
    (∃ (s : State), s.boot.profileDone = true ∧ s.boot.d2dDone = false ∧ s.dies.length = 8) ∧
    (∃ (s : State), s.boot.profileDone = true ∧ s.boot.memDone = false) ∧
    (∃ (s : State), s.mayBeReady = true) ∧
    (∃ (r : DictReq) (b : Byte) (s : State), ByOperator r s ∧ NotBusy r s 0x6000 0x01 ∧ b.toNat ≤ 1 ∧ s.allFree = true ∧
      s.loading = false) :=
  ⟨⟨serving (inRegion 0 1), by decide +kernel⟩,
   ⟨{ inRegion 0 1 with power := { Power.inReset with s3 := some (8, 1048576) } }, by decide +kernel⟩,
   ⟨State.reset, by decide +kernel⟩,
   ⟨{ inRegion 0 1 with boot := { State.reset.boot with released := true } }, by decide +kernel⟩,
   ⟨{ inRegion 0 1 with boot := { State.reset.boot with released := true, fwOk := true } }, by decide +kernel⟩,
   ⟨{ inRegion 0 1 with boot := { State.reset.boot with released := true, fwOk := true, keyDone := true } }, by decide +kernel⟩,
   ⟨{ inRegion 0 1 with boot := { State.reset.boot with profileDone := true } }, by decide +kernel⟩,
   ⟨{ inRegion 0 1 with boot := { State.reset.boot with profileDone := true } }, by decide +kernel⟩,
   ⟨{ (inRegion 0 1).put 0x1200 0x03 0 2 with boot := { State.reset.boot with d2dDone := true, memDone := true } }, by decide +kernel⟩,
   ⟨request0, 1#8, serving (inRegion 0 1), by unfold ByOperator Served NotBusy; decide +kernel⟩⟩

theorem witness_TheTestPortHoldsAndReleasesTheDevice :
    (∃ (s : State), s.tap.hold = false) ∧
    (∃ (s : State), s.tap.hold = true ∧ s.power.s3 = none) ∧
    (∃ (s : State), s.tap.hold = false) ∧
    (∃ (s : State), s.tap.hold = false ∧ s.power.s3 = none) ∧
    (∃ (s : State), s.tap.hold = false ∧ s.power.s3 = none) ∧
    (∃ (s : State), s.tap.hold = false ∧ s.power.s3 = none) ∧
    (∃ (s : State), s.tap.hold = false ∧ s.power.s3 = none) ∧
    (∃ (s : State), s.tap.hold = false ∧ s.power.s3 = none) ∧
    (∃ (s : State) (op : Nat), s.tap.hold = false ∧ assignedOpcode op = false ∧ op ≤ 0xFF) ∧
    (∃ (s : State) (op : Nat), s.tap.hold = false ∧ 0x80 ≤ op ∧ op ≤ 0xFE) :=
  ⟨⟨inRegion 0 1, by decide +kernel⟩,
   ⟨{ inRegion 0 1 with tap := ⟨3, [], [], true⟩ }, by decide +kernel⟩,
   ⟨inRegion 0 1, by decide +kernel⟩,
   ⟨inRegion 0 1, by decide +kernel⟩,
   ⟨inRegion 0 1, by decide +kernel⟩,
   ⟨inRegion 0 1, by decide +kernel⟩,
   ⟨inRegion 0 1, by decide +kernel⟩,
   ⟨inRegion 0 1, by decide +kernel⟩,
   ⟨inRegion 0 1, 0xFF, by decide +kernel⟩,
   ⟨inRegion 0 1, 0x80, by decide +kernel⟩⟩

theorem witness_APendingCopyIsDiscardedAtItsTimeout :
    ∃ (s : State) (i : McIn), s.fab.ins.find? (fun x => x.mcnum = i.mcnum && x.src = i.src) = some i ∧ (∀ x ∈ s.fab.ins,
      x.mcnum = i.mcnum → x.src = i.src → x = i) ∧ i.deadline + s.rd 0x3102 0x02 ≤ s.beat :=
  ⟨(inRegion 0 1).modFab fun f => { f with ins := [in0 (.batch batch0)] }, in0 (.batch batch0), by decide +kernel⟩

theorem witness_ALoopbackChangesNoOtherInterface :
    ∃ (r : DictReq) (index : Nat) (data : Bytes) (row : ObjRow) (s : State), isLoopback index = true ∧ ByOperator r s ∧
      NotBusy r s index 0x01 ∧ objRow index 0x01 = some row ∧ data.length = row.len ∧ beNat data ≤ row.most ∧
      loopbackOk index (beNat data) s = true :=
  ⟨request0, 0x7F15, [4#8], ⟨0x7F10, 0x7F15, 0x01, 0x01, .uint, 1, .rw, 0, 0, 4⟩, (serving (inRegion 0 1)).put 0x3000 0x02 0 0,
      by unfold ByOperator Served NotBusy; decide +kernel⟩

theorem witness_LoopbacksAndArrayTestsRun :
    (∃ (r : DictReq) (s : State), ByOperator r s ∧ NotBusy r s 0x7F00 0x01 ∧ s.allFree = true) ∧
    (∃ (s : State), s.rd 0x7F00 0x03 ≠ 0 ∧ s.rd 0x7F00 0x03 ≤ s.beat) ∧
    (∃ (r : DictReq) (k : Nat) (s : State), k < 6 ∧ ByOperator r s ∧ NotBusy r s (0x7F10 + k) 0x01 ∧ bitOf (s.rd 0x3000 0x02) k = false) ∧
    (∃ (r : DictReq) (d : Nat) (data : Bytes) (s : State), d < 8 ∧ ByOperator r s ∧ NotBusy r s (0x7F20 + d) 0x01 ∧ data.length = 2 ∧
      beNat data % 4096 ≠ 0 ∧ s.insideFree = true) ∧
    (∃ (r : DictReq) (k : Nat) (s : State), k < 4 ∧ ByOperator r s ∧ NotBusy r s (0x7F30 + k) 0x01 ∧ s.insideFree = true) ∧
    (∃ (r : DictReq) (k : Nat) (s : State), k < 8 ∧ ByOperator r s ∧ NotBusy r s (0x7F34 + k) 0x01 ∧ s.insideFree = true) ∧
    (∃ (r : DictReq) (index : Nat) (s : State), isLoopback index = true ∧ (¬(0x7F20 ≤ index ∧ index ≤ 0x7F27)) ∧ ByOperator r s ∧
      NotBusy r s index 0x01) ∧
    (∃ (r : DictReq) (d : Nat) (s : State), d < 8 ∧ ByOperator r s ∧ NotBusy r s (0x7F20 + d) 0x01) ∧
    (∃ (r : DictReq) (s : State), ByOperator r s ∧ NotBusy r s 0x7F40 0x03 ∧ s.insideFree = true ∧ s.rd 0x7F40 0x04 ≠ 1 ∧
      s.rd (0x7F20 + s.rd 0x7F40 0x02) 0x01 = 0 ∧ (s.die (s.rd 0x7F40 0x02)).lost = false) ∧
    (∃ (s : State) (w : CalWin), s.nextWindow = some w ∧ w.test.isSome = true) ∧
    (∃ (s : State) (w : CalWin), s.cal.current = some w ∧ w.test.isSome = true ∧ w.start + w.beats ≤ s.beat) ∧
    (∃ (s : State) (w : CalWin) (a : Nat), s.cal.current = some w ∧ w.test.isSome = true ∧ w.start + w.beats ≤ s.beat ∧
      dieOf a = w.die ∧ a < 33792 ∧ (s.arr a).retired = false) :=
  ⟨⟨request0, serving (inRegion 0 1), by unfold ByOperator Served NotBusy; decide +kernel⟩,
   ⟨(inRegion 0 1).put 0x7F00 0x03 0 1048576, by decide +kernel⟩,
   ⟨request0, 5, (serving (inRegion 0 1)).put 0x3000 0x02 0 0, by unfold ByOperator Served NotBusy; decide +kernel⟩,
   ⟨request0, 7, beBytes 2 0x0FFF, serving (inRegion 0 1), by unfold ByOperator Served NotBusy; decide +kernel⟩,
   ⟨request0, 3, serving (inRegion 0 1), by unfold ByOperator Served NotBusy; decide +kernel⟩,
   ⟨request0, 7, serving (inRegion 0 1), by unfold ByOperator Served NotBusy; decide +kernel⟩,
   ⟨request0, 0x7F3B, serving (inRegion 0 1), by unfold ByOperator Served NotBusy; decide +kernel⟩,
   ⟨request0, 7, serving (inRegion 0 1), by unfold ByOperator Served NotBusy; decide +kernel⟩,
   ⟨request0, serving (inRegion 0 1), by unfold ByOperator Served NotBusy; decide +kernel⟩,
   ⟨{ serving (inRegion 0 1) with cal := { State.reset.cal with waiting := [testWindow0] } }, testWindow0, by decide +kernel⟩,
   ⟨measuring testWindow0, testWindow0, by decide +kernel⟩,
   ⟨measuring testWindow0, testWindow0, 4223, by decide +kernel⟩⟩

/-! ## Clauses whose premises stand inside them -/

/-- Each command of the head has an ingress entry that it takes up (statement TheHeadMulticastsCommands). -/
theorem witness_heads_commands :
    (∀ op ∈ [2, 3, 4, 5, 6], FrontCommand
      { (inRegion 0 1).put 0x1111 0x01 0 2 with taken := [taken0 op], table := [(7, entry0 3)] } (taken0 op) []) ∧
    recurrentLayers State.reset.image = [] := by unfold FrontCommand; decide +kernel

/-- A state with a step, and one without, take an activation for step 5, and drop one for step 4 (statement ArrivalsAreHeldForTheirStep). -/
theorem witness_arrivals :
    ((withStep step0 State.reset).fab.step.map (·.num)).getD State.reset.fab.nextStep = 5 ∧
    (State.reset.fab.step.map (·.num)).getD State.reset.fab.nextStep = 0 := by decide +kernel

/-- The array test is asked for on the trim DACs and on the reference columns (statement LoopbacksAndArrayTestsRun). -/
theorem witness_array_tests :
    (inRegion 0 1).rd 0x7F40 0x01 = 0 ∧ ((inRegion 0 1).put 0x7F40 0x01 0 1).rd 0x7F40 0x01 = 1 := by decide +kernel

/-! ## Ill-formed commands are refused -/

theorem test_ill_formed_requests :
    ([{ request0 with magic := 65536 }, { request0 with version := 256 }, { request0 with op := 256 }, { request0 with xid := 2 ^ 32 },
      { request0 with session := some 64 }].all fun r => !wellFormed (.read r 0x1000 1)) = true := by decide +kernel

theorem test_ill_formed_frames_and_objects :
    ([.write request0 0x1000 1 (zeros 1025), .read request0 65536 1, .read request0 0x1000 256, .readBlock request0 0x1000 1 (2 ^ 32),
      .windowExpiryWrite request0 128 [], .messageRingWrite request0 3 [], .messageRingWrite request0 6 [], .kvConfigWrite request0 0 [],
      .kvConfigWrite request0 5 [], .pennant request0 256 0#32, 
      .loopbackOff request0 0x7EFF [], .loopbackOff request0 0x7F3C [], .ucieLoopback request0 8 [], .hbmLoopbackPhy request0 4 [],
      .lpddrLoopbackPhy request0 8 [], .linkLoopbackFecPcs request0 6 [], .blockTransferTimeout 65536 0].all fun c => !wellFormed c) = true := by
  decide +kernel

theorem test_ill_formed_profile : wellFormed (.profileStore request0 (zeros 65537)) = false := by
  have h : (zeros 65537).length = 65537 := List.length_replicate
  change (reqOk request0 && decide ((zeros 65537).length ≤ 65536)) = false
  rw [h]
  decide +kernel

theorem test_ill_formed_work :
    ([.driveVectorBroadcast 65536 0 0 [] .clean, .driveVectorBroadcast 0 65536 0 [] .clean, .driveVectorBroadcast 0 0 32768 [] .clean,
      .driveVectorBroadcast 0 0 0 [128] .clean, .driveVectorBroadcast 0 0 0 [-129] .clean,
      .driveVectorBroadcast 0 0 0 (List.replicate 1025 0) .clean, .readGroupIdleEnd 33792, .stripTree 0 0 0 65536 0 .clean,
      .stripTree 0 0 0 0 8 .clean, .secondPass 256 0 .clean, .rowReductionRecord 0 0 (2 ^ 40) .clean, .attentionSpan 0 0 0 (2 ^ 32) .clean,
      .adcTrim 0 512 0 0 0, .adcTrim 0 0 4 0 0, .columnOffsetMeasure 0 (List.replicate 561 0), .programPulse 0 1024 0 .verified,
      .programPulse 0 0 560 .verified, .arrayTestResult [33792], .sectionFetched 65536 [], .expertList 0 [(256, [])],
      .imageReport 0 (zeros 63), .stepStart ⟨[⟨1024, 0, 1⟩], []⟩, .stepStart ⟨[⟨0, 1, 1⟩], []⟩, .stepStart ⟨[⟨0, 2 ^ 40, 1⟩], []⟩,
      .stepStart ⟨[⟨0, 0, 2561⟩], []⟩, .stepStart ⟨[], [(16, zeros 32)]⟩, .stepStart ⟨[], [(0, zeros 31)]⟩].all fun c => !wellFormed c) = true := by decide +kernel

theorem test_ill_formed_fabric :
    ([.stepAck 0 256 0 0, .stepAck 0 0 0 262144, .stepDiscard 0 0 256 [], .stepDiscard 0 0 0 [8192], .multicastDeadline (2 ^ 32),
      .cnp 256, .reserveExpiry 8192, .reserveMove 0 65536 0, .pageZero 0x800000, .granuleZero 5120, .patrolScrub none (2 ^ 40) .clean,
      .trainingTimeout 6, .replay 0 4096, .lossOfSignal 0 16, .descriptorStart 16, .copy 0 (2 ^ 32) none,
      .remoteWriteArrival ⟨0, 65536, 0, 0, 0, 0, []⟩, .messageArrival ⟨0, 0, 0, 0, zeros 4097⟩, .windowFree 128, .bufferLeaseExpiry 1024 0,
      .flitReceive 0 { (default : Flit) with vc := 8 }, .flitReceive 0 { (default : Flit) with dl := 2 },
      .flitReceive 0 { (default : Flit) with payload := zeros 257 }].all fun c => !wellFormed c) = true := by decide +kernel

theorem test_ill_formed_management :
    ([.housekeepingEvaluation default, .housekeepingEvaluation { hotRound with e63a := 4096 },
      .housekeepingEvaluation { hotRound with codes := List.replicate 63 4096 }, .comparatorTrip 24, .supplyFault 0, .supplyFault 17,
      .pllLockLoss 4, .neighborSolicitation [] [], .secured 65536 0 true, .getCertificate 0 65536 0, .getMeasurements none 0 [],
      .sessionTimeout 64, .domainWake 0, .domainWake 101, .mailboxTake 8, .startupRelease 64 0 0 0, .startupRelease 0 0 0 4,
      .d2dTraining [], .bypass 256, .greundLinksFail 8].all fun c => !wellFormed c) = true := by decide +kernel

theorem test_well_formed_commands :
    ([.read request0 0x1000 1, .housekeepingEvaluation hotRound, .supplyFault 16, .greundLinksFail 7, .bypass 255,
      .driveVectorBroadcast 65535 65535 32767 [127, -128] .clean].all wellFormed) = true := by decide +kernel

/-- No row of the table of operations gives bits, so no word spells a command. -/
theorem test_no_word_is_a_command : decodeTableWord 32 0 = none := by decide

/-! ## The manual's worked examples -/

/-- The six entries of the worked example of one output, in their row block of 1,024 rows. -/
def exampleDrive : List Int :=
  (List.range 1024).map fun r =>
    if r = 5 then 57 else if r = 130 then -3 else if r = 131 then 100 else if r = 600 then -90 else if r = 777 then 12
    else if r = 1000 then -120 else 0

/-- Logical column 313 is physical column 343, and −3, 57 and −120 have the slices of the table (R61, R71). -/
theorem test_example_column_and_slices :
    physCol 313 = 343 ∧ (List.range 4).map (sliceOf 57) = [1, 2, 3, 0] ∧ (List.range 4).map (sliceOf (-3)) = [1, 3, 3, -1] ∧
    (List.range 4).map (sliceOf (-120)) = [0, 2, 0, -2] := by decide +kernel

/-- A, r_0 and r_8 of the example's check (R85). -/
theorem test_example_reference_products :
    driveSum exampleDrive = 382 ∧ refProduct exampleDrive 0 = -1146 ∧ refProduct exampleDrive 8 = -176 := by decide +kernel

/-- The threshold of 53.954 lets the exact total and the mean of the second example pass, and not its first read (R86). -/
theorem test_example_check :
    checkPasses [0] 4096 655 382 [-1146] [-1146] [85] = true ∧ checkPasses [0] 4096 655 382 [-1146] [-1210] [85] = false ∧
    checkPasses [0] 4096 655 382 [-1146] [-1178] [85] = true := by decide +kernel

/-- The twelve leaves of column 1,337 sum to 8,553 (R130). -/
theorem test_example_tree :
    treeFold satAdd 4 (padTo 16 [1204, -3517, 892, 2046, 460, -1123, 3990, -275, 1508, 611, -2244, 5001]) = some 8553 := by
  decide +kernel

/-- The block of the example leaves with EXP 2: −70,001, 65,538 and 8,553 round to −17,500, 16,384 and 2,138 (R134). -/
theorem test_example_block :
    (formBlock { (default : Block) with vals := [-70001, 65538, 8553] }).exp = 2 ∧
    (formBlock { (default : Block) with vals := [-70001, 65538, 8553] }).vals = [-17500, 16384, 2138] := by decide +kernel

/-- The scale and the six codes that the quantiser gives the example's BF16 weights in W2 (R183). -/
theorem test_example_quantiser :
    let ws : List F32 := [0x3D500000#32, 0xBD200000#32, 0#32, 0xBD740000#32, 0x3D200000#32, 0x3CC00000#32]
    f32OfE4m3 (quantSigma 1 ws) = 0x3D200000#32 ∧ ws.map (quantCode 1 (quantSigma 1 ws) ws) = [3, 1, 2, 0, 3, 2] := by decide +kernel

end Sys2Proof.Tests

end
end

section
/-! The idle tick, the arrivals of step work, an operator's dictionary write, and the frame length (R31, R33, R52, R378). -/

namespace Sys2Proof.Machine
open Sys2Proof

/-! ## The idle tick -/

/-- Settles O2: on an empty queue `step` is the branch on the wrap of the count. -/
theorem idleStepIsOneTick : Obligations.IdleStepIsOneTick := by
  intro s hq
  have hstep : step s = if s.count = BitVec.allOnes 64 then .fault .countWrap
      else .next { s with count := s.count + 1#64 } := by
    unfold step; rw [hq]
  rw [hstep]
  exact ⟨fun h => if_neg h, fun h => if_pos h⟩

/-! ## Arrivals -/

/-- An activation for a step that is over changes nothing; one for the step in flight or a later one joins the held arrivals. -/
theorem actArrival_activation (s : State) (step slot token flags : Nat) (x : List F32) :
    actArrival (.activation step slot token flags x) s =
      if step < (s.fab.step.map (·.num)).getD s.fab.nextStep then s
      else s.modWork fun w => { w with acts := w.acts ++ [.activation step slot token flags x] } := rfl

/-- Settles O34: the two clauses are the branches of `actArrival`. -/
theorem arrivalsAreHeldForTheirStep : Obligations.ArrivalsAreHeldForTheirStep := by
  intro s step slot token flags x
  have hexec : exec (.actArrival (.activation step slot token flags x)) s =
      doneQuiet s (actArrival (.activation step slot token flags x) s) := rfl
  rw [hexec, actArrival_activation]
  constructor
  · intro h
    rw [if_neg (Nat.not_lt.mpr h)]
    exact ⟨_, rfl, rfl, rfl, rfl, rfl⟩
  · intro h
    rw [if_pos h]
    exact doneQuiet_eq rfl rfl rfl rfl rfl

/-! ## The responder's answer to an operator's write -/

section Respond
variable (r : DictReq) (status : Nat) (last : Bool) (value : Bytes) (s : State)

/-- A counter advanced changes the objects alone. -/
theorem bump_eq (i u n : Nat) : ∃ o, s.bump i u n = { s with obj := o } := ⟨_, rfl⟩

/-- A counter advanced under a condition changes the objects alone. -/
theorem ite_bump_eq (p : Prop) [Decidable p] (i u n : Nat) : ∃ o, (if p then s.bump i u n else s) = { s with obj := o } := by
  split_ifs
  · exact bump_eq s i u n
  · exact ⟨s.obj, rfl⟩

/-- A response appends to what leaves the device and changes counters and the session, and nothing else. -/
theorem respond_eq : ∃ o x, respond r status last value s =
    { s with out := s.out ++ [.dict r.xid r.session status last value], obj := o, sec := x } := by
  let sent := s.send (.dict r.xid r.session status last value)
  obtain ⟨a, ha⟩ := bump_eq sent 0x1105 0x01 1
  obtain ⟨b, hb⟩ := ite_bump_eq { sent with obj := a } (¬status = 0) 0x1105 0x02 1
  obtain ⟨c, hc⟩ := ite_bump_eq { sent with obj := b } (status = 7) 0x7800 0x07 1
  unfold respond
  simp only [sent, ← ite_not (status = 0)] at ha hb hc ⊢
  simp only [ha, hb, hc]
  cases r.session with
  | none => exact ⟨c, s.sec, rfl⟩
  | some i => exact ⟨c, _, rfl⟩

@[simp] theorem respond_pending : (respond r status last value s).pending = s.pending := by
  obtain ⟨o, x, h⟩ := respond_eq r status last value s; rw [h]
@[simp] theorem respond_mem : (respond r status last value s).mem = s.mem := by
  obtain ⟨o, x, h⟩ := respond_eq r status last value s; rw [h]
@[simp] theorem respond_ringMem : (respond r status last value s).ringMem = s.ringMem := by
  obtain ⟨o, x, h⟩ := respond_eq r status last value s; rw [h]
@[simp] theorem respond_flash : (respond r status last value s).flash = s.flash := by
  obtain ⟨o, x, h⟩ := respond_eq r status last value s; rw [h]
@[simp] theorem respond_tap : (respond r status last value s).tap = s.tap := by
  obtain ⟨o, x, h⟩ := respond_eq r status last value s; rw [h]
@[simp] theorem respond_table : (respond r status last value s).table = s.table := by
  obtain ⟨o, x, h⟩ := respond_eq r status last value s; rw [h]
@[simp] theorem respond_time : (respond r status last value s).time = s.time := by
  obtain ⟨o, x, h⟩ := respond_eq r status last value s; rw [h]
@[simp] theorem respond_out :
    (respond r status last value s).out = s.out ++ [.dict r.xid r.session status last value] := by
  obtain ⟨o, x, h⟩ := respond_eq r status last value s; rw [h]

/-- A response without a segment answers its request. -/
theorem answers_respond : Answers r status value (respond r status false value s) := by
  simp [Answers]

/-- A response writes the responder's two counters and the counter of refused sessions, and no other object. -/
theorem rd_respond {i u : Nat} (h1 : objKey i u 0 ≠ objKey 0x1105 0x01 0) (h2 : objKey i u 0 ≠ objKey 0x1105 0x02 0)
    (h3 : objKey i u 0 ≠ objKey 0x7800 0x07 0) : (respond r status last value s).rd i u = s.rd i u := by
  have hsession : ∀ (t : State) (k : Nat) (f : Session → Session), (t.modSession k f).rd i u = t.rd i u :=
    fun t _ _ => rd_congr (s := t) rfl i u
  have hsend : ∀ o, (s.send o).rd i u = s.rd i u := fun o => rd_congr (s := s) rfl i u
  unfold respond
  cases r.session with
  | none => split_ifs <;> simp only [rd_bump_other, h1, h2, h3, hsend, ne_eq, not_false_eq_true]
  | some k => split_ifs <;> simp only [rd_bump_other, h1, h2, h3, hsend, hsession, ne_eq, not_false_eq_true]

/-- A command that keeps what a quiet command keeps, and then answers its request, answers with what it did. -/
theorem doneQuiet_respond {u : State} (h : u.pending = s.pending) (hm : u.mem = s.mem) (hr : u.ringMem = s.ringMem)
    (hf : u.flash = s.flash) (ht : u.tap = s.tap) :
    doneQuiet s (respond r status last value u) = .next (respond r status last value u) :=
  doneQuiet_eq ((respond_pending ..).trans h) ((respond_mem ..).trans hm) ((respond_ringMem ..).trans hr)
    ((respond_flash ..).trans hf) ((respond_tap ..).trans ht)

end Respond

/-- A request that is taken up and repeats no XID is judged by its body on the state that counts it, and answered. -/
theorem dictServe_of_served {r : DictReq} {s : State} (h : Served r s) (body : State → Nat × Bytes × State) :
    dictServe r body s =
      respond r (body s.enqueueRequest).1 false (body s.enqueueRequest).2.1 (body s.enqueueRequest).2.2 := by
  obtain ⟨hup, hmagic, hversion, hroom, hnew⟩ := h
  have hnew' : repeated s.enqueueRequest r = none := hnew
  simp [dictServe, dictServeLast, hup, hmagic, hversion, Nat.not_le.mpr hroom, hnew']

/-- The operator's access to an object that it may write passes tests 2 to 5 of R378. -/
theorem judgeAccess_operator {r : DictReq} {s : State} {index sub value : Nat} {row : ObjRow} (h : ByOperator r s)
    (hsub : sub ≠ 0) (hrow : objRow index sub = some row) (hadm : admitsWrite row.access = true)
    (hright : ∀ inst v, (rights s .operator index sub inst v).2 = true) :
    judgeAccess s r index sub value true = .inr (.operator, row) := by
  obtain ⟨-, hrole, hop, hrec⟩ := h
  have hpresent : presentRow s index sub = some row := by simp [presentRow, hrec, hsub, hrow]
  simp [judgeAccess, hrole, hop, hpresent, visible, mayWrite, hright, hsub, hadm]

/-- The request counted by the responder is still the operator's: nothing that judges it has changed. -/
theorem judgeAccess_enqueueRequest (s : State) (r : DictReq) (index sub value : Nat) (write : Bool) :
    judgeAccess s.enqueueRequest r index sub value write = judgeAccess s r index sub value write := rfl

/-- An accepted write of a numeric RW object is stored (R7). -/
theorem storeWrite_uint_rw {row : ObjRow} (ht : row.type = .uint) (ha : row.access = .rw) (index sub : Nat) (c : WriteCtx)
    (s : State) : storeWrite row index sub c s = s.wrI index sub c.inst c.value := by
  simp [storeWrite, ht, ha]

/-- Bytes read most significant first are a number of as many bytes. -/
theorem beNat_lt (bs : Bytes) : beNat bs < 256 ^ bs.length := by
  have h : ∀ (bs : Bytes) (n : Nat), bs.foldl (fun n b => n * 256 + b.toNat) n < (n + 1) * 256 ^ bs.length := by
    intro bs
    induction bs with
    | nil => simp
    | cons b bs ih =>
      intro n
      calc bs.foldl (fun n b => n * 256 + b.toNat) (n * 256 + b.toNat)
          < (n * 256 + b.toNat + 1) * 256 ^ bs.length := ih _
        _ ≤ ((n + 1) * 256) * 256 ^ bs.length := Nat.mul_le_mul_right _ (by have := b.isLt; omega)
        _ = (n + 1) * 256 ^ (bs.length + 1) := by rw [Nat.pow_succ]; ring
  simpa [beNat] using h bs 0

/-! ## The frame length -/

/-- The row of FRAME_LENGTH_ARM's object in the dictionary (R55). -/
def armRow : ObjRow := ⟨0x1201, 0x1201, 0x07, 0x07, .uint, 8, .rw, 0, 0, 18446744073709551615⟩

/-- The dictionary holds that row (R373). -/
theorem objRow_arm : objRow 0x1201 0x07 = some armRow := by decide +kernel

/-- What the arming write's rule and effect see of an operator's write of eight bytes. -/
def armCtx (r : DictReq) (data : Bytes) : WriteCtx := ⟨r.session, .operator, 0, beNat data, data⟩

/-- The object has no instances: no selector names one. -/
theorem instOf_arm (s : State) (session : Option Nat) : instOf s session 0x1201 0x07 = 0 := by
  unfold instOf; split <;> rfl

/-- An operator's arming write of eight bytes is judged by the rule of R33 and by a block write that is open alone. -/
theorem judgeWrite_arm {r : DictReq} {s : State} {data : Bytes} (h : ByOperator r s) (hlen : data.length = 8)
    (accept : WriteCtx → State → Bool) (effect : ObjRow → WriteCtx → State → State) (reject : WriteCtx → State → State) :
    judgeWrite r 0x1201 0x07 false data accept effect reject s.enqueueRequest =
      if !accept (armCtx r data) s.enqueueRequest then (3, [], reject (armCtx r data) s.enqueueRequest)
      else if blockBusy s r 0x1201 0x07 0 then (5, [], s.enqueueRequest)
      else (0, [], effect armRow (armCtx r data) s.enqueueRequest) := by
  have hacc : judgeAccess s.enqueueRequest r 0x1201 0x07 (beNat data) true = .inr (.operator, armRow) := by
    rw [judgeAccess_enqueueRequest]
    exact judgeAccess_operator h (by decide) objRow_arm rfl fun inst v => by simp [rights]
  have hrange : rangeBad armRow data = false := by
    have := beNat_lt data
    rw [hlen] at this
    simp [rangeBad, armRow]
    omega
  have htype : typeBad armRow false data.length = false := by simp [typeBad, armRow, hlen]
  have hbusy : blockBusy s.enqueueRequest r 0x1201 0x07 0 = blockBusy s r 0x1201 0x07 0 := rfl
  simp [judgeWrite, hacc, hrange, htype, hbusy, instOf_arm, armCtx, isHostMailbox, needsWake]

/-- The arming write that R33 accepts holds the change, stores the effect beat and is answered OK. -/
theorem frameLengthArm_accepted {r : DictReq} {s : State} {data : Bytes} (h : ByOperator r s) (hlen : data.length = 8)
    (hfree : NotBusy r s 0x1201 0x07) (hok : frameArmOk (armCtx r data) s = true) :
    dictWriteElse r 0x1201 0x07 data frameArmOk frameArm (fun _ s => s.flag 0x1200 0x0A 5) s =
      respond r 0 false [] (frameArm armRow (armCtx r data) s.enqueueRequest) := by
  have hok' : frameArmOk (armCtx r data) s.enqueueRequest = true := hok
  have hfree' : blockBusy s r 0x1201 0x07 0 = false := by
    unfold NotBusy at hfree; rwa [instOf_arm] at hfree
  unfold dictWriteElse
  rw [dictServe_of_served h.1, judgeWrite_arm h hlen, hok', hfree']
  rfl

/-- The arming write that R33 rejects sets FRAME_MISMATCH and is answered RANGE. -/
theorem frameLengthArm_rejected {r : DictReq} {s : State} {data : Bytes} (h : ByOperator r s) (hlen : data.length = 8)
    (hbad : frameArmOk (armCtx r data) s = false) :
    dictWriteElse r 0x1201 0x07 data frameArmOk frameArm (fun _ s => s.flag 0x1200 0x0A 5) s =
      respond r 3 false [] (s.enqueueRequest.flag 0x1200 0x0A 5) := by
  have hbad' : frameArmOk (armCtx r data) s.enqueueRequest = false := hbad
  unfold dictWriteElse
  rw [dictServe_of_served h.1, judgeWrite_arm h hlen, hbad']
  rfl

/-- A late event advances its counter and leaves every other object. -/
theorem rdI_late {i u n : Nat} (h : objKey i u n ≠ objKey 0x1201 0x05 0) (s : State) (due : Nat) :
    (s.late due).rdI i u n = s.rdI i u n := by
  rcases late_eq s due with e | e <;> rw [e]
  exact rdI_wrI_other s _ _ _ _ h

/-- The same for an object without instances. -/
theorem rd_late {i u : Nat} (h : objKey i u 0 ≠ objKey 0x1201 0x05 0) (s : State) (due : Nat) :
    (s.late due).rd i u = s.rd i u := rdI_late h s due

/-- A late event changes the objects alone. -/
theorem late_eq_obj (s : State) (due : Nat) : ∃ o, s.late due = { s with obj := o } := by
  unfold State.late
  exact ite_bump_eq s _ _ _ _

/-- At its effect beat the armed length takes effect, and nothing but the objects and the arming changes. -/
theorem frameLengthChange_due {s : State} {b n : Nat} (harm : s.time.armed = some (b, n)) (hdue : b ≤ s.beat) :
    frameLengthChange s = ((s.late b).wr 0x1201 0x01 n).modTime fun t => { t with armed := none } := by
  unfold frameLengthChange
  rw [harm]
  exact if_neg (Nat.not_lt.mpr hdue)

/-- The effect of the accepted write: its object holds the effect beat, and the armed change the beat with the new length. -/
theorem frameArm_armRow (r : DictReq) (data : Bytes) (s : State) :
    frameArm armRow (armCtx r data) s =
      (s.wr 0x1201 0x07 (beNat data)).modTime fun t => { t with armed := some (beNat data, s.rd 0x1201 0x06) } := by
  unfold frameArm
  rw [storeWrite_uint_rw rfl rfl]
  rfl

/-- A bit set reads set, and every other bit as before. -/
theorem bitOf_setBit (v i j : Nat) : bitOf (setBit v i) j = (bitOf v j || decide (i = j)) := by
  simp [bitOf, setBit, Nat.testBit_or, Nat.testBit_two_pow]

/-- FRAME_LENGTH_ARM is a dictionary write whose rejection sets FRAME_MISMATCH. -/
theorem exec_frameLengthArm (r : DictReq) (data : Bytes) (s : State) :
    exec (.frameLengthArm r data) s =
      doneQuiet s (dictWriteElse r 0x1201 0x07 data frameArmOk frameArm (fun _ s => s.flag 0x1200 0x0A 5) s) := rfl

/-- Settles O22: an arming write is accepted or rejected by `frameArmOk`, and the change acts at its armed beat. -/
theorem frameLengthChangesAtItsArmedBeat : Obligations.FrameLengthChangesAtItsArmedBeat := by
  refine ⟨?accepted, ?rejected, ?change⟩
  case accepted =>
    intro s r data hop hfree hlen hleast hmost hold hnew hahead
    have hok : frameArmOk (armCtx r data) s = true := by
      simp [frameArmOk, armCtx, hleast, hmost, hold, hnew, hahead]
    rw [exec_frameLengthArm, frameLengthArm_accepted hop hlen hfree hok, frameArm_armRow]
    refine ⟨_, doneQuiet_respond _ _ _ _ _ rfl rfl rfl rfl rfl, ?armed, answers_respond .., ?length, respond_table .., respond_mem ..⟩
    case armed => rw [respond_time]; rfl
    case length =>
      unfold State.frameLen
      rw [rd_respond _ _ _ _ _ (by decide) (by decide) (by decide)]
      exact rd_wr_other s.enqueueRequest _ _ _ (by decide)
  case rejected =>
    intro s r data hop hlen hsoon
    have hbad : frameArmOk (armCtx r data) s = false := by
      simp [frameArmOk, armCtx, Nat.not_le.mpr hsoon]
    rw [exec_frameLengthArm, frameLengthArm_rejected hop hlen hbad]
    refine ⟨_, doneQuiet_respond _ _ _ _ _ rfl rfl rfl rfl rfl, ?armed, ?mismatch, answers_respond .., respond_table .., respond_mem ..⟩
    case armed => rw [respond_time]; rfl
    case mismatch =>
      rw [rd_respond _ _ _ _ _ (by decide) (by decide) (by decide), rd_flag_same, bitOf_setBit]
      simp
  case change =>
    intro s b n harm hdue
    obtain ⟨o, hlate⟩ := late_eq_obj s b
    have hexec : exec .frameLengthChange s = doneQuiet s (frameLengthChange s) := rfl
    rw [hexec, frameLengthChange_due harm hdue, hlate]
    exact ⟨_, doneQuiet_eq rfl rfl rfl rfl rfl, rd_wr_same .., rfl, rfl, rfl, rfl⟩

end Sys2Proof.Machine
end

section
/-! Parents, the election of the root and the PTP lock (R34 to R36, R44, R368). -/

namespace Sys2Proof.Machine
open Sys2Proof

/-! ## What the discipline of Halyard time leaves alone -/

/-- Nothing but the objects and the time record differs. -/
def SameButTime (s t : State) : Prop := t = { s with obj := t.obj, time := t.time }

/-- An object that neither holdover nor the election of the root writes: outside 0x1200, and not the acting root. -/
def OffElection (i u : Nat) : Prop :=
  (∀ w ≤ 0x0A, objKey i u 0 ≠ objKey 0x1200 w 0) ∧ objKey i u 0 ≠ objKey 0x1202 0x03 0

/-- What holdover, the election and a new parent keep: everything but objects of theirs and the rest of the time record. -/
structure KeepsPtp (s t : State) : Prop where
  same : SameButTime s t
  ptpLock : t.time.ptpLock = s.time.ptpLock
  lockLostAt : t.time.lockLostAt = s.time.lockLostAt
  rd : ∀ {i u}, OffElection i u → t.rd i u = s.rd i u

namespace SameButTime
variable {s t u : State}

theorem refl (s : State) : SameButTime s s := rfl

theorem trans (h : SameButTime s t) (k : SameButTime t u) : SameButTime s u := by
  have hu : u = { t with obj := u.obj, time := u.time } := k
  have ht : t = { s with obj := t.obj, time := t.time } := h
  rw [ht] at hu
  exact hu

theorem eq (h : SameButTime s t) : t = { s with obj := t.obj, time := t.time } := h

theorem count (h : SameButTime s t) : t.count = s.count := by rw [h.eq]

theorem table (h : SameButTime s t) : t.table = s.table := by rw [h.eq]

/-- A quiet command that changes nothing but objects and the time record answers what it did. -/
theorem doneQuiet_eq (h : SameButTime s t) : doneQuiet s t = .next t :=
  Machine.doneQuiet_eq (by rw [h.eq]) (by rw [h.eq]) (by rw [h.eq]) (by rw [h.eq]) (by rw [h.eq])

end SameButTime

namespace KeepsPtp
variable {s t u : State}

theorem refl (s : State) : KeepsPtp s s := ⟨.refl s, rfl, rfl, fun _ => rfl⟩

theorem trans (h : KeepsPtp s t) (k : KeepsPtp t u) : KeepsPtp s u :=
  ⟨h.same.trans k.same, k.ptpLock.trans h.ptpLock, k.lockLostAt.trans h.lockLostAt, fun ho => (k.rd ho).trans (h.rd ho)⟩

/-- An object of the discipline written. -/
theorem wr (h : KeepsPtp s t) {w : Nat} (hw : w ≤ 0x0A) (v : Nat) : KeepsPtp s (t.wr 0x1200 w v) :=
  h.trans ⟨rfl, rfl, rfl, fun ho => rd_wr_other t _ _ _ (ho.1 w hw)⟩

/-- A status bit of the discipline set. -/
theorem flag (h : KeepsPtp s t) {w : Nat} (hw : w ≤ 0x0A) (b : Nat) : KeepsPtp s (t.flag 0x1200 w b) := h.wr hw _

/-- A counter of the discipline advanced. -/
theorem bump (h : KeepsPtp s t) {w : Nat} (hw : w ≤ 0x0A) (n : Nat) : KeepsPtp s (t.bump 0x1200 w n) := h.wr hw _

/-- The acting root written. -/
theorem wrRoot (h : KeepsPtp s t) (v : Nat) : KeepsPtp s (t.wr 0x1202 0x03 v) :=
  h.trans ⟨rfl, rfl, rfl, fun ho => rd_wr_other t _ _ _ ho.2⟩

/-- The time record changed outside the PTP lock. -/
theorem modTime (h : KeepsPtp s t) {f : TimeSt → TimeSt} (hp : ∀ x, (f x).ptpLock = x.ptpLock)
    (hl : ∀ x, (f x).lockLostAt = x.lockLostAt) : KeepsPtp s (t.modTime f) :=
  h.trans ⟨rfl, hp _, hl _, fun _ => rd_congr (s := t) rfl _ _⟩

end KeepsPtp

/-- Holdover writes objects and times of the discipline, and keeps the PTP lock (R42 to R44). -/
theorem enterHoldover_keepsPtp (s : State) : KeepsPtp s (enterHoldover s) := by
  unfold enterHoldover
  extract_lets adv s1 s2
  have h : KeepsPtp s s1 := (KeepsPtp.refl s).wr (by decide) 0
  split_ifs
  · exact h.modTime (fun _ => rfl) fun _ => rfl
  · exact (((h.wr (by decide) 3).bump (by decide) 1).flag (by decide) 2).modTime (fun _ => rfl) fun _ => rfl
  · exact h

/-- A newly best candidate is noted as the acting root, with ROOT_CHANGED. -/
theorem noteRoot_keepsPtp (s : State) (p : Prop) [Decidable p] (v : Nat) :
    KeepsPtp s (if p then s else (s.wr 0x1202 0x03 v).flag 0x1200 0x0A 3) := by
  split_ifs
  · exact .refl s
  · exact ((KeepsPtp.refl s).wrRoot v).flag (by decide) 3

/-- The bounds and the parent of a newly acting root. -/
theorem actRoot_keepsPtp (s : State) :
    KeepsPtp s (let s := (s.wr 0x1200 0x05 0).wr 0x1200 0x06 0
      if s.isHead then s.wr 0x1200 0x04 0 else s) := by
  have h := ((KeepsPtp.refl s).wr (w := 0x05) (by decide) 0).wr (w := 0x06) (by decide) 0
  dsimp only
  split_ifs
  · exact h.wr (by decide) 0
  · exact h

/-- The election writes the acting root and what follows from it, and keeps the PTP lock (R34). -/
theorem electRoot_keepsPtp (s : State) : KeepsPtp s (electRoot s) := by
  unfold electRoot
  extract_lets best was s1 s2 s3
  have h1 : KeepsPtp s s1 := noteRoot_keepsPtp s _ _
  have h3 : KeepsPtp s s3 := h1.trans (actRoot_keepsPtp s1)
  split_ifs
  · exact (h3.wr (by decide) 2).modTime (fun _ => rfl) fun _ => rfl
  · exact h3
  · exact h1.trans (enterHoldover_keepsPtp s1)
  · exact h1

/-! ## A parent taken -/

/-- A change of the time record leaves every object. -/
theorem rd_modTime (s : State) (f : TimeSt → TimeSt) (i u : Nat) : (s.modTime f).rd i u = s.rd i u := rfl

/-- The check of the bounds sets status bits only (R41). -/
theorem checkBounds_keepsPtp (s : State) : KeepsPtp s (checkBounds s) := by
  unfold checkBounds
  extract_lets s1
  have h1 : KeepsPtp s s1 := by
    unfold s1
    split_ifs
    · exact (KeepsPtp.refl s).flag (by decide) 0
    · exact .refl s
  split_ifs
  · exact h1.flag (by decide) 1
  · exact h1

/-- New bounds write the two bounds and the status (R40). -/
theorem setBounds_keepsPtp (k : Nat) (s : State) : KeepsPtp s (setBounds k s) := by
  unfold setBounds
  extract_lets l add reg root
  exact (((KeepsPtp.refl s).wr (by decide) reg).wr (by decide) root).trans (checkBounds_keepsPtp _)

/-- A parent taken writes the discipline's objects and times, and keeps the PTP lock (R38, R40). -/
theorem takeParent_keepsPtp (k : Nat) (s : State) : KeepsPtp s (takeParent k s) := by
  unfold takeParent
  extract_lets s1
  have h1 : KeepsPtp s s1 := ((KeepsPtp.refl s).wr (by decide) (k + 1)).flag (by decide) 4
  split_ifs
  · exact setBounds_keepsPtp k s
  all_goals
    refine KeepsPtp.trans ?_ (setBounds_keepsPtp k _)
    exact h1.modTime (fun _ => rfl) fun _ => rfl

/-- A bit set keeps every status bit that was set. -/
theorem bitOf_rd_flag {s : State} {i u b : Nat} (h : bitOf (s.rd i u) b = true) (v : Nat) :
    bitOf ((s.flag i u v).rd i u) b = true := by
  rw [rd_flag_same, bitOf_setBit, h, Bool.true_or]

/-- The check of the bounds only sets status bits. -/
theorem checkBounds_status {s : State} {b : Nat} (h : bitOf (s.rd 0x1200 0x0A) b = true) :
    bitOf ((checkBounds s).rd 0x1200 0x0A) b = true := by
  unfold checkBounds
  dsimp only
  split_ifs
  · exact bitOf_rd_flag (bitOf_rd_flag h 0) 1
  · exact bitOf_rd_flag h 0
  · exact bitOf_rd_flag h 1
  · exact h

/-- The check of the bounds writes no object but the status. -/
theorem rd_checkBounds {i u : Nat} (h : objKey i u 0 ≠ objKey 0x1200 0x0A 0) (s : State) :
    (checkBounds s).rd i u = s.rd i u := by
  unfold checkBounds
  dsimp only
  split_ifs <;> simp only [rd_flag_other, h, ne_eq, not_false_eq_true]

/-- New bounds leave the parent. -/
theorem rd_setBounds_parent (k : Nat) (s : State) : (setBounds k s).rd 0x1200 0x06 = s.rd 0x1200 0x06 := by
  unfold setBounds
  dsimp only
  rw [rd_checkBounds (by decide), rd_wr_other _ _ _ _ (by decide), rd_wr_other _ _ _ _ (by decide)]

/-- New bounds only set status bits. -/
theorem setBounds_status {k b : Nat} {s : State} (h : bitOf (s.rd 0x1200 0x0A) b = true) :
    bitOf ((setBounds k s).rd 0x1200 0x0A) b = true := by
  refine checkBounds_status ?_
  rwa [rd_wr_other _ _ _ _ (by decide), rd_wr_other _ _ _ _ (by decide)]

/-- A device without a parent that takes the neighbour on link k has it as parent, with PARENT_CHANGED set (R38). -/
theorem takeParent_of_none {s : State} (h : s.rd 0x1200 0x06 = 0) (k : Nat) :
    (takeParent k s).rd 0x1200 0x06 = k + 1 ∧ bitOf ((takeParent k s).rd 0x1200 0x0A) 4 = true := by
  have hnew : ¬s.rd 0x1200 0x06 = k + 1 := by omega
  unfold takeParent
  rw [if_neg hnew]
  constructor
  · rw [rd_setBounds_parent, rd_modTime, rd_flag_other _ _ _ _ (by decide), rd_wr_same]
  · refine setBounds_status ?_
    rw [rd_modTime, rd_flag_same, bitOf_setBit]
    simp

/-- R44: a device in HOLDOVER without a parent, that is not the acting root, takes the best of the neighbours it may take. -/
theorem reparent_of_best {s : State} {k : Nat} (hstate : s.rd 0x1200 0x03 = 3) (hnone : s.rd 0x1200 0x06 = 0)
    (hroot : s.actingRoot = false)
    (hbest : s.bestParent (fun j => s.eligible j && (s.time.guardLapsed || decide ((if s.byRegion then (s.link j).nbRegionBound
      else (s.link j).nbRootBound) < s.time.lastAdvertised))) = some k) :
    reparent s = takeParent k s := by
  simp [reparent, hstate, hnone, hroot, hbest]

/-- R44: once the guard has lapsed, any eligible neighbour may be taken. -/
theorem loopGuardLapse_of_best {s : State} {k b : Nat} (hstate : s.rd 0x1200 0x03 = 3) (hnone : s.rd 0x1200 0x06 = 0)
    (hroot : s.actingRoot = false) (hlost : s.time.lostAt = some b) (hdue : b + 64 ≤ s.beat)
    (hbest : s.bestParent s.eligible = some k) :
    loopGuardLapse s = takeParent k (s.modTime fun t => { t with guardLapsed := true }) := by
  have hlapse : loopGuardLapse s = reparent (s.modTime fun t => { t with guardLapsed := true }) := by
    simp [loopGuardLapse, hlost, hstate, hnone, Nat.not_lt.mpr hdue]
  rw [hlapse]
  refine reparent_of_best hstate hnone hroot ?_
  simp only [modTime_time, Bool.true_or, Bool.and_true]
  exact hbest

/-! ## The PTP lock -/

/-- The PTP lock is lost (R36, R368): the port's clock falls back, and what follows is the election. -/
theorem losePtpLock_spec (s : State) :
    SameButTime s (losePtpLock s) ∧ (losePtpLock s).time.ptpLock = false ∧ (losePtpLock s).rd 0x1104 0x02 = 1 ∧
      (losePtpLock s).rd 0x1202 0x05 = s.rd 0x1202 0x05 := by
  unfold losePtpLock
  extract_lets acting s1
  have h := electRoot_keepsPtp (s1.wr 0x1104 0x02 1)
  have hstart : SameButTime s (s1.wr 0x1104 0x02 1) := rfl
  refine ⟨hstart.trans h.same, h.ptpLock.trans rfl, ?_, ?_⟩
  · rw [h.rd (by unfold OffElection; decide), rd_wr_same]
  · rw [h.rd (by unfold OffElection; decide), rd_wr_other _ _ _ _ (by decide)]
    exact rd_congr rfl _ _

/-- The state after an offset is reported and counted toward the lock or its loss (R35, R368). -/
def noteOffset (o : Int) (s : State) : State :=
  ((s.wr 0x1104 0x03 (intBits 64 o)).wr 0x1202 0x05 (intBits 64 o)).modTime fun t => { t with
    ptpGood := min (if o.natAbs ≤ 50 then s.time.ptpGood + 1 else 0) 16
    ptpBad := min (if 1000 < o.natAbs then s.time.ptpBad + 1 else 0) 16 }

/-- A noted offset changes objects and the time record alone. -/
theorem noteOffset_same (o : Int) (s : State) : SameButTime s (noteOffset o s) := rfl

/-- A noted offset is reported in the PTP offset object (R35). -/
theorem rd_noteOffset (o : Int) (s : State) : (noteOffset o s).rd 0x1202 0x05 = intBits 64 o :=
  rd_wr_same (s.wr 0x1104 0x03 (intBits 64 o)) 0x1202 0x05 _

/-- On a root-capable device with PTP lock, an offset loses the lock where it is the sixteenth in a row beyond 1 µs, and else is
only noted (R368). -/
theorem ptpMessage_sync_locked {s : State} (o : Int) (now : Nat) (hcap : s.rd 0x1202 0x01 = 1) (hup : s.portUp = true)
    (hlock : s.time.ptpLock = true) :
    ptpMessage (.sync o now) s =
      if 16 ≤ (if 1000 < o.natAbs then s.time.ptpBad + 1 else 0) then losePtpLock (noteOffset o s) else noteOffset o s := by
  by_cases hfar : 1000 < o.natAbs <;> simp [ptpMessage, hcap, hup, hlock, noteOffset, hfar]

/-- Settles O24: parents and the loop guard by `takeParent`, the end of holdover by the election, and the PTP lock by `losePtpLock`
on the noted offset. -/
theorem parentsRootsAndPtpLockChange : Obligations.ParentsRootsAndPtpLockChange := by
  refine ⟨?reparent, ?lapse, ?expiry, ?announce, ?drop, ?loses, ?keeps⟩
  case reparent =>
    intro s k hstate hnone hroot hbest
    have hexec : exec .reparent s = doneQuiet s (reparent s) := rfl
    have hkeeps := takeParent_keepsPtp k s
    rw [hexec, reparent_of_best hstate hnone hroot hbest]
    obtain ⟨hparent, hchanged⟩ := takeParent_of_none hnone k
    exact ⟨_, hkeeps.same.doneQuiet_eq, hparent, hchanged, hkeeps.same.count, hkeeps.same.table⟩
  case lapse =>
    intro s k b hstate hnone hroot hlost hdue hbest
    have hexec : exec .loopGuardLapse s = doneQuiet s (loopGuardLapse s) := rfl
    have hguard : SameButTime s (s.modTime fun t => { t with guardLapsed := true }) := rfl
    have hsame := hguard.trans (takeParent_keepsPtp k _).same
    obtain ⟨hparent, -⟩ := takeParent_of_none (s := s.modTime fun t => { t with guardLapsed := true }) hnone k
    rw [hexec, loopGuardLapse_of_best hstate hnone hroot hlost hdue hbest]
    exact ⟨_, hsame.doneQuiet_eq, hparent, hsame.count, hsame.table⟩
  case expiry =>
    intro s b hlost hdue
    have hexec : exec .rootHoldoverExpiry s = doneQuiet s (rootHoldoverExpiry s) := rfl
    have helect : rootHoldoverExpiry s = electRoot (s.modTime fun t => { t with lockLostAt := none }) := by
      simp [rootHoldoverExpiry, hlost, Nat.not_lt.mpr hdue]
    have hend : SameButTime s (s.modTime fun t => { t with lockLostAt := none }) := rfl
    have hkeeps := electRoot_keepsPtp (s.modTime fun t => { t with lockLostAt := none })
    have hsame := hend.trans hkeeps.same
    rw [hexec, helect]
    exact ⟨_, hsame.doneQuiet_eq, hkeeps.lockLostAt, hsame.count, hsame.table⟩
  case announce =>
    intro s hcap hlock
    have hexec : exec .ptpAnnounceTimeout s = doneQuiet s (ptpAnnounceTimeout s) := rfl
    have hlose : ptpAnnounceTimeout s = losePtpLock s := by simp [ptpAnnounceTimeout, hcap, hlock]
    obtain ⟨hsame, hlost, hport, -⟩ := losePtpLock_spec s
    rw [hexec, hlose]
    exact ⟨_, hsame.doneQuiet_eq, hlost, hport, hsame.count, hsame.table⟩
  case drop =>
    intro s m hcap
    have hexec : exec (.ptpMessage m) s = doneQuiet s (ptpMessage m s) := rfl
    have hdrop : ptpMessage m s = s := by simp [ptpMessage, hcap]
    rw [hexec, hdrop]
    exact (SameButTime.refl s).doneQuiet_eq
  case loses =>
    intro s o now hcap hup hlock hbad hfar
    have hexec : exec (.ptpMessage (.sync o now)) s = doneQuiet s (ptpMessage (.sync o now) s) := rfl
    have hlose : ptpMessage (.sync o now) s = losePtpLock (noteOffset o s) := by
      simp [ptpMessage_sync_locked o now hcap hup hlock, hbad, hfar]
    obtain ⟨hstep, hlost, hport, hoffset⟩ := losePtpLock_spec (noteOffset o s)
    have hsame := (noteOffset_same o s).trans hstep
    rw [hexec, hlose]
    exact ⟨_, hsame.doneQuiet_eq, hlost, hport, hoffset.trans (rd_noteOffset o s), hsame.count, hsame.table⟩
  case keeps =>
    intro s o now hcap hup hlock hnear
    have hexec : exec (.ptpMessage (.sync o now)) s = doneQuiet s (ptpMessage (.sync o now) s) := rfl
    have hfar : ¬1000 < o.natAbs := by omega
    have hkeep : ptpMessage (.sync o now) s = noteOffset o s := by
      simp [ptpMessage_sync_locked o now hcap hup hlock, hfar]
    have hsame := noteOffset_same o s
    have hcleared : (noteOffset o s).time.ptpBad = 0 := by simp [noteOffset, hfar]
    rw [hexec, hkeep]
    exact ⟨_, hsame.doneQuiet_eq, hlock, hcleared, rd_noteOffset o s, hsame.count, hsame.table⟩

end Sys2Proof.Machine
end

section
/-! The start of a step (R51, R76, R202, R424). -/

namespace Sys2Proof.Machine
open Sys2Proof

/-! ## This device's part of a step -/

/-- The work with which a step starts: the settings in effect, what arrived for it or a later step, and nothing else (R51, R52, R76). -/
def startWork (s : State) (st : Step) : Work :=
  { Work.none with
    snap := snapNow s st.len
    acts := s.work.acts.filter fun a => decide (st.num ≤ stepOfAct a)
    dispatches := s.work.dispatches.filter fun d => decide (st.num ≤ d.step) }

/-- The step as started on this device, with full redundancy decided (R459). -/
def startedStep (s : State) (st : Step) : Step := { st with started := true, redundancy := decide (s.rd 0x7003 0x01 = 1) }

/-- The start of a step replaces its work, marks it started, and may clear the contexts of a series. -/
theorem beginStep_eq {s : State} {st : Step} (h : s.fab.step = some st) : ∃ c, beginStep s =
    { s with
      work := startWork s st
      fab := { s.fab with step := some (startedStep s st) }
      faults := { s.faults with seriesCtx := c } } := by
  unfold beginStep
  rw [h]
  dsimp only
  split_ifs
  · exact ⟨[], by simp only [State.modStep, h]; rfl⟩
  · exact ⟨s.faults.seriesCtx, by simp only [State.modStep, h]; rfl⟩

/-- A member other than the head starts its part of this frame's visible step at its slot (R51). -/
theorem stepStart_member {s : State} {st : Step} (plan : SeqPlan) (hopen : OpenStep s st) (hsync : s.synced = true)
    (hserv : s.inService = true) (hregion : s.hasRegion = true) (hdoubt : s.fab.inDoubt = none)
    (hdue : s.frameStart + s.slot ≤ s.beat) (hframe : st.frame = s.frameStart) (hhead : s.isHead = false)
    (hvis : st.visible = true) (hstart : st.started = false) :
    stepStart plan s = seqWork plan (beginStep (s.late (s.frameStart + s.slot))) := by
  obtain ⟨hstep, hres⟩ := hopen
  simp [stepStart, hsync, hserv, hregion, hdoubt, Nat.not_lt.mpr hdue, hstep, hframe, hhead, hvis, hstart, hres]

/-- The head composes at its slot where it holds no step (R51). -/
theorem stepStart_head {s : State} (plan : SeqPlan) (hnone : s.fab.step = none) (hsync : s.synced = true)
    (hserv : s.inService = true) (hhead : s.isHead = true) (hdoubt : s.fab.inDoubt = none)
    (hdue : s.frameStart + s.slot ≤ s.beat) :
    stepStart plan s = seqWork plan (headStart s.frameStart (s.late (s.frameStart + s.slot))) := by
  have hregion : s.hasRegion = true := by
    unfold State.isHead at hhead
    exact (Bool.and_eq_true_iff.mp hhead).1
  simp [stepStart, hsync, hserv, hregion, hdoubt, Nat.not_lt.mpr hdue, hnone, hhead]

/-! ## The head's composition -/

/-- Whether a frame is blanked rests on the calibration, the dies, the frame length and the period of the windows (R421, R424). -/
theorem blanked_congr {s t : State} (hcal : t.cal = s.cal) (hdies : t.dies = s.dies) (hlen : t.rd 0x1201 0x01 = s.rd 0x1201 0x01)
    (hper : t.rd 0x2200 0x02 = s.rd 0x2200 0x02) (frame : Nat) : t.blanked frame = s.blanked frame := by
  have hl : t.frameLen = s.frameLen := hlen
  have hdie : t.die = s.die := by funext d; simp only [State.die, hdies]
  have hp : t.windowPeriod = s.windowPeriod := by simp only [State.windowPeriod, hper]
  simp only [State.blanked, State.windowStarting, State.dueWindows, hcal, hl, hdie, hp]

/-- This device is the head by what the region's objects and its straps say. -/
theorem isHead_congr {s t : State} (hreg : t.rd 0x3101 0x09 = s.rd 0x3101 0x09) (hhead : t.rd 0x3101 0x0A = s.rd 0x3101 0x0A)
    (hpow : t.power = s.power) : t.isHead = s.isHead := by
  unfold State.isHead State.hasRegion State.headPos State.pos
  rw [hreg, hhead, hpow]

/-- Objects and straps alike make a head alike. -/
theorem isHead_congr_obj {s t : State} (hobj : t.obj = s.obj) (hpow : t.power = s.power) : t.isHead = s.isHead :=
  isHead_congr (rd_congr hobj _ _) (rd_congr hobj _ _) hpow

/-- A released BATCH makes the head's own step visible (R332). -/
theorem makeVisible_batch_head {s : State} (b : BatchMsg) (hhead : s.isHead = true) (hdoubt : s.fab.inDoubt = none) :
    makeVisible (.batch b) s = s.modStep fun st => { st with visible := true } := by
  simp [makeVisible, hhead, hdoubt]

/-- The release of the one multicast that this device holds. -/
theorem releaseOwn_single {s : State} {o : McOut} (houts : s.fab.outs = [o]) (hopen : o.closed = false) :
    releaseOwn o.mcnum s = makeVisible o.body ((forwardDown 0x06 s.pos o.mcnum s).modFab fun f =>
      { f with outs := f.outs.filter fun x => x.mcnum ≠ o.mcnum }) := by
  simp [releaseOwn, houts, hopen]

/-- A multicast counted, numbered and held by its sender. -/
def holdOut (o : McOut) (s : State) : State := s.takeMcnum.2.modFab fun f => { f with outs := f.outs ++ [o] }

/-- A held multicast goes out to its targets, or is released at once where there is none but this device (R331, R332). -/
theorem sendHeld_cases (body : McBody) (deadline : Nat) (targets : List Nat) (s : State) : ∃ o, o.closed = false ∧ o.body = body ∧
    (sendHeld body deadline targets s = releaseOwn o.mcnum (holdOut o s) ∨
      ∃ x, sendHeld body deadline targets s = (holdOut o s).send x) := by
  let others := targets.filter (· ≠ s.pos)
  let o : McOut := ⟨s.fab.mcNext, deadline, others.length, [], false, body⟩
  have hsend : sendHeld body deadline targets s = if others.isEmpty then releaseOwn o.mcnum (holdOut o s)
      else (holdOut o s).send (.multicast o.mcnum deadline others body) := rfl
  rw [hsend]
  refine ⟨o, rfl, rfl, ?_⟩
  split_ifs
  · exact .inl rfl
  · exact .inr ⟨_, rfl⟩

/-- A held multicast leaves the device the head. -/
theorem isHead_holdOut (o : McOut) (s : State) : (holdOut o s).isHead = s.isHead :=
  isHead_congr (rd_bump_other (s.modFab _) _ _ _ (by decide)) (rd_bump_other (s.modFab _) _ _ _ (by decide)) rfl

/-- What the head's BATCH leaves of its step and of the state: the step, perhaps visible, and the number of the next. -/
structure BatchSent (st : Step) (s t : State) : Prop where
  step : ∃ v, t.fab.step = some { st with visible := v }
  nextStep : t.fab.nextStep = s.fab.nextStep
  table : t.table = s.table
  mem : t.mem = s.mem

/-- The head that holds no other multicast sends its BATCH as one, and, as the region's only member, has it visible at once
(R331, R332). -/
theorem sendHeld_batch {s : State} {st : Step} (b : BatchMsg) (deadline : Nat) (targets : List Nat) (hhead : s.isHead = true)
    (hdoubt : s.fab.inDoubt = none) (houts : s.fab.outs = []) (hstep : s.fab.step = some st) :
    BatchSent st s (sendHeld (.batch b) deadline targets s) := by
  obtain ⟨o, hopen, hbody, hown | ⟨x, hsent⟩⟩ := sendHeld_cases (.batch b) deadline targets s
  · have hone : (holdOut o s).fab.outs = [o] := by
      show s.fab.outs ++ [o] = [o]
      rw [houts, List.nil_append]
    rw [hown, releaseOwn_single hone hopen, hbody, makeVisible_batch_head b]
    · refine ⟨⟨true, ?_⟩, ?_, ?_, ?_⟩ <;> simp [holdOut, State.takeMcnum, forwardDown, State.modStep, hstep]
    · rw [isHead_congr_obj (s := holdOut o s) (by simp [forwardDown]) (by simp [forwardDown])]
      exact ((isHead_holdOut o s).trans hhead)
    · exact hdoubt
  · rw [hsent]
    exact ⟨⟨st.visible, hstep⟩, rfl, rfl, rfl⟩

/-- The step of a blanked frame as the head lays it down: no sequence (R424). -/
def blankBatch (frame : Nat) (s : State) : BatchMsg := ⟨s.fab.nextStep, 1, frame, [], [], []⟩

/-- The head holds the step that it has composed, under the next number, and counts it (R275). -/
def holdStep (b : BatchMsg) (s : State) : State :=
  (s.modFab fun f => { f with step := some (stepOf b false), nextStep := f.nextStep + 1 }).bump 0x5002 0x03 1

/-- In a blanked frame the head composes a step with no sequence, starts it, and sends its BATCH (R424). -/
theorem headStart_blanked {s : State} {frame : Nat} (h : s.blanked frame = true) : ∃ deadline targets,
    headStart frame s = sendHeld (.batch (blankBatch frame s)) deadline targets (beginStep (holdStep (blankBatch frame s) s)) := by
  have hc : composeStep frame s = ([], [], 1, s) := by simp [composeStep, h]
  unfold headStart
  rw [hc]
  exact ⟨_, _, rfl⟩

/-- What the head holds after its start in a blanked frame: the step, started and with no sequence, and nothing new elsewhere. -/
theorem headStart_blanked_spec {s : State} {frame : Nat} (hblank : s.blanked frame = true) (hhead : s.isHead = true)
    (hdoubt : s.fab.inDoubt = none) (houts : s.fab.outs = []) :
    ∃ u, (headStart frame s).fab.step = some u ∧ u.started = true ∧ u.num = s.fab.nextStep ∧ u.len = [] ∧ u.frame = frame ∧
      (headStart frame s).fab.nextStep = s.fab.nextStep + 1 ∧ (headStart frame s).table = s.table ∧
      (headStart frame s).mem = s.mem := by
  obtain ⟨deadline, targets, hstart⟩ := headStart_blanked hblank
  let b := blankBatch frame s
  obtain ⟨c, hbegin⟩ := beginStep_eq (s := holdStep b s) (st := stepOf b false) rfl
  have hhead1 : (holdStep b s).isHead = s.isHead :=
    isHead_congr (rd_bump_other (s.modFab _) _ _ _ (by decide)) (rd_bump_other (s.modFab _) _ _ _ (by decide)) rfl
  have hhead2 : (beginStep (holdStep b s)).isHead = (holdStep b s).isHead :=
    isHead_congr_obj (by rw [hbegin]) (by rw [hbegin])
  obtain ⟨⟨v, hstep⟩, hnext, htable, hmem⟩ := sendHeld_batch (st := startedStep (holdStep b s) (stepOf b false)) b deadline targets
    (hhead2.trans (hhead1.trans hhead)) (by rw [hbegin]; exact hdoubt) (by rw [hbegin]; exact houts) (by rw [hbegin])
  rw [hstart]
  refine ⟨_, hstep, rfl, rfl, rfl, rfl, hnext.trans ?_, htable.trans ?_, hmem.trans ?_⟩ <;> rw [hbegin] <;> rfl

/-! ## What a late start keeps -/

section Late
variable (s : State) (due : Nat)

@[simp] theorem late_fab : (s.late due).fab = s.fab := by obtain ⟨o, h⟩ := late_eq_obj s due; rw [h]
@[simp] theorem late_table : (s.late due).table = s.table := by obtain ⟨o, h⟩ := late_eq_obj s due; rw [h]
@[simp] theorem late_mem : (s.late due).mem = s.mem := by obtain ⟨o, h⟩ := late_eq_obj s due; rw [h]
@[simp] theorem late_cal : (s.late due).cal = s.cal := by obtain ⟨o, h⟩ := late_eq_obj s due; rw [h]
@[simp] theorem late_dies : (s.late due).dies = s.dies := by obtain ⟨o, h⟩ := late_eq_obj s due; rw [h]
@[simp] theorem late_power : (s.late due).power = s.power := by obtain ⟨o, h⟩ := late_eq_obj s due; rw [h]
@[simp] theorem late_qmonCopy : (s.late due).qmonCopy = s.qmonCopy := by obtain ⟨o, h⟩ := late_eq_obj s due; rw [h]
@[simp] theorem late_bufs : (s.late due).bufs = s.bufs := by obtain ⟨o, h⟩ := late_eq_obj s due; rw [h]
@[simp] theorem late_granZero : (s.late due).granZero = s.granZero := by obtain ⟨o, h⟩ := late_eq_obj s due; rw [h]
@[simp] theorem late_faults : (s.late due).faults = s.faults := by obtain ⟨o, h⟩ := late_eq_obj s due; rw [h]
@[simp] theorem late_count : (s.late due).count = s.count := by obtain ⟨o, h⟩ := late_eq_obj s due; rw [h]

/-- A late start leaves the device the head that it was. -/
theorem isHead_late : (s.late due).isHead = s.isHead :=
  isHead_congr (rd_late (by decide) s due) (rd_late (by decide) s due) (late_power s due)

/-- A late start leaves the frame blanked or not. -/
theorem blanked_late (frame : Nat) : (s.late due).blanked frame = s.blanked frame :=
  blanked_congr (late_cal s due) (late_dies s due) (rd_late (by decide) s due) (rd_late (by decide) s due) frame

end Late

/-! ## What the sequencers allot -/

/-- The beat is read from the count (R32). -/
theorem beat_congr {s t : State} (h : t.count = s.count) : t.beat = s.beat := by
  unfold State.beat; rw [h]

/-- Whether a run of granules can be allotted rests on the buffers, what is being zeroed or retired, the beat and the context's
most scratchpad (R202, R293). -/
theorem canAllot_congr {s t : State} {a : Allot} (hbufs : t.bufs = s.bufs) (hzero : t.granZero = s.granZero)
    (hret : t.faults.retiredUnits = s.faults.retiredUnits) (hbeat : t.beat = s.beat)
    (hmost : t.rdI 0x5021 0x03 a.ctx = s.rdI 0x5021 0x03 a.ctx) : t.canAllot a = s.canAllot a := by
  have htaken : t.granuleTaken = s.granuleTaken := by
    funext g
    simp only [State.granuleTaken, State.takenGranules, hbufs, hzero, hret]
  simp only [State.canAllot, hbufs, hbeat, hmost, htaken]

/-- A plan of one run that can be allotted gives its context one buffer, under a lease from now on (R202, R465). -/
theorem seqWork_one {s : State} {a : Allot} (h : s.canAllot a = true) :
    seqWork ⟨[a], []⟩ s = { s with bufs := s.bufs ++ [⟨a.ctx, a.base, 65536 * a.count, s.beat, false⟩] } := by
  simp [seqWork, allot, h]

/-- The sequencers' plan leaves the fabric, the step's work, the table and memory of a start as they were. -/
theorem done_seqWork (plan : SeqPlan) (s u : State) : ∃ t, done s (seqWork plan u) = .next t ∧ t.fab = u.fab ∧ t.work = u.work ∧
    t.table = u.table ∧ t.mem = u.mem := by
  obtain ⟨b, e, h⟩ := seqWork_eq plan u
  rw [h]
  exact ⟨_, rfl, rfl, rfl, rfl, rfl⟩

/-- STEP_START answers what it did with the queue as it was. -/
theorem exec_stepStart (plan : SeqPlan) (s : State) : exec (.stepStart plan) s = done s (stepStart plan s) := rfl

/-- Settles O26: a member begins its part, the head begins an empty step, and the plan's one run becomes a buffer. -/
theorem aStepStartsAtItsSlot : Obligations.AStepStartsAtItsSlot := by
  refine ⟨?member, ?blanked, ?allots⟩
  case member =>
    intro s plan st hopen hsync hserv hregion hdoubt hdue hframe hhead hvis hstart
    obtain ⟨c, hbegin⟩ := beginStep_eq (s := s.late (s.frameStart + s.slot)) (st := st) (by rw [late_fab]; exact hopen.1)
    obtain ⟨t, hexec, hfab, hwork, htable, hmem⟩ := done_seqWork plan s (beginStep (s.late (s.frameStart + s.slot)))
    rw [← stepStart_member plan hopen hsync hserv hregion hdoubt hdue hframe hhead hvis hstart, ← exec_stepStart] at hexec
    rw [hbegin] at hfab hwork htable hmem
    refine ⟨t, startedStep (s.late (s.frameStart + s.slot)) st, hexec, by rw [hfab], rfl, rfl, rfl, ?qmon, ?_, ?_, ?_, ?_, ?_⟩
    case qmon => rw [hwork]; exact late_qmonCopy s _
    · rw [hwork]; rfl
    · rw [hwork]; rfl
    · rw [hwork]; rfl
    · rw [htable, late_table]
    · rw [hmem, late_mem]
  case blanked =>
    intro s plan hnone houts hsync hserv hhead hdoubt hdue hblank
    obtain ⟨u, hstep, hstarted, hnum, hlen, hframe, hnext, htable, hmem⟩ := headStart_blanked_spec
      (s := s.late (s.frameStart + s.slot)) (frame := s.frameStart) ((blanked_late s _ _).trans hblank)
      ((isHead_late s _).trans hhead) (by rw [late_fab]; exact hdoubt) (by rw [late_fab]; exact houts)
    obtain ⟨t, hexec, hfab, -, htable', hmem'⟩ := done_seqWork plan s (headStart s.frameStart (s.late (s.frameStart + s.slot)))
    rw [← stepStart_head plan hnone hsync hserv hhead hdoubt hdue, ← exec_stepStart] at hexec
    rw [late_fab] at hnum hnext
    rw [← hfab] at hstep hnext
    exact ⟨t, u, hexec, hstep, hstarted, hnum, hlen, hframe, hnext, by rw [htable', htable, late_table],
      by rw [hmem', hmem, late_mem]⟩
  case allots =>
    intro s a st hopen hsync hserv hregion hdoubt hdue hframe hhead hvis hstart hcan
    let due := s.frameStart + s.slot
    obtain ⟨c, hbegin⟩ := beginStep_eq (s := s.late due) (st := st) (by rw [late_fab]; exact hopen.1)
    have hmost : (beginStep (s.late due)).rdI 0x5021 0x03 a.ctx = s.rdI 0x5021 0x03 a.ctx :=
      (rdI_congr (by rw [hbegin]) _ _ _).trans (rdI_late (by unfold objKey; omega) s due)
    have hbeat : (beginStep (s.late due)).beat = s.beat := beat_congr (by rw [hbegin, late_count])
    have hbufs : (beginStep (s.late due)).bufs = s.bufs := by rw [hbegin, late_bufs]
    have hcan' : (beginStep (s.late due)).canAllot a = true :=
      (canAllot_congr hbufs (by rw [hbegin, late_granZero]) (by rw [hbegin, late_faults]) hbeat hmost).trans hcan
    rw [exec_stepStart, stepStart_member _ hopen hsync hserv hregion hdoubt hdue hframe hhead hvis hstart, seqWork_one hcan',
      hbufs, hbeat]
    refine ⟨_, rfl, rfl, ?_⟩
    show (beginStep (s.late due)).mem = s.mem
    rw [hbegin, late_mem]

end Sys2Proof.Machine
end

section
/-! Array reads: their column totals, the confidence check, the mean of a group, and the idle time after it (R73, R86 to R89, R98). -/

namespace Sys2Proof.Machine
open Sys2Proof

/-! ## A read settles every physical column -/

/-- A result that settles all 560 physical columns and adds none of them to the read's columns yet. -/
structure Settles (c : Conv) (r : List Settled × Conv) : Prop where
  length : r.1.length = 560
  cols : r.2.cols = c.cols

@[simp] theorem codesOf_length (rr : ReadRun) (p sub range : Nat) (bands : List Nat) :
    (codesOf rr p sub range bands).length = 560 := by
  simp [codesOf]

/-- A sub-phase of one band, escalated or not, settles every column (R81). -/
theorem settleSingle_settles (rr : ReadRun) (p band : Nat) {need : List Bool} (hneed : need.length = 560) (c : Conv) :
    Settles c (settleSingle rr p band need c) := by
  unfold settleSingle
  extract_lets ks lim c1 unit es out
  have hlim : lim.length = 560 := by simp [lim, ks, hneed]
  split_ifs
  · exact ⟨by simp [ks, hlim], rfl⟩
  · exact ⟨by simp [out, ks, es, hlim], rfl⟩

/-- A group settles every column: as one sub-phase, or by the single bands that R80 runs after it. -/
theorem settleGroup_settles (rr : ReadRun) (p : Nat) (bands : List Nat) (c : Conv) : Settles c (settleGroup rr p bands c) := by
  unfold settleGroup
  split
  next b => exact settleSingle_settles rr p b (List.length_replicate ..) c
  next =>
    extract_lets ks lim c1 unit r
    have hlim : lim.length = 560 := by simp [lim, ks]
    have hbands : Settles c1 r := by
      refine List.foldlRecOn bands _ ⟨List.length_replicate .., rfl⟩ fun a ha b _ => ?_
      have hb := settleSingle_settles rr p b hlim { a.2 with fallbacks := a.2.fallbacks + 1 }
      exact ⟨by simp [ha.length, hb.length], hb.cols.trans ha.cols⟩
    split_ifs
    · exact ⟨by simp [ks, hlim], rfl⟩
    · exact ⟨by simp [ks, hlim, hbands.length], hbands.cols⟩

/-- A phase keeps one total for each of the 560 columns (R74, R124). -/
theorem runPhase_cols_length (rr : ReadRun) (p : Nat) {c : Conv} (h : c.cols.length = 560) :
    (runPhase rr c p).cols.length = 560 := by
  unfold runPhase
  extract_lets act groups c1
  have h1 : c1.cols.length = 560 := by unfold c1; split_ifs <;> exact h
  split_ifs
  · exact h
  · refine List.foldlRecOn (motive := fun d : Conv => d.cols.length = 560) groups _ h1 fun d hd g _ => ?_
    have hg := settleGroup_settles rr p g d
    simp [hg.length, hg.cols, hd]

/-- A read delivers the totals of 560 columns (R59, R126). -/
theorem readOut_runRead_length (rr : ReadRun) : (readOut (runRead rr)).totals.length = 560 := by
  have h : (runRead rr).cols.length = 560 :=
    List.foldlRecOn (motive := fun c : Conv => c.cols.length = 560) _ _ (List.length_replicate ..)
      fun _ hc p _ => runPhase_cols_length rr p hc
  simpa [readOut] using h

/-! ## What the commands of a read group leave alone -/

/-- Nothing but objects, the draws, the arrays, the load's events, the monitor's reads and the step's work differs. -/
def SameButReads (s t : State) : Prop :=
  t = { s with obj := t.obj, draws := t.draws, arrays := t.arrays, load := t.load, monReads := t.monReads, work := t.work }

/-- The columns in service are the same: what is bad, what the spares stand for, and whether the array has failed. -/
structure SameColumns (x y : Arr) : Prop where
  badCols : y.badCols = x.badCols
  spares : y.spares = x.spares
  failed : y.failed = x.failed

/-- What surrounds the change of a read record keeps: the records, the settings of the step, and every array's columns. -/
structure KeepsReads (s t : State) : Prop where
  same : SameButReads s t
  reads : t.work.reads = s.work.reads
  snap : t.work.snap = s.work.snap
  columns : ∀ a, SameColumns (s.arr a) (t.arr a)

namespace SameButReads
variable {s t u : State}

theorem refl (s : State) : SameButReads s s := rfl

theorem trans (h : SameButReads s t) (k : SameButReads t u) : SameButReads s u := by
  unfold SameButReads at h k ⊢
  rw [h] at k
  exact k

theorem table (h : SameButReads s t) : t.table = s.table := by rw [h]

theorem mem (h : SameButReads s t) : t.mem = s.mem := by rw [h]

/-- The change of a read record is the change of the step's work. -/
theorem modRead (h : SameButReads s t) (rid : Nat) (f : ReadRec → ReadRec) : SameButReads s (t.modRead rid f) := h.trans rfl

/-- A quiet command of a read group answers what it did. -/
theorem doneQuiet_eq (h : SameButReads s t) : doneQuiet s t = .next t :=
  Machine.doneQuiet_eq (by rw [h]) (by rw [h]) (by rw [h]) (by rw [h]) (by rw [h])

end SameButReads

namespace SameColumns
variable {x y z : Arr}

theorem refl (x : Arr) : SameColumns x x := ⟨rfl, rfl, rfl⟩

theorem trans (h : SameColumns x y) (k : SameColumns y z) : SameColumns x z :=
  ⟨k.badCols.trans h.badCols, k.spares.trans h.spares, k.failed.trans h.failed⟩

theorem goodRefs (h : SameColumns x y) : goodRefs y = goodRefs x := by unfold Machine.goodRefs; rw [h.badCols]

theorem lostCol (h : SameColumns x y) (l : Nat) : lostCol y l = lostCol x l := by
  unfold Machine.lostCol hotSpare; rw [h.badCols, h.spares]

end SameColumns

namespace KeepsReads
variable {s t u : State}

theorem refl (s : State) : KeepsReads s s := ⟨.refl s, rfl, rfl, fun _ => .refl _⟩

theorem trans (h : KeepsReads s t) (k : KeepsReads t u) : KeepsReads s u :=
  ⟨h.same.trans k.same, k.reads.trans h.reads, k.snap.trans h.snap, fun a => (h.columns a).trans (k.columns a)⟩

/-- A counter of a layer slot advanced. -/
theorem bumpSlot (h : KeepsReads s t) (slot sub n : Nat) : KeepsReads s (t.bumpSlot slot sub n) :=
  h.trans ⟨rfl, rfl, rfl, fun _ => .refl _⟩

/-- An array changed outside its columns. -/
theorem modArr (h : KeepsReads s t) (a : Nat) {f : Arr → Arr} (hf : ∀ x, SameColumns x (f x)) : KeepsReads s (t.modArr a f) := by
  refine h.trans ⟨rfl, rfl, rfl, fun b => ?_⟩
  by_cases hb : b = a
  · subst hb; rw [arr_modArr_same]; exact hf _
  · rw [arr_modArr_other t a f hb]; exact .refl _

/-- One of two continuations. -/
theorem ite {p : Prop} [Decidable p] (h : KeepsReads s t) (k : KeepsReads s u) : KeepsReads s (if p then t else u) := by
  split_ifs
  · exact h
  · exact k

theorem readRec? (h : KeepsReads s t) (rid : Nat) : t.readRec? rid = s.readRec? rid := by unfold State.readRec?; rw [h.reads]

theorem gainAt (h : KeepsReads s t) (a : Nat) : t.gainAt a = s.gainAt a := by unfold State.gainAt; rw [h.snap]

end KeepsReads

/-- The reads counted for the quality monitor, and a sample that falls due, are outside the arrays and the records (R114). -/
theorem countRead_keepsReads (r : ReadRec) (s : State) : KeepsReads s (countRead r s) := by
  unfold countRead
  extract_lets s1
  have h1 : KeepsReads s s1 := ⟨rfl, rfl, rfl, fun _ => .refl _⟩
  exact .ite (.refl s) (.ite (h1.trans ⟨rfl, rfl, rfl, fun _ => .refl _⟩) h1)

theorem countRead_arrays (r : ReadRec) (s : State) : (countRead r s).arrays = s.arrays := by
  unfold countRead
  extract_lets s1
  split_ifs <;> rfl

/-- A read's contribution to the drift estimate is in the accumulators of its array alone (R101). -/
theorem accumulateDrift_keepsReads (a : Nat) (gt : F32) (rprod : List Int) (o : ReadOut) (s : State) :
    KeepsReads s (accumulateDrift a gt rprod o s) := by
  unfold accumulateDrift
  refine .ite (.refl s) ((KeepsReads.refl s).modArr a fun x => ?_)
  refine List.foldlRecOn (goodRefs x) _ (SameColumns.refl x) fun y hy q _ => hy.trans ?_
  dsimp only
  split_ifs <;> exact ⟨rfl, rfl, rfl⟩

/-- A first check counted for an array is in its record of checks alone (R191). -/
theorem countCheck_keepsReads (a : Nat) (failed : Bool) (s : State) : KeepsReads s (countCheck a failed s) := by
  unfold countCheck
  exact (KeepsReads.refl s).modArr a fun _ => ⟨rfl, rfl, rfl⟩

/-- An array that retires keeps its columns (R191). -/
theorem retireArray_keepsReads (a : Nat) (s : State) : KeepsReads s (retireArray a s) := by
  unfold retireArray
  have h : KeepsReads s (s.modArr a fun x => { x with retired := true }) := (KeepsReads.refl s).modArr a fun _ => ⟨rfl, rfl, rfl⟩
  exact .ite (.refl s) (h.trans ⟨rfl, rfl, rfl, fun _ => .refl _⟩)

/-! ## The record of a read group -/

/-- A record found under an identifier bears it. -/
theorem rid_of_readRec? {s : State} {rid : Nat} {r : ReadRec} (h : s.readRec? rid = some r) : r.rid = rid := by
  simpa using List.find?_some h

/-- After a change of the records with an identifier, which they keep, the record found is the changed one. -/
theorem readRec?_modRead {s : State} {rid : Nat} {r : ReadRec} (h : s.readRec? rid = some r) {f : ReadRec → ReadRec}
    (hf : ∀ x, (f x).rid = x.rid) : (s.modRead rid f).readRec? rid = some (f r) := by
  have hrid : ∀ x : ReadRec, (if x.rid = rid then f x else x).rid = x.rid := fun x => by split_ifs <;> simp [hf]
  show (s.work.reads.map fun x => if x.rid = rid then f x else x).find? _ = _
  simp only [List.find?_map, Function.comp_def, hrid]
  rw [show s.work.reads.find? (fun x => decide (x.rid = rid)) = some r from h]
  simp [rid_of_readRec? h]

/-! ## ARRAY_READ -/

/-- A record takes the first read of its group (R73). -/
def takeFirst (c : Conv) (r : ReadRec) : ReadRec :=
  { r with reads := r.reads ++ [readOut c], subphases := r.subphases + c.sub, took := r.took + 50 * c.sub, phase := .converted }

/-- The first read of a group on a free array is taken into its record, and no array changes (R73, R74). -/
theorem arrayRead_first {s : State} {rid : Nat} {r : ReadRec} (h : s.readRec? rid = some r) (hphase : r.phase = .driven)
    (hwork : s.working = true) (hreadable : s.readable r.arr = true) (hfree : s.arrayBusy r.arr rid = false) :
    ∃ rr v, KeepsReads s v ∧ v.arrays = s.arrays ∧ arrayRead rid .clean s = v.modRead rid (takeFirst (runRead rr)) := by
  unfold arrayRead
  rw [h]
  dsimp -zeta only
  extract_lets first again m range rr c s1 s2 s3 s4 s5 s6
  have hgo : ¬(!s.working || !(first || again) || !s.readable r.arr || (first && s.arrayBusy r.arr rid)) = true := by
    simp [first, hphase, hwork, hreadable, hfree]
  rw [if_neg hgo]
  have h1 : KeepsReads s s1 := ⟨rfl, rfl, rfl, fun _ => .refl _⟩
  have h2 : KeepsReads s s2 := ((((h1.bumpSlot ..).bumpSlot ..).bumpSlot ..).bumpSlot ..).bumpSlot ..
  have h3 : KeepsReads s s3 := .ite h2 (h2.bumpSlot ..)
  have h4 : KeepsReads s s4 := .ite (h3.bumpSlot ..) h3
  have harrays : s4.arrays = s.arrays := by unfold s4 s3; split_ifs <;> rfl
  refine ⟨rr, s5, h4.trans (countRead_keepsReads r s4), (countRead_arrays r s4).trans harrays, ?_⟩
  show s6 = _
  simp only [s6, first, hphase, if_true]
  rfl

/-! ## The end of a group -/

/-- Whether a group ends with LOWCONF: its check failed, too few references serve, or its array or a column of it is lost
(R62, R63, R88). -/
def endsLow (a : Arr) (failed : Bool) : Bool :=
  failed || decide ((goodRefs a).length < 12) || a.failed || (List.range 512).any (lostCol a)

/-- A record delivered with its leaves, then idle or done (R98). -/
def deliverTo (leaves : List (Int × Bool)) (low : Bool) (took idle : Nat) (r : ReadRec) : ReadRec :=
  { r with
    leaf := leaves.map (·.1), sat := leaves.map (·.2), lowconf := low, took := took
    phase := if idle = 0 then .done else .idle }

/-- The leaves that a group delivers: one for each of the 512 logical columns (R62, R66, R127). -/
def leavesOf (s : State) (r : ReadRec) : List (Int × Bool) :=
  (List.range 512).map (leafOf (s.arr r.arr) r.reads (s.recipe r.slot 6 = 1))

/-- The end of a group delivers the leaves of its 512 columns to its record. -/
theorem deliverRead_eq (r : ReadRec) (failed : Bool) (checkTime : Nat) (s : State) : ∃ v took idle, KeepsReads s v ∧
    deliverRead r failed checkTime s = v.modRead r.rid (deliverTo (leavesOf s r) (endsLow (s.arr r.arr) failed) took idle) := by
  unfold deliverRead
  extract_lets a dup leaves few low s1 s2 took idle s3
  have h1 : KeepsReads s s1 := .ite (retireArray_keepsReads _ s) (.refl s)
  have h2 : KeepsReads s s2 := .ite (h1.bumpSlot _ _ _) h1
  have h3 : KeepsReads s s3 := .ite h2 (h2.modArr _ fun _ => ⟨rfl, rfl, rfl⟩)
  exact ⟨s3, took, idle, h3, rfl⟩

/-- What the delivery of a group leaves in its record, and that it leaves the rest of the state alone. -/
structure Delivered (s t : State) (rid : Nat) (r u : ReadRec) (low : Bool) : Prop where
  same : SameButReads s t
  found : t.readRec? rid = some u
  phase : u.phase = .done ∨ u.phase = .idle
  lowconf : u.lowconf = low
  leaf : u.leaf.length = 512
  reads : u.reads = r.reads

/-- A group whose record is found is delivered. -/
theorem deliverRead_delivered {s v : State} {rid : Nat} {r : ReadRec} (h : s.readRec? rid = some r) (hv : KeepsReads s v)
    (failed : Bool) (checkTime : Nat) :
    ∃ u, Delivered s (deliverRead r failed checkTime v) rid r u (endsLow (s.arr r.arr) failed) := by
  obtain ⟨w, took, idle, hw, heq⟩ := deliverRead_eq r failed checkTime v
  have hkeep := hv.trans hw
  have hfound : w.readRec? r.rid = some r := by rw [rid_of_readRec? h, hkeep.readRec?, h]
  have hcols := hv.columns r.arr
  have hlow : endsLow (v.arr r.arr) failed = endsLow (s.arr r.arr) failed := by
    unfold endsLow
    rw [hcols.goodRefs, hcols.failed, funext hcols.lostCol]
  rw [heq, hlow]
  refine ⟨deliverTo (leavesOf v r) (endsLow (s.arr r.arr) failed) took idle r, hkeep.same.modRead .., ?found, ?phase, rfl, ?leaf,
    rfl⟩
  case found =>
    rw [← rid_of_readRec? h]
    exact readRec?_modRead hfound fun _ => rfl
  case phase => exact ite_eq_or_eq (idle = 0) ReadPhase.done .idle
  case leaf => simp [deliverTo, leavesOf]

/-! ## CONFIDENCE_CHECK -/

/-- The check of a group's totals against its array's serviceable references (R86). -/
def groupPasses (s : State) (r : ReadRec) (totals : List Int) (qsum : List Nat) : Bool :=
  checkPasses (goodRefs (s.arr r.arr)) (s.gainAt r.arr) r.tau r.asum r.rprod totals qsum

/-- What is kept around the records is all that the check of a group sees. -/
theorem KeepsReads.groupPasses {s t : State} (h : KeepsReads s t) (r : ReadRec) (totals : List Int) (qsum : List Nat) :
    groupPasses t r totals qsum = groupPasses s r totals qsum := by
  unfold Machine.groupPasses
  rw [(h.columns r.arr).goodRefs, h.gainAt]

/-- A record goes on to its repeats (R87). -/
def startRepeats (r : ReadRec) : ReadRec := { r with phase := .repeating, took := r.took + 10 }

/-- The first read's check delivers the group, starts its repeats, or delivers it with LOWCONF (R86 to R88). -/
theorem confidenceCheck_first {s : State} {rid : Nat} {r : ReadRec} {o : ReadOut} (h : s.readRec? rid = some r)
    (hreads : r.reads = [o]) (hphase : r.phase = .converted) (hwork : s.working = true) :
    ∃ v w, KeepsReads s v ∧ KeepsReads s w ∧ confidenceCheck rid s =
      if groupPasses s r o.totals o.qsum then deliverRead r false 10 v
      else if r.repeats = 0 then deliverRead r true 10 w
      else w.modRead rid startRepeats := by
  unfold confidenceCheck
  rw [h]
  dsimp -zeta only
  rw [hreads]
  dsimp -zeta only
  rw [if_neg (by simp [hphase, hwork])]
  extract_lets s1 ok s2 s3
  have h1 : KeepsReads s s1 := .ite (.refl s) (accumulateDrift_keepsReads ..)
  have h2 : KeepsReads s s2 := h1.trans (countCheck_keepsReads ..)
  have hok : ok = groupPasses s r o.totals o.qsum := h1.groupPasses r o.totals o.qsum
  rw [hok]
  exact ⟨s2, s3, h2, h2.bumpSlot .., rfl⟩

/-- A group on an array with twelve references and no column lost, whose check passes, ends without LOWCONF (R63, R88). -/
theorem endsLow_of_sound {a : Arr} (hrefs : 12 ≤ (goodRefs a).length) (hfailed : a.failed = false)
    (hcols : ∀ c, c < 512 → lostCol a c = false) : endsLow a false = false := by
  have hany : (List.range 512).any (lostCol a) = false := by
    rw [List.any_eq_false]
    intro c hc
    simp [hcols c (List.mem_range.mp hc)]
  simp [endsLow, hany, hfailed, Nat.not_lt.mpr hrefs]

/-! ## REPEAT_READ_MEAN -/

/-- The mean of a complete group is checked once and the group is delivered (R89). -/
theorem repeatReadMean_complete {s : State} {rid : Nat} {r : ReadRec} (h : s.readRec? rid = some r)
    (hphase : r.phase = .repeating) (hreads : r.reads.length = 1 + r.repeats) (hwork : s.working = true) :
    ∃ v failed, KeepsReads s v ∧ repeatReadMean rid .clean s = deliverRead r failed 10 v := by
  unfold repeatReadMean
  rw [h]
  dsimp -zeta only
  rw [if_neg (by simp [hphase, hreads, hwork])]
  extract_lets k s1 totals qmax ok
  have hfold : KeepsReads s ((r.reads.drop 1).foldl (fun s o => accumulateDrift r.arr r.gtRead r.rprod o s) s) :=
    List.foldlRecOn _ _ (.refl s) fun t ht o _ => ht.trans (accumulateDrift_keepsReads ..)
  exact ⟨s1, !ok, .ite (.refl s) hfold, rfl⟩

/-! ## READ_GROUP_IDLE_END -/

/-- A read group whose idle time has passed is done (R98). -/
def endIdle (a : Nat) (r : ReadRec) : ReadRec := if r.arr = a && r.phase = .idle then { r with phase := .done } else r

/-- A group of the array is idle no longer. -/
theorem endIdle_phase {a : Nat} {r : ReadRec} (h : (endIdle a r).arr = a) : (endIdle a r).phase ≠ .idle := by
  unfold endIdle at h ⊢
  split_ifs at h ⊢ with hidle
  · simp
  · simpa [h] using hidle

/-- An array without an idle time. -/
def clearIdle (x : Arr) : Arr := { x with idleUntil := 0 }

/-- Once the idle time has passed, it is cleared and its groups are done (R98). -/
theorem readGroupIdleEnd_due {s : State} {a : Nat} (hset : (s.arr a).idleUntil ≠ 0)
    (hdue : (s.arr a).idleUntil ≤ s.count.toNat) : readGroupIdleEnd a s =
      (s.modArr a clearIdle).modWork fun w => { w with reads := w.reads.map (endIdle a) } := by
  unfold readGroupIdleEnd
  rw [if_neg (by simp [hset, hdue])]
  rfl

/-! ## The obligation -/

/-- ARRAY_READ answers what it did with the queue as it was. -/
theorem exec_arrayRead (rid : Nat) (hw : HwCheck) (s : State) : exec (.arrayRead rid hw) s = doneQuiet s (arrayRead rid hw s) := rfl

/-- CONFIDENCE_CHECK answers what it did with the queue as it was. -/
theorem exec_confidenceCheck (rid : Nat) (s : State) : exec (.confidenceCheck rid) s = doneQuiet s (confidenceCheck rid s) := rfl

/-- REPEAT_READ_MEAN answers what it did with the queue as it was. -/
theorem exec_repeatReadMean (rid : Nat) (hw : HwCheck) (s : State) :
    exec (.repeatReadMean rid hw) s = doneQuiet s (repeatReadMean rid hw s) := rfl

/-- READ_GROUP_IDLE_END answers what it did with the queue as it was. -/
theorem exec_readGroupIdleEnd (a : Nat) (s : State) : exec (.readGroupIdleEnd a) s = doneQuiet s (readGroupIdleEnd a s) := rfl

/-- Settles O28: the read is taken into its record, the two checks end in a delivery or in repeats, and the idle time is cleared. -/
theorem arrayReadsAreCheckedAndDelivered : Obligations.ArrayReadsAreCheckedAndDelivered := by
  refine ⟨?read, ?passes, ?fails, ?mean, ?idleEnd⟩
  case read =>
    intro s rid r h hphase hwork hreadable hfree
    obtain ⟨rr, v, hv, harrays, heq⟩ := arrayRead_first h hphase hwork hreadable hfree
    have hsame : SameButReads s (v.modRead rid (takeFirst (runRead rr))) := hv.same.modRead ..
    rw [exec_arrayRead, heq]
    exact ⟨_, takeFirst (runRead rr) r, readOut (runRead rr), hsame.doneQuiet_eq,
      readRec?_modRead ((hv.readRec? rid).trans h) fun _ => rfl, rfl, rfl, readOut_runRead_length rr, Nat.le_add_right ..,
      harrays, hsame.table, hsame.mem⟩
  case passes =>
    intro s rid r o h hreads hphase hwork hcheck hrefs hfailed hcols
    obtain ⟨v, _, hv, _, heq⟩ := confidenceCheck_first h hreads hphase hwork
    obtain ⟨u, hu⟩ := deliverRead_delivered h hv false 10
    have hpasses : groupPasses s r o.totals o.qsum = true := hcheck
    rw [exec_confidenceCheck, heq, if_pos hpasses]
    exact ⟨_, u, hu.same.doneQuiet_eq, hu.found, hu.phase, hu.lowconf.trans (endsLow_of_sound hrefs hfailed hcols), hu.leaf,
      hu.same.table, hu.same.mem⟩
  case fails =>
    intro s rid r o h hreads hphase hwork hcheck
    obtain ⟨_, w, _, hw, heq⟩ := confidenceCheck_first h hreads hphase hwork
    have hfails : groupPasses s r o.totals o.qsum = false := hcheck
    rw [exec_confidenceCheck, heq, if_neg (Bool.eq_false_iff.mp hfails)]
    split_ifs with hrep
    · obtain ⟨u, hu⟩ := deliverRead_delivered h hw true 10
      exact ⟨_, u, hu.same.doneQuiet_eq, hu.found, fun hne => absurd hrep hne, fun _ => ⟨hu.lowconf, hu.leaf⟩, hu.same.table,
        hu.same.mem⟩
    · have hsame : SameButReads s (w.modRead rid startRepeats) := hw.same.modRead ..
      exact ⟨_, startRepeats r, hsame.doneQuiet_eq, readRec?_modRead ((hw.readRec? rid).trans h) fun _ => rfl,
        fun _ => ⟨rfl, hreads⟩, fun hzero => absurd hzero hrep, hsame.table, hsame.mem⟩
  case mean =>
    intro s rid r h hphase hreads hwork
    obtain ⟨v, failed, hv, heq⟩ := repeatReadMean_complete h hphase hreads hwork
    obtain ⟨u, hu⟩ := deliverRead_delivered h hv failed 10
    rw [exec_repeatReadMean, heq]
    exact ⟨_, u, hu.same.doneQuiet_eq, hu.found, hu.phase, hu.leaf, hu.reads, hu.same.table, hu.same.mem⟩
  case idleEnd =>
    intro s a hset hdue
    have hidle : ((s.modArr a clearIdle).arr a).idleUntil = 0 := by rw [arr_modArr_same, clearIdle]
    rw [exec_readGroupIdleEnd, readGroupIdleEnd_due hset hdue]
    refine ⟨_, doneQuiet_eq rfl rfl rfl rfl rfl, hidle, fun b hb => arr_modArr_other s a clearIdle hb, ?_, rfl, rfl⟩
    intro r hr harr
    obtain ⟨q, -, rfl⟩ := List.mem_map.mp hr
    exact endIdle_phase harr

end Sys2Proof.Machine
end

section
/-! The quality monitor: a due sample enters the queue, and the oldest one leaves it with a verdict or discarded (R114 to R117). -/

namespace Sys2Proof.Machine
open Sys2Proof

/-! ## MONITOR_SAMPLE -/

/-- The samples due for a read group are due no longer. -/
def dropDue (rid : Nat) (s : State) : State :=
  s.modWork fun w => { w with samplesDue := w.samplesDue.filter fun x => x.rid ≠ rid }

/-- A sample at the end of the monitor queue, with the sample and the queue's length counted (R115). -/
def queueSample (x : Sample) (s : State) : State :=
  (({ s with samples := s.samples ++ [x] } : State).bump 0x4200 0x03 1).wr 0x4200 0x06 (s.samples.length + 1)

/-- The one sample that is due is due no longer. -/
theorem dropDue_samplesDue {s : State} {d : SampleDue} (hdue : s.work.samplesDue = [d]) :
    (dropDue d.rid s).work.samplesDue = [] := by
  simp [dropDue, State.modWork, hdue]

/-- A queued sample advances the count of samples. -/
theorem counted_queueSample (x : Sample) (s : State) : Counted s (queueSample x s) 0x4200 0x03 1 :=
  (rd_wr_other _ _ _ _ (by decide)).trans (rd_bump_same ..)

/-- The sample of an undivided strip whose block has left its die enters a queue that has room (R114, R115). -/
theorem monitorSample_merged {s : State} {pass strip : Nat} {d : SampleDue} {r : ReadRec} {m : MatEntry} {rbs : List Nat} {b : Block}
    (hdue : s.work.samplesDue = [d]) (hread : s.readRec? d.rid = some r) (hmat : s.mat? r.mat = some m)
    (hpart : samplePart s r m = some (pass, rbs, true, strip))
    (hblock : s.work.merged.find? (fun b => b.mat = r.mat && b.token = r.token && b.block = d.block && b.form = 0) = some b)
    (hroom : s.samples.length < 64) :
    ∃ x : Sample, x.slot = r.slot ∧ x.mat = r.mat ∧ x.flags = b.flags ∧
      monitorSample d.rid s = queueSample x (dropDue d.rid s) := by
  have hfound : s.work.samplesDue.find? (fun e => e.rid = d.rid) = some d := by simp [hdue]
  unfold monitorSample
  rw [hfound, hread]
  dsimp -zeta only
  rw [hmat]
  dsimp -zeta only
  rw [hpart]
  dsimp -zeta only
  extract_lets here blk s1 gP cols drives
  have hblk : blk = some b := hblock
  rw [hblk]
  dsimp -zeta only
  extract_lets sample s2
  have hlt : ¬64 ≤ s1.samples.length := Nat.not_le.mpr hroom
  rw [if_neg hlt]
  refine ⟨sample, rfl, rfl, rfl, ?_⟩
  simp [queueSample, dropDue, s2, s1]

/-! ## MONITOR_VERDICT -/

/-- The queue without its oldest sample, with its length stored. -/
def dequeueSample (rest : List Sample) (s : State) : State :=
  ({ s with samples := rest } : State).wr 0x4200 0x06 rest.length

section Dequeued
variable (rest : List Sample) (s : State) {i u : Nat} (h : objKey 0x4200 0x06 0 ≠ objKey i u 0)
include h

/-- A counter advanced after the oldest sample has left: the queue's length stands. -/
theorem length_bump_dequeueSample : ((dequeueSample rest s).bump i u 1).rd 0x4200 0x06 = rest.length :=
  (rd_bump_other _ _ _ _ h).trans (rd_wr_same ..)

/-- A counter advanced after the oldest sample has left counts on from what it held before. -/
theorem counted_bump_dequeueSample : Counted s ((dequeueSample rest s).bump i u 1) i u 1 := by
  have hkept : (dequeueSample rest s).rd i u = s.rd i u := rd_wr_other _ _ _ _ h.symm
  rw [Counted, rd_bump_same, hkept]

end Dequeued

/-- What the record of a verdict keeps: everything but objects, the queue's length, and a slot's count of verdicts. -/
structure KeepsTally (slot : Nat) (s t : State) : Prop where
  same : t = { s with obj := t.obj }
  length : t.rd 0x4200 0x06 = s.rd 0x4200 0x06
  verdicts : t.rd (0x4100 + slot) 0x18 = s.rd (0x4100 + slot) 0x18

namespace KeepsTally
variable {slot : Nat} {s t u : State}

theorem refl (slot : Nat) (s : State) : KeepsTally slot s s := ⟨rfl, rfl, rfl⟩

/-- An object written that is neither the queue's length nor the slot's count of verdicts. -/
theorem wr (h : KeepsTally slot s t) {i w : Nat} (hlen : objKey 0x4200 0x06 0 ≠ objKey i w 0)
    (hcount : objKey (0x4100 + slot) 0x18 0 ≠ objKey i w 0) (v : Nat) : KeepsTally slot s (t.wr i w v) where
  same := by rw [h.same]; rfl
  length := (rd_wr_other t i w v hlen).trans h.length
  verdicts := (rd_wr_other t i w v hcount).trans h.verdicts

/-- An object of the slot written, above its count of verdicts. -/
theorem wrSlot (h : KeepsTally slot s t) {w : Nat} (hlow : 0x18 < w) (hhigh : w < 256) (v : Nat) :
    KeepsTally slot s (t.wr (0x4100 + slot) w v) :=
  h.wr (by unfold objKey; omega) (by unfold objKey; omega) v

/-- The slot of the latest sample over its limit written (R121). -/
theorem wrOverLimit (h : KeepsTally slot s t) (v : Nat) : KeepsTally slot s (t.wr 0x4200 0x07 v) :=
  h.wr (by decide) (by unfold objKey; omega) v

/-- A sample counted against its slot, with QMON set (R117). -/
theorem noteQmon (h : KeepsTally slot s t) {w : Nat} (hlow : 0x18 < w) (hhigh : w < 256) :
    KeepsTally slot s ((t.bumpSlot slot w 1).flag (0x4100 + slot) 0x1C 0) :=
  (h.wrSlot hlow hhigh _).wrSlot (by decide) (by decide) _

/-- One of two continuations. -/
theorem ite {p : Prop} [Decidable p] (h : KeepsTally slot s t) (k : KeepsTally slot s u) :
    KeepsTally slot s (if p then t else u) := by
  split_ifs
  · exact h
  · exact k

end KeepsTally

/-- The oldest sample of an image that is no longer in service leaves the queue and is counted as discarded (R116). -/
theorem monitorVerdict_discarded {s : State} {x : Sample} {rest : List Sample} (hqueue : s.samples = x :: rest)
    (himage : x.digest ≠ s.image.digest) : monitorVerdict s = (dequeueSample rest s).bump 0x4200 0x05 1 := by
  unfold monitorVerdict
  rw [hqueue]
  dsimp -zeta only
  extract_lets s1
  have himage' : x.digest ≠ s1.image.digest := himage
  rw [if_neg (by simp [himage'])]
  rfl

/-- The oldest sample of the image in service, with an output that has drive, leaves the queue and is counted as judged
(R116, R117). -/
theorem monitorVerdict_judged {s : State} {x : Sample} {rest : List Sample} {m : MatEntry} {j : Nat}
    (hqueue : s.samples = x :: rest) (himage : x.digest = s.image.digest) (hservice : s.img.isSome = true)
    (hmat : s.mat? x.mat = some m) (hflags : noVerdict x.flags = false) (hj : j < x.vals.length)
    (hdrive : 0 < (sampleDiff s x m j).2.1) :
    KeepsTally x.slot ((dequeueSample rest s).bumpSlot x.slot 0x18 1) (monitorVerdict s) := by
  unfold monitorVerdict
  rw [hqueue]
  dsimp -zeta only
  extract_lets s1 s2
  have himage' : x.digest = s1.image.digest := himage
  have hservice' : s1.img.isSome = true := hservice
  have hmat' : s1.mat? x.mat = some m := hmat
  rw [if_pos (by simp [himage', hservice']), hmat']
  dsimp -zeta only
  extract_lets ds big s3 s4
  have hmem : sampleDiff s x m j ∈ ds := by
    simp only [ds, hflags, Bool.false_eq_true, if_false, List.mem_filter, decide_eq_true_eq]
    exact ⟨List.mem_map.mpr ⟨j, List.mem_range.mpr hj, rfl⟩, hdrive⟩
  have hsome : ¬ds.isEmpty = true := by simpa using List.ne_nil_of_mem hmem
  rw [if_neg hsome]
  have h2 : KeepsTally x.slot s2 s2 := .refl _ _
  have h3 : KeepsTally x.slot s2 s3 := .ite (h2.wrSlot (by decide) (by decide) _) h2
  have h4 : KeepsTally x.slot s2 s4 := .ite ((h3.noteQmon (by decide) (by decide)).wrOverLimit _) h3
  exact .ite (h4.noteQmon (by decide) (by decide)) h4

/-! ## The obligation -/

/-- MONITOR_SAMPLE answers what it did with the queue as it was. -/
theorem exec_monitorSample (rid : Nat) (s : State) : exec (.monitorSample rid) s = doneQuiet s (monitorSample rid s) := rfl

/-- MONITOR_VERDICT answers what it did with the queue as it was. -/
theorem exec_monitorVerdict (s : State) : exec .monitorVerdict s = doneQuiet s (monitorVerdict s) := rfl

/-- Settles O35: the due sample is queued, and the oldest one is dequeued and counted as discarded or as judged. -/
theorem theMonitorSamplesAndJudges : Obligations.TheMonitorSamplesAndJudges := by
  refine ⟨?sample, ?discarded, ?judged⟩
  case sample =>
    rintro s rid pass strip d r m rbs b hdue rfl hread hmat hpart hblock hroom
    obtain ⟨x, hslot, hm, hflags, heq⟩ := monitorSample_merged hdue hread hmat hpart hblock hroom
    rw [exec_monitorSample, heq]
    exact ⟨_, x, doneQuiet_eq rfl rfl rfl rfl rfl, rfl, hslot, hm, hflags, dropDue_samplesDue hdue, rd_wr_same ..,
      counted_queueSample x (dropDue d.rid s), rfl, rfl⟩
  case discarded =>
    intro s x rest hqueue himage
    rw [exec_monitorVerdict, monitorVerdict_discarded hqueue himage]
    exact ⟨_, doneQuiet_eq rfl rfl rfl rfl rfl, rfl, length_bump_dequeueSample rest s (by decide),
      counted_bump_dequeueSample rest s (by decide), rfl, rfl⟩
  case judged =>
    intro s x rest m j hqueue himage hservice hmat hflags hj _ hdrive
    obtain ⟨hsame, hlength, hverdicts⟩ := monitorVerdict_judged hqueue himage hservice hmat hflags hj hdrive
    have hsame' : monitorVerdict s = { s with samples := rest, obj := (monitorVerdict s).obj } := hsame
    have hkey : objKey 0x4200 0x06 0 ≠ objKey (0x4100 + x.slot) 0x18 0 := by unfold objKey; omega
    have hquiet : doneQuiet s (monitorVerdict s) = .next (monitorVerdict s) := by
      rw [hsame']
      exact doneQuiet_eq rfl rfl rfl rfl rfl
    exact ⟨_, hquiet, by rw [hsame'], hlength.trans (length_bump_dequeueSample rest s hkey),
      hverdicts.trans (counted_bump_dequeueSample rest s hkey), by rw [hsame'], by rw [hsame']⟩

end Sys2Proof.Machine
end

section
/-! The merge of the passes of a divided block, and the second passes of the outlier path (R137, R139, R157, R161). -/

namespace Sys2Proof.Machine
open Sys2Proof

/-! ## Counters -/

/-- Nothing but the objects differs. -/
def SameButObj (s t : State) : Prop := t = { s with obj := t.obj }

namespace SameButObj
variable {s t u : State}

theorem refl (s : State) : SameButObj s s := rfl

/-- A counter advanced changes the objects alone. -/
theorem bump (h : SameButObj s t) (i u n : Nat) : SameButObj s (t.bump i u n) := by
  unfold SameButObj at h ⊢
  rw [h]
  rfl

/-- A counter of a layer slot advanced changes the objects alone. -/
theorem bumpSlot (h : SameButObj s t) (slot sub n : Nat) : SameButObj s (t.bumpSlot slot sub n) := h.bump ..

theorem ite {p : Prop} [Decidable p] (h : SameButObj s t) (k : SameButObj s u) : SameButObj s (if p then t else u) := by
  split_ifs
  · exact h
  · exact k

theorem work (h : SameButObj s t) : t.work = s.work := by rw [h]

theorem table (h : SameButObj s t) : t.table = s.table := by rw [h]

theorem mem (h : SameButObj s t) : t.mem = s.mem := by rw [h]

/-- A quiet command that changes counters and the step's work answers what it did. -/
theorem doneQuiet_modWork (h : SameButObj s t) (f : Work → Work) : doneQuiet s (t.modWork f) = .next (t.modWork f) := by
  unfold SameButObj at h
  rw [h]
  exact doneQuiet_eq rfl rfl rfl rfl rfl

end SameButObj

/-- What was counted stays counted when another counter advances. -/
theorem counted_bump_other {s t : State} {i u n : Nat} (h : Counted s t i u n) {j w : Nat}
    (hkey : objKey i u 0 ≠ objKey j w 0) (k : Nat) : Counted s (t.bump j w k) i u n :=
  (rd_bump_other _ _ _ _ hkey).trans h

/-! ## PARTIAL_MERGE -/

/-- A block of a matrix for a token. -/
def ofBlock (mat token block : Nat) (b : Block) : Bool := b.mat = mat && b.token = token && b.block = block

/-- Passes that a block's merge has taken: none without a buffer, all of them once the block is formed. -/
def passesTaken (total : Nat) : Option Block → Nat
  | some b => if b.form = 1 then b.pass else total
  | none => 0

/-- A buffer after its next pass: 32-bit saturating sums, ASAT where one saturates (R137, R139). -/
def takePass (b : Block) (v : List Int) (f : Nat) : Block :=
  let sums := List.zipWith (· + ·) b.vals v
  { b with pass := b.pass + 1, vals := sums.map sat32
           flags := b.flags ||| f ||| flagWord [(flagAsat, sums.any fun x => sat32 x ≠ x)] }

/-- The buffer of a block once a pass has entered: the first pass opens it. -/
def nextBuffer (mat token block : Nat) (v : List Int) (f : Nat) : Option Block → Block
  | none => ⟨mat, token, block, 1, 1, 0, v, f⟩
  | some b => takePass b v f

/-- A buffer that has taken its last pass leaves in block form (R137). -/
def closeAt (total : Nat) (b : Block) : Block := if b.pass = total then formBlock b else b

theorem ofBlock_iff {mat token block : Nat} {b : Block} :
    ofBlock mat token block b = true ↔ b.mat = mat ∧ b.token = token ∧ b.block = block := by
  simp [ofBlock, and_assoc]

/-- A pass leaves each of its own flags set. -/
theorem bitOf_takePass_flags {f i : Nat} (h : bitOf f i = true) (b : Block) (v : List Int) :
    bitOf (takePass b v f).flags i = true := by
  have hf : f.testBit i = true := h
  simp [takePass, bitOf, hf]

/-- A pass that waits replaces its block's buffer by the next one; beside the merged blocks only counters change (R137). -/
theorem partialMerge_of_waiting {s : State} {mat token block total : Nat} {m : MatEntry} {v : List Int} {f : Nat} {buf : Option Block}
    (hmat : s.mat? mat = some m) (hwork : s.working = true) (htotal : (s.passes mat (block / 16) m).length = total)
    (hdivided : 2 ≤ total) (hbuf : s.work.merged.find? (ofBlock mat token block) = buf) (hleft : passesTaken total buf < total)
    (hpass : s.passBlock mat token block (passesTaken total buf) = some (v, f)) :
    ∃ u, SameButObj s u ∧ partialMerge mat token block .clean s = u.modWork fun w => { w with
      merged := (w.merged.filter fun b => !ofBlock mat token block b) ++ [closeAt total (nextBuffer mat token block v f buf)] } := by
  unfold partialMerge
  rw [hmat]
  dsimp -zeta only
  extract_lets slot n mine found taken k s1 s2
  obtain rfl : n = total := htotal
  obtain rfl : found = buf := hbuf
  have htaken : taken = passesTaken n found := rfl
  have hguard : ¬(!s.working || decide (n ≤ 1) || decide (n ≤ taken)) = true := by
    simp only [hwork, htaken, Bool.not_true, Bool.false_or, Bool.or_eq_true, decide_eq_true_eq]
    omega
  rw [if_neg hguard, htaken, hpass]
  dsimp -zeta only
  extract_lets nxt last out s3
  have hnxt : nxt = nextBuffer mat token block v f found := by
    unfold nxt nextBuffer
    cases found <;> rfl
  have hout : out = closeAt n nxt := by simp [out, last, closeAt]
  have h1 : SameButObj s s1 := .refl s
  have h2 : SameButObj s s2 := .ite (h1.bumpSlot ..) h1
  have h3 : SameButObj s s3 := .ite (h2.bumpSlot ..) h2
  refine ⟨s3, h3, ?_⟩
  rw [hout, hnxt]
  rfl

section Merge
variable {s : State} {mat token block : Nat} {m : MatEntry} {v : List Int} {f : Nat}

/-- The first pass of a divided block is a new buffer, and nothing else among the merged blocks changes (R137). -/
theorem partialMerge_first (hmat : s.mat? mat = some m) (hwork : s.working = true)
    (hdivided : 2 ≤ (s.passes mat (block / 16) m).length)
    (hnone : ∀ b ∈ s.work.merged, ¬(b.mat = mat ∧ b.token = token ∧ b.block = block))
    (hpass : s.passBlock mat token block 0 = some (v, f)) :
    ∃ u, SameButObj s u ∧ partialMerge mat token block .clean s =
      u.modWork fun w => { w with merged := s.work.merged ++ [⟨mat, token, block, 1, 1, 0, v, f⟩] } := by
  have hother : ∀ b ∈ s.work.merged, ¬ofBlock mat token block b = true := fun b hb h => hnone b hb (ofBlock_iff.mp h)
  obtain ⟨u, hu, heq⟩ := partialMerge_of_waiting hmat hwork rfl hdivided (List.find?_eq_none.mpr hother)
    (by simp only [passesTaken]; omega) hpass
  have hopen : closeAt (s.passes mat (block / 16) m).length (nextBuffer mat token block v f none) =
      ⟨mat, token, block, 1, 1, 0, v, f⟩ := if_neg (by simp only [nextBuffer]; omega)
  have hkeep : u.work.merged.filter (fun b => !ofBlock mat token block b) = s.work.merged := by
    rw [hu.work]
    exact List.filter_eq_self.mpr fun b hb => by simp [hother b hb]
  refine ⟨u, hu, ?_⟩
  rw [heq, hopen, State.modWork, State.modWork, hkeep]

/-- The last pass of a divided block closes its buffer in block form (R137, R139). -/
theorem partialMerge_last {b : Block} {n : Nat} (hmat : s.mat? mat = some m) (hwork : s.working = true)
    (htotal : (s.passes mat (block / 16) m).length = n + 1) (hn : 1 ≤ n) (hmerged : s.work.merged = [b])
    (hb : ofBlock mat token block b = true) (hform : b.form = 1) (htaken : b.pass = n)
    (hpass : s.passBlock mat token block n = some (v, f)) :
    ∃ u, SameButObj s u ∧ partialMerge mat token block .clean s =
      u.modWork fun w => { w with merged := [formBlock (takePass b v f)] } := by
  have hbuf : s.work.merged.find? (ofBlock mat token block) = some b := by simp [hmerged, hb]
  have htook : passesTaken (n + 1) (some b) = n := (if_pos hform).trans htaken
  obtain ⟨u, hu, heq⟩ := partialMerge_of_waiting hmat hwork htotal (by omega) hbuf (by omega) (htook.symm ▸ hpass)
  have hclose : closeAt (n + 1) (takePass b v f) = formBlock (takePass b v f) := if_pos (by simp [takePass, htaken])
  have hgone : u.work.merged.filter (fun b => !ofBlock mat token block b) = [] := by simp [hu.work, hmerged, hb]
  refine ⟨u, hu, ?_⟩
  rw [heq, nextBuffer, hclose, State.modWork, State.modWork, hgone]
  rfl

end Merge

/-! ## SECOND_PASS -/

/-- A second-pass row that waits: its matrix, row block and token, the row, and the products that it costs. -/
abbrev ReserveJob := Nat × Nat × Nat × Nat × Nat

/-- A job enters the reserve of a number of cycles, or it and every later one are clipped (R157). -/
def takeJob (cycles : Nat) (a : Nat × Bool × List (Nat × Nat × Nat × Nat)) (j : ReserveJob) :
    Nat × Bool × List (Nat × Nat × Nat × Nat) :=
  let used := a.1 + j.2.2.2.2
  if !a.2.1 && ceilDiv used 1024 ≤ cycles then (used, false, a.2.2)
  else (a.1, true, a.2.2 ++ [(j.1, j.2.1, j.2.2.1, j.2.2.2.1)])

theorem ceilDiv_mono {a b : Nat} (h : a ≤ b) (d : Nat) : ceilDiv a d ≤ ceilDiv b d := Nat.div_le_div_right (by omega)

/-- Jobs of one cost that fit the reserve together are all taken (R157, R161). -/
theorem foldl_takeJob_of_fits {cycles cost : Nat} {jobs : List ReserveJob} {used : Nat}
    {late : List (Nat × Nat × Nat × Nat)} (hcost : ∀ j ∈ jobs, j.2.2.2.2 = cost)
    (hfit : ceilDiv (used + jobs.length * cost) 1024 ≤ cycles) :
    jobs.foldl (takeJob cycles) (used, false, late) = (used + jobs.length * cost, false, late) := by
  induction jobs generalizing used with
  | nil => simp
  | cons j jobs ih =>
    have hj : j.2.2.2.2 = cost := hcost j List.mem_cons_self
    have hsum : used + cost + jobs.length * cost = used + (j :: jobs).length * cost := by
      rw [List.length_cons, Nat.succ_mul]; omega
    have hnow : ceilDiv (used + cost) 1024 ≤ cycles := (ceilDiv_mono (by omega) 1024).trans hfit
    have htake : takeJob cycles (used, false, late) j = (used + cost, false, late) := by simp [takeJob, hj, hnow]
    rw [List.foldl_cons, htake, ih (fun i hi => hcost i (List.mem_cons_of_mem _ hi)) (hsum ▸ hfit), hsum]

/-- The counters of a layer's second passes: rows taken and clipped, of the slot and of the device, and cycles used (R157). -/
def countReserve (slot taken late cycles : Nat) (s : State) : State :=
  ((((s.bumpSlot slot 0x25 taken).bumpSlot slot 0x28 late).bump 0x4201 0x01 taken).bump 0x4201 0x02 late).bump 0x4201 0x03 cycles

section Reserve
variable (slot taken late cycles : Nat) (s : State)

theorem countReserve_sameButObj : SameButObj s (countReserve slot taken late cycles s) :=
  (((((SameButObj.refl s).bumpSlot ..).bumpSlot ..).bump ..).bump ..).bump ..

theorem counted_countReserve : Counted s (countReserve slot taken late cycles s) (0x4100 + slot) 0x25 taken := by
  have hslot : Counted s (s.bumpSlot slot 0x25 taken) (0x4100 + slot) 0x25 taken := rd_bump_same ..
  have hkey {j w : Nat} (hw : w ≤ 0xFF ∧ w ≠ 0x25) : objKey (0x4100 + slot) 0x25 0 ≠ objKey j w 0 := by
    unfold objKey; omega
  have hlate := counted_bump_other hslot (hkey (j := 0x4100 + slot) (w := 0x28) (by decide)) late
  have hall := counted_bump_other hlate (hkey (j := 0x4201) (w := 0x01) (by decide)) taken
  have hallLate := counted_bump_other hall (hkey (j := 0x4201) (w := 0x02) (by decide)) late
  exact counted_bump_other hallLate (hkey (by decide)) cycles

end Reserve

/-- The second passes of the one open tier, where they fit the reserve: all of its rows are counted as taken, none is clipped (R157). -/
theorem secondPass_of_fits {s : State} {slot planned : Nat} {tr : Tier} {m : MatEntry} (htiers : s.work.tiers = [tr])
    (hslot : s.slotOfMat tr.mat = slot) (hopen : tr.secondDone = false) (hmat : s.mat? tr.mat = some m)
    (hwork : s.working = true)
    (hfit : ceilDiv (tr.second.length * m.n) 1024 ≤ planned * s.work.snap.reserveClock * 12 / 100000) :
    ∃ u used, SameButObj s u ∧ Counted s u (0x4100 + slot) 0x25 tr.second.length ∧
      secondPass slot planned .clean s = u.modWork fun w => { w with
        reserveUsed := used, tiers := [{ tr with secondDone := true, clippedLate := [] }] } := by
  unfold secondPass
  extract_lets mine waiting k s1 cycles cost jobs r late taken s2 s3 s4 s5
  have hwaiting : waiting = [tr] := by simp [waiting, htiers, mine, hslot, hopen, sortBy, insertBy]
  have hguard : ¬(!s.working || waiting.isEmpty) = true := by simp [hwork, hwaiting]
  have hcost : ∀ j ∈ jobs, j.2.2.2.2 = m.n := by
    have hn : cost tr = m.n := by
      have hfound : s1.mat? tr.mat = some m := hmat
      simp [cost, hfound]
    simp [jobs, hwaiting, hn]
  have hjobs : jobs.length = tr.second.length := by simp [jobs, hwaiting]
  have hr : r = (0 + jobs.length * m.n, false, []) :=
    foldl_takeJob_of_fits hcost (by rw [hjobs, Nat.zero_add]; exact hfit)
  have hlate : late = [] := by simp [late, hr]
  have htaken : taken = tr.second.length := by simp [taken, hlate, hjobs]
  have hs4 : s4 = countReserve slot taken late.length (ceilDiv r.1 1024) s := rfl
  have h4 : SameButObj s s4 := hs4 ▸ countReserve_sameButObj ..
  have hcounted : Counted s s4 (0x4100 + slot) 0x25 tr.second.length := by
    rw [hs4, ← htaken]
    exact counted_countReserve ..
  have hs5 : s5 = s4 := if_pos (by simp [hlate])
  refine ⟨s4, s4.work.reserveUsed ++ [(slot, ceilDiv r.1 1024)], h4, hcounted, ?_⟩
  have htiers4 : s4.work.tiers = [tr] := by rw [h4.work, htiers]
  rw [if_neg hguard, hs5, hlate]
  have hk : k.1 = true := rfl
  simp [State.modWork, htiers4, mine, hslot, hopen, hk, flagWord]

/-! ## The commands -/

/-- PARTIAL_MERGE stores nothing in device memory. -/
theorem exec_partialMerge (mat token block : Nat) (hw : HwCheck) (s : State) :
    exec (.partialMerge mat token block hw) s = doneQuiet s (partialMerge mat token block hw s) := rfl

/-- SECOND_PASS stores nothing in device memory. -/
theorem exec_secondPass (slot planned : Nat) (hw : HwCheck) (s : State) :
    exec (.secondPass slot planned hw) s = doneQuiet s (secondPass slot planned hw s) := rfl

/-- Settles O30: the first pass opens the buffer, the last one closes it, and second passes that fit the reserve clip nothing. -/
theorem passesMergeInOrder : Obligations.PassesMergeInOrder := by
  refine ⟨?first, ?last, ?second⟩
  case first =>
    intro s mat token block m v f hmat hwork hdivided hnone hpass
    obtain ⟨u, hu, heq⟩ := partialMerge_first hmat hwork hdivided hnone hpass
    have hblocks : u.work.blocks = s.work.blocks := by rw [hu.work]
    rw [exec_partialMerge, heq]
    exact ⟨_, hu.doneQuiet_modWork _, rfl, hblocks, hu.table, hu.mem⟩
  case last =>
    intro s mat token block n m b v f hmat hwork htotal hn hmerged hbmat hbtoken hbblock hform htaken hpass
    obtain ⟨u, hu, heq⟩ := partialMerge_last hmat hwork htotal hn hmerged (ofBlock_iff.mpr ⟨hbmat, hbtoken, hbblock⟩)
      hform htaken hpass
    rw [exec_partialMerge, heq]
    exact ⟨_, formBlock (takePass b v f), hu.doneQuiet_modWork _, rfl, rfl, hbmat, hbtoken, hbblock,
      fun hlow => bitOf_takePass_flags hlow b v, hu.table, hu.mem⟩
  case second =>
    intro s slot planned tr m htiers hslot hopen hmat hwork hfit
    obtain ⟨u, used, hu, hcounted, heq⟩ := secondPass_of_fits htiers hslot hopen hmat hwork hfit
    rw [exec_secondPass, heq]
    exact ⟨_, hu.doneQuiet_modWork _, rfl, hcounted, hu.table, hu.mem⟩

end Sys2Proof.Machine
end

section
/-! The record of a row's reduction in device memory (R142). -/

namespace Sys2Proof.Machine
open Sys2Proof

/-! ## Numbers in bytes -/

@[simp] theorem length_leBytes (n v : Nat) : (leBytes n v).length = n := by
  induction n generalizing v with
  | zero => rfl
  | succ n ih => simp [leBytes, ih]

/-- A number's first n bytes are the same in every longer form. -/
theorem take_leBytes (n k v : Nat) : (leBytes (n + k) v).take n = leBytes n v := by
  induction n generalizing v with
  | zero => rfl
  | succ n ih => rw [Nat.succ_add, leBytes, leBytes, List.take_succ_cons, ih]

/-- What lies above n bytes does not show in them. -/
theorem leBytes_add_mul (n v w : Nat) : leBytes n (v + 256 ^ n * w) = leBytes n v := by
  induction n generalizing v with
  | zero => rfl
  | succ n ih =>
    have hpow : 256 ^ (n + 1) * w = 256 * (256 ^ n * w) := by rw [Nat.pow_succ, Nat.mul_comm _ 256, Nat.mul_assoc]
    have hhead : BitVec.ofNat 8 (v + 256 * (256 ^ n * w)) = BitVec.ofNat 8 v := by
      apply BitVec.eq_of_toNat_eq
      simp [Nat.add_mul_mod_self_left]
    have htail : (v + 256 * (256 ^ n * w)) / 256 = v / 256 + 256 ^ n * w := Nat.add_mul_div_left _ _ (by decide)
    rw [hpow, leBytes, leBytes, hhead, htail, ih]

/-- The first bytes of a write are read back at its address. -/
theorem memReadN_memWriteN (a n : Nat) {bs : Bytes} (h : n ≤ bs.length) (m : List Host.Cell) :
    memReadN (memWriteN a bs m) a n = bs.take n := by
  induction n generalizing a bs m with
  | zero => rfl
  | succ n ih =>
    cases bs with
    | nil => exact absurd h (Nat.not_succ_le_zero n)
    | cons b bs =>
      have hfirst : memRead (memWriteN a (b :: bs) m) a = b := memRead_memWriteN_inside a (b :: bs) 0 (by simp) m
      have hrest : memReadN (memWriteN a (b :: bs) m) (a + 1) n = bs.take n :=
        ih (a + 1) (Nat.le_of_succ_le_succ h) (memWrite a b m)
      rw [memReadN, hfirst, hrest, List.take_succ_cons]

/-! ## ROW_REDUCTION_RECORD -/

/-- The record of a row whose matrix requests the maximum: flags, count, argmax, the sum where requested, and the maximum lowest (R142). -/
def maxRecord (m : MatEntry) (r : RowRed) : Nat :=
  r.flags * 2 ^ 120 + r.count % 2 ^ 24 * 2 ^ 96 + r.argmax * 2 ^ 64 +
    (if bitOf m.red 1 || bitOf m.red 2 then r.sum.toNat else 0) * 2 ^ 32 + r.max.toNat

/-- The lowest four bytes of the record hold the maximum (R142). -/
theorem leBytes_maxRecord (m : MatEntry) (r : RowRed) : leBytes 4 (maxRecord m r) = leBytes 4 r.max.toNat := by
  have hsplit : maxRecord m r = r.max.toNat + 256 ^ 4 * (r.flags * 2 ^ 88 + r.count % 2 ^ 24 * 2 ^ 64 + r.argmax * 2 ^ 32 +
      if bitOf m.red 1 || bitOf m.red 2 then r.sum.toNat else 0) := by
    unfold maxRecord
    omega
  rw [hsplit, leBytes_add_mul]

/-- A change of the step in flight changes the fabric's record alone. -/
theorem modStep_eq (s : State) (f : Step → Step) : ∃ g, s.modStep f = { s with fab := g } := ⟨_, rfl⟩

/-- A whole row's record is stored at its address; beside memory only the head's outputs and the step's tokens change (R142, R245). -/
theorem rowReductionRecord_max {s : State} {mat token addr : Nat} {m : MatEntry} (hmat : s.mat? mat = some m)
    (hwork : s.working = true) (hmax : bitOf m.red 0 = true) (hwhole : outBlocks m.n ≤ (s.rowRed mat token).next) :
    ∃ h f, rowReductionRecord mat token addr .clean s = { s.modWork fun w => { w with heads := h } with
      mem := memWriteN addr (leBytes 16 (maxRecord m (s.rowRed mat token))) s.mem, fab := f } := by
  have hrequests : ¬m.red % 8 = 0 := fun h => by
    have hbit : m.red % 2 = 1 := by simpa [bitOf, Nat.testBit_zero] using hmax
    omega
  unfold rowReductionRecord
  rw [hmat]
  dsimp -zeta only
  extract_lets r slot k s1 wantsMax d mx s2 sum arg rec_ s3 s4
  have hguard : ¬(!s.working || decide (m.red % 8 = 0) || decide (r.next < outBlocks m.n)) = true := by
    simp [hwork, hrequests, hwhole, r]
  have hclean : ¬(!k.1) = true := by simp [k, engineCheck]
  have hrec : rec_ = maxRecord m r := by simp only [rec_, arg, mx, sum, wantsMax, maxRecord, hmax, if_true]
  have hs2 : s2 = s := if_pos hmax
  have hs3 : s3 = { s with mem := memWriteN addr (leBytes 16 (maxRecord m r)) s.mem } := by simp only [s3, hs2, hrec]
  rw [if_neg hguard, if_neg hclean]
  split_ifs
  · obtain ⟨g, hg⟩ := modStep_eq s4 fun st => { st with tokens := headOutputs s4 }
    exact ⟨sset 0 token (r.argmax + 1) s.work.heads, g, by rw [hg]; simp only [s4, hs3, State.modWork, r]⟩
  · exact ⟨s.work.heads, s.fab, hs3⟩

/-- ROW_REDUCTION_RECORD answers what it did with the queue as it was. -/
theorem exec_rowReductionRecord (mat token addr : Nat) (hw : HwCheck) (s : State) :
    exec (.rowReductionRecord mat token addr hw) s = done s (rowReductionRecord mat token addr hw s) := rfl

/-- Settles O32: the record's 16 bytes are written at its address, the maximum in the lowest four. -/
theorem theRowReductionRecordIsStored : Obligations.TheRowReductionRecordIsStored := by
  intro s mat token addr m hmat hwork hred hwhole
  have hmax : bitOf m.red 0 = true := by
    simp only [bitOf, Nat.testBit_zero, decide_eq_true_eq]
    omega
  obtain ⟨h, f, heq⟩ := rowReductionRecord_max (addr := addr) hmat hwork hmax hwhole
  rw [exec_rowReductionRecord, heq]
  refine ⟨_, done_eq rfl, ?lowest, fun a ha => memRead_memWriteN_outside (by simpa using ha) s.mem, rfl, rfl⟩
  case lowest =>
    rw [memReadN_memWriteN addr 4 (by simp), take_leBytes 4 12, leBytes_maxRecord]

end Sys2Proof.Machine
end

section
/-! What the operations of a load leave alone: object writes in a row, the load's state, the unloading of an image, and a load that
fails (R186, R188, R193). -/

namespace Sys2Proof.Machine
open Sys2Proof

/-! ## Stores and objects -/

/-- Entries taken away by their keys leave what every other key holds. -/
theorem sget_filter {α : Type} (d : α) {p : Nat × α → Bool} {k : Nat} (hk : ∀ v, p (k, v) = true) (l : List (Nat × α)) :
    sget d k (l.filter p) = sget d k l := by
  induction l with
  | nil => rfl
  | cons c l ih =>
    obtain ⟨j, v⟩ := c
    rw [List.filter_cons]
    split_ifs with hp
    · simp only [sget, ih]
    · have hj : ¬j = k := fun h => hp (h ▸ hk v)
      simp only [sget, ih, if_neg hj]

namespace SameButObj
variable {s t u : State}

theorem trans (h : SameButObj s t) (k : SameButObj t u) : SameButObj s u := by
  unfold SameButObj at h k ⊢
  rw [h] at k
  exact k

/-- An object written changes the objects alone. -/
theorem wrI (h : SameButObj s t) (i w n v : Nat) : SameButObj s (t.wrI i w n v) := h.trans rfl

theorem wr (h : SameButObj s t) (i w v : Nat) : SameButObj s (t.wr i w v) := h.wrI i w 0 v

/-- Object writes in a row change the objects alone. -/
theorem foldl {α : Type} {f : State → α → State} (hf : ∀ t x, SameButObj t (f t x)) (l : List α) (s : State) :
    SameButObj s (l.foldl f s) :=
  List.foldlRecOn l f (motive := SameButObj s) (refl s) fun t h x _ => h.trans (hf t x)

theorem img (h : SameButObj s t) : t.img = s.img := by rw [h]

theorem load (h : SameButObj s t) : t.load = s.load := by rw [h]

theorem arr (h : SameButObj s t) (a : Nat) : t.arr a = s.arr a := by rw [h]; rfl

end SameButObj

/-! ## What no operation of a load touches -/

/-- The request table, device memory and the count are as they were. -/
structure KeepsRequests (s t : State) : Prop where
  table : t.table = s.table
  mem : t.mem = s.mem
  count : t.count = s.count

namespace KeepsRequests
variable {s t u : State}

theorem refl (s : State) : KeepsRequests s s := ⟨rfl, rfl, rfl⟩

theorem trans (h : KeepsRequests s t) (k : KeepsRequests t u) : KeepsRequests s u :=
  ⟨k.table.trans h.table, k.mem.trans h.mem, k.count.trans h.count⟩

end KeepsRequests

theorem SameButObj.keepsRequests {s t : State} (h : SameButObj s t) : KeepsRequests s t :=
  ⟨h.table, h.mem, by rw [h]⟩

/-! A change of the load record changes nothing else. -/

@[simp] theorem modLoad_image (s : State) (f : Load → Load) : (s.modLoad f).image = s.image := rfl
@[simp] theorem modLoad_fab (s : State) (f : Load → Load) : (s.modLoad f).fab = s.fab := rfl

/-! ## The state of the load -/

/-- A new state of the load and its beat are two objects (R186). -/
theorem setLoadState_sameButObj (st : Nat) (s : State) : SameButObj s (setLoadState st s) := ((SameButObj.refl s).wr ..).wr ..

@[simp] theorem loadState_setLoadState (st : Nat) (s : State) : (setLoadState st s).loadState = st := by
  unfold State.loadState setLoadState
  rw [rd_wr_other _ _ _ _ (by decide), rd_wr_same]

/-- The change of the load's state is reported with its beat (R186). -/
theorem rd_setLoadState_beat (st : Nat) (s : State) : (setLoadState st s).rd 0x4000 0x16 = s.beat := rd_wr_same ..

/-- Every other object keeps its value. -/
theorem rd_setLoadState_other {i u : Nat} (hstate : objKey i u 0 ≠ objKey 0x4000 0x11 0)
    (hbeat : objKey i u 0 ≠ objKey 0x4000 0x16 0) (st : Nat) (s : State) : (setLoadState st s).rd i u = s.rd i u := by
  unfold setLoadState
  rw [rd_wr_other _ _ _ _ hbeat, rd_wr_other _ _ _ _ hstate]

/-! ## Unloading -/

/-- The queue pairs of the rings follow the roles in their own object alone (R354). -/
theorem syncPairs_sameButObj (s : State) : SameButObj s (syncPairs s) :=
  SameButObj.foldl (fun t _ => .ite (.refl t) (.ite (.ite ((SameButObj.refl t).wrI ..) (.refl t)) ((SameButObj.refl t).wrI ..))) _ s

/-- The queue pairs leave every object but their own (R354). -/
theorem rd_syncPairs {i u : Nat} (h : ∀ r, objKey i u 0 ≠ objKey 0x1111 0x0D r) (s : State) : (syncPairs s).rd i u = s.rd i u := by
  unfold syncPairs
  refine List.foldlRecOn _ _ (motive := fun (t : State) => t.rd i u = s.rd i u) rfl fun t ht r _ => ?_
  split_ifs
  · exact ht
  · exact (rdI_wrI_other _ _ _ _ _ (h r)).trans ht
  · exact ht
  · exact (rdI_wrI_other _ _ _ _ _ (h r)).trans ht

/-- Without an image in service: requests as they were, no move left, and the objects of the load as they were. -/
structure Unloaded (s t : State) : Prop where
  keeps : KeepsRequests s t
  img : t.img = none
  load : t.load = { s.load with moves := [], replace := [], retireEv := [] }
  rd : ∀ {u}, u < 256 → t.rd 0x4000 u = s.rd 0x4000 u

/-- UNLOAD: of the objects only those of the recipes, of the image's identity and of the region's head and tail change (R186, R326). -/
theorem unload_unloaded (s : State) : Unloaded s (unload s) := by
  unfold unload
  extract_lets keep s1 s2 s3
  have h1 {u : Nat} (hu : u < 256) : s1.rd 0x4000 u = s.rd 0x4000 u := by
    refine sget_filter _ (fun v => ?_) s.obj
    have hindex : objKey 0x4000 u 0 / 0x100 % 0x10000 = 0x4000 := by unfold objKey; omega
    simp [keep, hindex]
  have hroles : SameButObj s2 s3 := .ite (((SameButObj.refl s2).wr ..).wr ..) (.refl s2)
  have h3 {u : Nat} (hu : u < 256) : s3.rd 0x4000 u = s2.rd 0x4000 u := by
    unfold s3
    split_ifs
    · rw [rd_wr_other _ _ _ _ (by unfold objKey; omega), rd_wr_other _ _ _ _ (by unfold objKey; omega)]
    · rfl
  have hsync := syncPairs_sameButObj (repool s3)
  have hkeeps : KeepsRequests s s2 := ⟨rfl, rfl, rfl⟩
  have hpool : KeepsRequests s3 (repool s3) := ⟨rfl, rfl, rfl⟩
  refine ⟨hkeeps.trans (hroles.keepsRequests.trans (hpool.trans hsync.keepsRequests)), ?img, ?load, fun hu => ?rd⟩
  case img => exact hsync.img.trans (hroles.img.trans rfl)
  case load => exact hsync.load.trans (hroles.load.trans rfl)
  case rd => exact (rd_syncPairs (fun r => by unfold objKey; omega) _).trans ((h3 hu).trans (h1 hu))

/-! ## A load that fails -/

/-- A load has failed with a reason and a section: in VERIFYING the image before it stays in service, later none does (R186, R188). -/
structure LoadFailed (reason sec : Nat) (s t : State) : Prop where
  keeps : KeepsRequests s t
  rd_reason : t.rd 0x4000 0x12 = reason
  rd_section : t.rd 0x4000 0x17 = sec
  next : t.load.next = none
  verifying : s.loadState = 1 → t.loadState = (if s.img.isSome then 4 else 0) ∧ t.img = s.img
  after : s.loadState ≠ 1 → t.loadState = 5 ∧ t.img = none

theorem failLoad_failed (reason sec : Nat) (s : State) : LoadFailed reason sec s (failLoad reason sec s) := by
  unfold failLoad
  extract_lets st s1 s2 s3
  have h2 : KeepsRequests s s2 := ⟨rfl, rfl, rfl⟩
  have hreason : s2.rd 0x4000 0x12 = reason := (rd_wr_other (s.wr 0x4000 0x12 reason) _ _ _ (by decide)).trans (rd_wr_same ..)
  have hsection : s2.rd 0x4000 0x17 = sec := rd_wr_same (s.wr 0x4000 0x12 reason) _ _ _
  by_cases hst : st = 1
  · rw [if_pos hst]
    have hset := setLoadState_sameButObj (if s2.img.isSome then 4 else 0) s2
    refine ⟨h2.trans hset.keepsRequests, ?_, ?_, congrArg Load.next hset.load, fun _ => ⟨loadState_setLoadState .., hset.img⟩,
      fun h => absurd hst h⟩
    · rw [rd_setLoadState_other (by decide) (by decide), hreason]
    · rw [rd_setLoadState_other (by decide) (by decide), hsection]
  · rw [if_neg hst]
    have hunload := unload_unloaded s3
    have hset := setLoadState_sameButObj 5 (unload s3)
    have h3 : KeepsRequests s2 s3 := ⟨rfl, rfl, rfl⟩
    refine ⟨h2.trans (h3.trans (hunload.keeps.trans hset.keepsRequests)), ?_, ?_, ?_, fun h => absurd h hst,
      fun _ => ⟨loadState_setLoadState .., hset.img.trans hunload.img⟩⟩
    · rw [rd_setLoadState_other (by decide) (by decide), hunload.rd (u := 0x12) (by decide)]
      exact hreason
    · rw [rd_setLoadState_other (by decide) (by decide), hunload.rd (u := 0x17) (by decide)]
      exact hsection
    · rw [hset.load, hunload.load]
      rfl

end Sys2Proof.Machine
end

section
/-! Fetching a weight image: NVMe/TCP Reads, the controller's connection, the sections of a load, and the refetch of one (R179 to
R181, R458). -/

namespace Sys2Proof.Machine
open Sys2Proof

/-! ## Reads and the connection -/

section Fetching
variable {s : State} (hfetch : s.fetching = true)
include hfetch

/-- A good Read counts its bytes, and the next Read has its retries again (R180). -/
theorem nvmeReadComplete_ok (n : Nat) :
    nvmeReadComplete true n s = (s.bump 0x4000 0x13 n).modLoad fun l => { l with retriesLeft := 2 } := by
  simp [nvmeReadComplete, hfetch]

/-- A Read that fails is sent again while a retry is left (R180). -/
theorem nvmeReadComplete_retried {k : Nat} (hleft : s.load.retriesLeft = k + 1) (n : Nat) :
    nvmeReadComplete false n s = (s.modLoad fun l => { l with retriesLeft := k }).send (.nvme "Read" 0) := by
  simp [nvmeReadComplete, hfetch, State.modLoad, hleft]

/-- With no retry left the fetch fails (R180). -/
theorem nvmeReadComplete_spent (hleft : s.load.retriesLeft = 0) (n : Nat) : nvmeReadComplete false n s = failFetch s := by
  simp [nvmeReadComplete, hfetch, hleft]

/-- The first loss of a connection makes it anew and starts the 10 s of the others (R180). -/
theorem nvmeConnectionLoss_first (hfresh : s.load.reconnects = 3) : nvmeConnectionLoss s =
    (s.modLoad fun l => { l with reconnects := 2, connLostAt := s.beat }).send (.nvme "Connect" 0) := by
  simp [nvmeConnectionLoss, hfetch, hfresh]

/-- A fetch in progress keeps its controller's connection alive (R179). -/
theorem keepAlive_sent : keepAlive s = (s.modLoad fun l => { l with lastKeepAlive := s.beat }).send (.nvme "Keep Alive" 0) := by
  simp [keepAlive, hfetch]

end Fetching

/-- Without a refetch it is the load whose fetch fails (R180). -/
theorem failFetch_of_load {s : State} (h : s.load.refetch = none) : failFetch s = failLoad 1 0xFFFF s := by
  simp [failFetch, h]

/-! ## The end of LOADING -/

/-- The load's way to CALIBRATING changes the objects alone (R186). -/
theorem tryCalibrate_sameButObj (s : State) : SameButObj s (tryCalibrate s) := by
  unfold tryCalibrate
  split_ifs
  · exact setLoadState_sameButObj 3 s
  · exact .refl s

/-- Whether the image fits or the load fails, requests stay as they were (R181, R188). -/
theorem sectionsHeld_keepsRequests (img : Image) (s : State) : KeepsRequests s (sectionsHeld img s) := by
  unfold sectionsHeld
  split
  · exact (failLoad_failed ..).keeps
  · split_ifs
    · exact (failLoad_failed ..).keeps
    · have hnext {g : Image} : KeepsRequests s (s.modLoad fun l => { l with next := some g }) := ⟨rfl, rfl, rfl⟩
      exact hnext.trans (tryCalibrate_sameButObj _).keepsRequests

/-! ## SECTION_FETCHED -/

/-- The image with a section's content used, and the sections still to fetch (R181). -/
def takeSection (sec : Nat) (g : Image) (s : State) : State :=
  s.modLoad fun l => { l with next := some g, toFetch := s.load.toFetch.filter (· ≠ sec) }

section Fetched
variable {s : State} {img : Image} {e : SectionEntry} {sec : Nat} {stored : Bytes}
  (hnext : s.load.next = some img) (hstate : s.loadState = 2) (hawaited : s.load.toFetch.contains sec = true)
  (hentry : img.sections[sec]? = some e)
include hnext hstate hawaited hentry

/-- A section whose content does not check fails the load and is named (R181). -/
theorem sectionFetched_bad {reason : LoadReason} (hcontent : sectionContent e stored = .inl reason) :
    sectionFetched sec stored s = failLoad reason sec s := by
  have hwait : sec ∈ s.load.toFetch := by simpa using hawaited
  simp [sectionFetched, hnext, hstate, hwait, hentry, hcontent]

/-- A good section that cannot be used fails the load and is named (R181). -/
theorem sectionFetched_unusable {c : Bytes} (hcontent : sectionContent e stored = .inr c) (huse : useSection sec e c img = none) :
    sectionFetched sec stored s = failLoad 4 sec s := by
  have hwait : sec ∈ s.load.toFetch := by simpa using hawaited
  simp [sectionFetched, hnext, hstate, hwait, hentry, hcontent, huse]

/-- A good section that can be used is taken, and the last one ends the fetching (R181). -/
theorem sectionFetched_taken {c : Bytes} {g : Image} (hcontent : sectionContent e stored = .inr c)
    (huse : useSection sec e c img = some g) : sectionFetched sec stored s =
      if (s.load.toFetch.filter (· ≠ sec)).isEmpty then sectionsHeld g (takeSection sec g s) else takeSection sec g s := by
  have hwait : sec ∈ s.load.toFetch := by simpa using hawaited
  simp [sectionFetched, hnext, hstate, hwait, hentry, hcontent, huse, takeSection]

/-- A good section that can be used is taken, and the load goes on while another one is awaited (R181). -/
theorem sectionFetched_used {c : Bytes} {g : Image} {o : Nat} (hcontent : sectionContent e stored = .inr c)
    (huse : useSection sec e c img = some g) (hother : o ∈ s.load.toFetch) (hne : o ≠ sec) :
    sectionFetched sec stored s = takeSection sec g s := by
  have hrest : ¬(s.load.toFetch.filter (· ≠ sec)).isEmpty = true := by
    simp only [List.isEmpty_iff, List.filter_eq_nil_iff]
    exact fun h => h o hother (by simpa using hne)
  rw [sectionFetched_taken hnext hstate hawaited hentry hcontent huse, if_neg hrest]

/-- A section, good or bad, leaves requests as they were. -/
theorem sectionFetched_keepsRequests : KeepsRequests s (sectionFetched sec stored s) := by
  have htaken (g : Image) : KeepsRequests s (takeSection sec g s) := ⟨rfl, rfl, rfl⟩
  cases hcontent : sectionContent e stored with
  | inl reason =>
    rw [sectionFetched_bad hnext hstate hawaited hentry hcontent]
    exact (failLoad_failed ..).keeps
  | inr c =>
    cases huse : useSection sec e c img with
    | none =>
      rw [sectionFetched_unusable hnext hstate hawaited hentry hcontent huse]
      exact (failLoad_failed ..).keeps
    | some g =>
      rw [sectionFetched_taken hnext hstate hawaited hentry hcontent huse]
      split_ifs
      · exact (htaken g).trans (sectionsHeld_keepsRequests ..)
      · exact htaken g

end Fetched

/-! ## SECTION_REFETCH -/

/-- No section is being fetched again. -/
def endRefetch (s : State) : State := s.modLoad fun l => { l with refetch := none }

/-- With no step in flight there is nothing to acknowledge (R335). -/
theorem tryAck_of_noStep {s : State} (h : s.fab.step = none) : tryAck s = s := by simp [tryAck, h]

section Refetched
variable {s : State} {x : Nat × Nat} {sec : Nat} (hrefetch : s.load.refetch = some x)
include hrefetch

/-- A refetch that brings nothing takes the device to half-mast (R458). -/
theorem sectionRefetch_none : sectionRefetch sec none s = (endRefetch s).halfMastCause 6 := by
  simp [sectionRefetch, hrefetch, endRefetch]

/-- So does one that brings bytes for a section that the image lacks. -/
theorem sectionRefetch_unknown (b : Bytes) (hentry : s.image.sections[sec]? = none) :
    sectionRefetch sec (some b) s = (endRefetch s).halfMastCause 6 := by
  simp [sectionRefetch, hrefetch, hentry, endRefetch]

/-- With no step in flight a section that comes whole ends the refetch, and one with a wrong digest takes the device to half-mast
(R458). -/
theorem sectionRefetch_some (hstep : s.fab.step = none) (b : Bytes) {e : SectionEntry}
    (hentry : s.image.sections[sec]? = some e) : sectionRefetch sec (some b) s =
      if Config.sha512 b = e.digest then endRefetch s else (endRefetch s).halfMastCause 6 := by
  simp [sectionRefetch, hrefetch, hentry, tryAck_of_noStep, hstep, endRefetch]

/-- However it ends, the refetch is over, and with no step in flight only a cause of half-mast may have been added. -/
theorem sectionRefetch_cases (hstep : s.fab.step = none) (stored : Option Bytes) :
    sectionRefetch sec stored s = endRefetch s ∨ sectionRefetch sec stored s = (endRefetch s).halfMastCause 6 := by
  cases stored with
  | none => exact .inr (sectionRefetch_none hrefetch)
  | some b =>
    cases hentry : s.image.sections[sec]? with
    | none => exact .inr (sectionRefetch_unknown hrefetch b hentry)
    | some e =>
      rw [sectionRefetch_some hrefetch hstep b hentry]
      split_ifs
      · exact .inl rfl
      · exact .inr rfl

end Refetched

/-! ## The commands -/

theorem exec_nvmeReadComplete (ok : Bool) (n : Nat) (s : State) :
    exec (.nvmeReadComplete ok n) s = doneQuiet s (nvmeReadComplete ok n s) := rfl

theorem exec_nvmeConnectionLoss (s : State) : exec .nvmeConnectionLoss s = doneQuiet s (nvmeConnectionLoss s) := rfl

theorem exec_keepAlive (s : State) : exec .keepAlive s = doneQuiet s (keepAlive s) := rfl

theorem exec_sectionFetched (sec : Nat) (stored : Bytes) (s : State) :
    exec (.sectionFetched sec stored) s = doneQuiet s (sectionFetched sec stored s) := rfl

theorem exec_sectionRefetch (sec : Nat) (stored : Option Bytes) (s : State) :
    exec (.sectionRefetch sec stored) s = done s (sectionRefetch sec stored s) := rfl

/-- Settles O41: Reads are counted, retried and given up, a section is taken or fails the load, and a refetch ends whole or in
half-mast. -/
theorem sectionsAreFetched : Obligations.SectionsAreFetched := by
  refine ⟨?read, ?retried, ?spent, ?lost, ?alive, ?fetched, ?refetched⟩
  case read =>
    intro s n hfetch
    rw [exec_nvmeReadComplete, nvmeReadComplete_ok hfetch]
    exact doneQuiet_eq rfl rfl rfl rfl rfl
  case retried =>
    intro s n k hfetch hleft
    rw [exec_nvmeReadComplete, nvmeReadComplete_retried hfetch hleft]
    exact doneQuiet_eq rfl rfl rfl rfl rfl
  case spent =>
    intro s n hstate hrefetch hleft
    have hfetch : s.fetching = true := by simp [State.fetching, hstate]
    have hfailed := failLoad_failed 1 0xFFFF s
    obtain ⟨hafter, himg⟩ := hfailed.verifying hstate
    rw [exec_nvmeReadComplete, nvmeReadComplete_spent hfetch hleft, failFetch_of_load hrefetch]
    exact ⟨_, rfl, hfailed.rd_reason, hafter, himg, hfailed.keeps.table, rfl⟩
  case lost =>
    intro s hfetch hfresh
    rw [exec_nvmeConnectionLoss, nvmeConnectionLoss_first hfetch hfresh]
    exact doneQuiet_eq rfl rfl rfl rfl rfl
  case alive =>
    intro s hfetch
    rw [exec_keepAlive, keepAlive_sent hfetch]
    exact doneQuiet_eq rfl rfl rfl rfl rfl
  case fetched =>
    intro s img e sec stored hnext hstate hawaited hentry
    rw [exec_sectionFetched]
    refine ⟨_, rfl, fun reason hcontent => ?bad, fun c g o hcontent huse hother hne => ?good,
      (sectionFetched_keepsRequests hnext hstate hawaited hentry).table, rfl⟩
    case bad =>
      have hfailed := failLoad_failed reason sec s
      obtain ⟨hafter, himg⟩ := hfailed.after (by rw [hstate]; decide)
      rw [sectionFetched_bad hnext hstate hawaited hentry hcontent]
      exact ⟨hfailed.rd_reason, hfailed.rd_section, hafter, himg⟩
    case good =>
      rw [sectionFetched_used hnext hstate hawaited hentry hcontent huse hother hne]
      exact ⟨rfl, rfl, hstate⟩
  case refetched =>
    intro s x sec stored hrefetch hstep
    have hcases := sectionRefetch_cases (sec := sec) hrefetch hstep stored
    rw [exec_sectionRefetch]
    refine ⟨_, rfl, ?ended, fun hnone => ?half, fun b e hsome hentry hdigest => ?whole, ?table, ?mem⟩
    case ended => rcases hcases with h | h <;> rw [h] <;> rfl
    case half => rw [hnone, sectionRefetch_none hrefetch]; rfl
    case whole => rw [hsome, sectionRefetch_some hrefetch hstep b hentry, if_pos hdigest]; rfl
    case table => rcases hcases with h | h <;> rw [h] <;> rfl
    case mem => rcases hcases with h | h <;> rw [h] <;> rfl

end Sys2Proof.Machine
end

section
/-! Program-and-verify: the start of an operation, a pulse on a pair, and the end of an operation (R103, R194 to R196). -/

namespace Sys2Proof.Machine
open Sys2Proof

/-- An array is read from the arrays alone. -/
theorem arr_congr {s t : State} (h : t.arrays = s.arrays) (a : Nat) : t.arr a = s.arr a := by
  unfold State.arr; rw [h]

/-! ## PROGRAM_OPERATION_START -/

/-- An array whose operation has begun: every pair open, and one more cycle (R194). -/
def beginProgram (now : Nat) (x : Arr) : Arr :=
  { x with prog := some ⟨now, []⟩, cycles := x.cycles + 1, programmed := false, cells := [], spares := [] }

/-- An array that awaits an operation, on a die that can program and has one free, begins it, and the operation is counted (R194, R198). -/
theorem programOperationStart_of_awaiting {s : State} {a : Nat} (hawait : s.awaitsProgram a = true) (hidle : (s.arr a).prog = none)
    (hdie : s.dieCanProgram (dieOf a) = true)
    (hroom : s.programming (dieOf a) < (if s.loadPrograms then s.rd 0x4004 0x01 else s.rd 0x4004 0x02)) (hvpp : s.hk.vppHold = false) :
    programOperationStart a s = (s.modArr a (beginProgram s.count.toNat)).bump 0x4004 0x09 1 := by
  unfold programOperationStart
  dsimp only
  refine if_neg ?_
  simp only [hawait, hidle, hdie, hvpp, Option.isSome_none, Bool.not_true, Bool.false_or, Bool.or_false, decide_eq_true_eq]
  exact Nat.not_le.mpr hroom

/-! ## PROGRAM_PULSE -/

/-- A pair after a pulse toward its target level (R195). -/
def pulsedPair (lvl : Int) (found : PulseResult) (p : PairOp) : PairOp :=
  if lvl = 0 then resetPulse found p else setPulse found p

/-- A pair that verifies is closed, and has failed only if it had before (R195). -/
theorem pulsedPair_verified (lvl : Int) (p : PairOp) :
    (pulsedPair lvl .verified p).closed = true ∧ (pulsedPair lvl .verified p).failed = p.failed := by
  unfold pulsedPair
  split_ifs <;> exact ⟨rfl, rfl⟩

/-- A pair still below its window after its 64th step has failed (R195). -/
theorem pulsedPair_below_last {lvl : Int} (hlvl : lvl ≠ 0) {p : PairOp} (htotal : p.total = 63) :
    (pulsedPair lvl .below p).failed = true := by
  simp [pulsedPair, hlvl, setPulse, htotal]

/-- An array with the pair under a key as a pulse left it: a pair that holds its target is kept among its cells (R195). -/
def takePulse (op : ProgOp) (key : Nat) (lvl : Int) (q : PairOp) (x : Arr) : Arr :=
  { x with
    prog := some { op with pairs := sset PairOp.fresh key q op.pairs }
    cells := if q.closed && !q.failed then sset 0 key lvl x.cells else x.cells }

section Pulse
variable {s : State} {a row col : Nat} {op : ProgOp} {pl : Place} (hprog : (s.arr a).prog = some op)
  (hplace : s.targetPlace a = some pl) (hcol : col < 560) (hrow : row < 1024)
  (hopen : (sget PairOp.fresh (1024 * col + row) op.pairs).closed = false) (hdie : s.dieCanProgram (dieOf a) = true)
include hprog hplace hcol hrow hopen hdie

/-- A pulse on an open pair changes its array, and counts the pair where it has failed (R195). -/
theorem programPulse_of_open {found : PulseResult} {lvl : Int} {q : PairOp}
    (hlvl : targetLevel s.sourceImage (s.arr a) pl col row = lvl)
    (hq : pulsedPair lvl found (sget PairOp.fresh (1024 * col + row) op.pairs) = q) :
    programPulse a row col found s =
      let t := s.modArr a (takePulse op (1024 * col + row) lvl q)
      if q.failed then t.bump 0x4004 0x08 1 else t := by
  subst hlvl hq
  unfold programPulse
  rw [hprog, hplace]
  dsimp only
  refine if_neg ?_
  simp only [hopen, hdie, Bool.not_true, Bool.or_false, Bool.or_eq_true, decide_eq_true_eq]
  omega

/-- A pair that verifies holds its target (R195). -/
theorem programPulse_verified (hsound : (sget PairOp.fresh (1024 * col + row) op.pairs).failed = false) : ∃ q : PairOp,
    q.closed = true ∧ q.failed = false ∧ programPulse a row col .verified s =
      s.modArr a (takePulse op (1024 * col + row) (targetLevel s.sourceImage (s.arr a) pl col row) q) := by
  obtain ⟨hclosed, hfailed⟩ := pulsedPair_verified (targetLevel s.sourceImage (s.arr a) pl col row)
    (sget PairOp.fresh (1024 * col + row) op.pairs)
  have hok := hfailed.trans hsound
  refine ⟨_, hclosed, hok, ?_⟩
  rw [programPulse_of_open hprog hplace hcol hrow hopen hdie rfl rfl]
  exact if_neg (by simp [hok])

/-- A pair that is below its window at its last step is counted as failed (R195). -/
theorem programPulse_spent (htotal : (sget PairOp.fresh (1024 * col + row) op.pairs).total = 63)
    (hlvl : targetLevel s.sourceImage (s.arr a) pl col row ≠ 0) : ∃ q : PairOp, q.failed = true ∧ programPulse a row col .below s =
      (s.modArr a (takePulse op (1024 * col + row) (targetLevel s.sourceImage (s.arr a) pl col row) q)).bump 0x4004 0x08 1 := by
  have hfailed := pulsedPair_below_last hlvl htotal
  refine ⟨_, hfailed, ?_⟩
  rw [programPulse_of_open hprog hplace hcol hrow hopen hdie rfl rfl]
  exact if_pos hfailed

end Pulse

/-! ## The end of an operation -/

/-- Pairs that the cap of 5.2 s fails are those still open (R196). -/
theorem length_failedPairs_cap (op : ProgOp) : (failedPairs op true).length - (failedPairs op false).length =
    (op.pairs.filter fun x => !x.2.closed && !x.2.failed).length := by
  have hsplit : (op.pairs.filter fun x => x.2.failed || (true && !x.2.closed)).length =
      (op.pairs.filter fun x => x.2.failed || (false && !x.2.closed)).length +
        (op.pairs.filter fun x => !x.2.closed && !x.2.failed).length := by
    generalize op.pairs = l
    induction l with
    | nil => rfl
    | cons x l ih =>
      simp only [List.filter_cons, Bool.true_and, Bool.false_and, Bool.or_false] at ih ⊢
      cases x.2.failed <;> cases x.2.closed <;> simp [ih] <;> omega
  simp only [failedPairs, List.length_map, hsplit]
  omega

/-- The array that an operation leaves, mapped around what failed (R62 to R64, R196). -/
def endedArray (op : ProgOp) (pl : Place) (cap : Bool) (noise : List Nat) (img : Image) (x : Arr) : Arr :=
  let fails := failedPairs op cap
  let y := mapColumns x ((fails.map (·.1)).eraseDups) noise
  { y with badRows := (y.badRows ++ failedRows fails).eraseDups, cells := programmedCells img y pl }

/-- A map of the columns does not retire the array. -/
theorem endedArray_retired (op : ProgOp) (pl : Place) (cap : Bool) (noise : List Nat) (img : Image) (x : Arr) :
    (endedArray op pl cap noise img x).retired = x.retired := by
  simp only [endedArray, mapColumns]

/-- The pairs that a cap failed are counted (R196). -/
def countCapped (op : ProgOp) (cap : Bool) (s : State) : State :=
  if cap then s.bump 0x4004 0x08 ((failedPairs op true).length - (failedPairs op false).length) else s

/-- Counting them changes the objects alone. -/
theorem countCapped_sameButObj (op : ProgOp) (cap : Bool) (s : State) : SameButObj s (countCapped op cap s) :=
  .ite ((SameButObj.refl s).bump ..) (.refl s)

/-- Too much of the array has failed for it to hold a strip (R63, R64). -/
def arraySpent (op : ProgOp) (cap : Bool) (x : Arr) : Bool :=
  !(failedRows (failedPairs op cap)).isEmpty || (List.range 512).any (lostCol x)

/-- The array mapped and verified, with what a cap failed counted. -/
def settleArray (a : Nat) (op : ProgOp) (pl : Place) (cap : Bool) (noise : List Nat) (s : State) : State :=
  verifyArray a ((countCapped op cap s).modArr a (endedArray op pl cap noise s.sourceImage))

/-- The array is marked as programmed, and counted where a load programs it (R186, R199). -/
def countProgrammed (a : Nat) (s : State) : State :=
  let s := markProgrammed a s
  if s.loadPrograms then s.bump 0x4000 0x14 1 else s

/-- An array that retires is in no plan by that. -/
theorem retireArray_plan (a : Nat) (s : State) : (retireArray a s).load.plan = s.load.plan := by
  unfold retireArray
  split_ifs <;> rfl

/-! ## What the verify of an array gives it -/

/-- A verified array has no operation left, the beat as its programming beat, and drift gain 1 (R103). -/
structure Verified (beat : Nat) (x : Arr) : Prop where
  prog : x.prog = none
  programmed : x.programmed = true
  progBeat : x.progBeat = beat
  gd : x.gd = f32One

theorem verified_verifyArray (a : Nat) (s : State) : Verified s.beat ((verifyArray a s).arr a) := by
  constructor <;> simp only [verifyArray, writeGain, arr_modArr_same]

@[simp] theorem verifyArray_obj (a : Nat) (s : State) : (verifyArray a s).obj = s.obj := by simp only [verifyArray, writeGain, modArr_obj]
@[simp] theorem verifyArray_table (a : Nat) (s : State) : (verifyArray a s).table = s.table := by
  simp only [verifyArray, writeGain, modArr_table]
@[simp] theorem verifyArray_load (a : Nat) (s : State) : (verifyArray a s).load = s.load := by
  simp only [verifyArray, writeGain, modArr_load]

/-- A verify neither retires an array nor takes it back. -/
theorem retired_verifyArray (a : Nat) (s : State) : ((verifyArray a s).arr a).retired = (s.arr a).retired := by
  simp only [verifyArray, writeGain, arr_modArr_same]

/-- A verify changes its own array alone. -/
theorem arr_verifyArray_other {a b : Nat} (h : b ≠ a) (s : State) : (verifyArray a s).arr b = s.arr b := by
  simp only [verifyArray, writeGain, arr_modArr_other _ _ _ h]

/-- What retires changes of the arrays is its mark (R191). -/
theorem retireArray_arrays (a : Nat) (s : State) : (retireArray a s).arrays = s.arrays ∨
    (retireArray a s).arrays = (s.modArr a fun x => { x with retired := true }).arrays := by
  unfold retireArray
  split_ifs
  · exact .inl rfl
  · exact .inr rfl

/-- A retired array stays verified. -/
theorem verified_retireArray {a beat : Nat} {s : State} (h : Verified beat (s.arr a)) : Verified beat ((retireArray a s).arr a) := by
  rcases retireArray_arrays a s with harr | harr
  · exact arr_congr harr a ▸ h
  · rw [arr_congr harr a, arr_modArr_same]
    exact ⟨h.prog, h.programmed, h.progBeat, h.gd⟩

/-- An array that retires leaves every other array. -/
theorem arr_retireArray_other {a b : Nat} (h : b ≠ a) (s : State) : (retireArray a s).arr b = s.arr b := by
  rcases retireArray_arrays a s with harr | harr
  · exact arr_congr harr b
  · exact (arr_congr harr b).trans (arr_modArr_other s a _ h)

/-! ## The array and the counters after the end -/

/-- The end of an operation has verified its array, and beside it only counters, the load and the array itself have changed: among the
counters that of failed pairs is that of a state before (R103, R196). -/
structure EndsProgram (a : Nat) (capped s t : State) : Prop where
  verified : Verified s.beat (t.arr a)
  other : ∀ b, b ≠ a → t.arr b = s.arr b
  failures : t.rd 0x4004 0x08 = capped.rd 0x4004 0x08
  table : t.table = s.table

namespace EndsProgram
variable {a : Nat} {capped s t u : State}

/-- What changes neither an array nor the counter of failed pairs keeps the end as it is. -/
theorem trans (h : EndsProgram a capped s t) (harrays : u.arrays = t.arrays) (hfail : u.rd 0x4004 0x08 = t.rd 0x4004 0x08)
    (htable : u.table = t.table) : EndsProgram a capped s u :=
  ⟨arr_congr harrays a ▸ h.verified, fun b hb => (arr_congr harrays b).trans (h.other b hb), hfail.trans h.failures,
    htable.trans h.table⟩

/-- The array may retire. -/
theorem retireArray (h : EndsProgram a capped s t) : EndsProgram a capped s (retireArray a t) := by
  refine ⟨verified_retireArray h.verified, fun b hb => (arr_retireArray_other hb t).trans (h.other b hb), ?failures, ?table⟩
  case failures =>
    refine Eq.trans ?_ h.failures
    unfold Machine.retireArray
    split_ifs
    · rfl
    · exact rd_bump_other (t.modArr a _) _ _ _ (by decide)
  case table =>
    refine Eq.trans ?_ h.table
    unfold Machine.retireArray
    split_ifs <;> rfl

/-- The load may go on to CALIBRATING. -/
theorem tryCalibrate (h : EndsProgram a capped s t) : EndsProgram a capped s (tryCalibrate t) := by
  unfold Machine.tryCalibrate
  split_ifs
  · exact h.trans rfl (rd_setLoadState_other (by decide) (by decide) 3 t) rfl
  · exact h

end EndsProgram

theorem endsProgram_settleArray (a : Nat) (op : ProgOp) (pl : Place) (cap : Bool) (noise : List Nat) (s : State) :
    EndsProgram a (countCapped op cap s) s (settleArray a op pl cap noise s) := by
  have hcount := countCapped_sameButObj op cap s
  have hbeat : (countCapped op cap s).beat = s.beat := beat_congr hcount.keepsRequests.count
  refine ⟨?verified, fun b hb => ?other, rd_congr ?failures _ _, ?table⟩
  case verified =>
    have hverified := verified_verifyArray a ((countCapped op cap s).modArr a (endedArray op pl cap noise s.sourceImage))
    rwa [beat_congr (modArr_count ..), hbeat] at hverified
  case other => exact (arr_verifyArray_other hb _).trans ((arr_modArr_other _ _ _ hb).trans (hcount.arr b))
  case failures => rw [settleArray, verifyArray_obj, modArr_obj]
  case table => rw [settleArray, verifyArray_table, modArr_table, hcount.table]

/-- The end of an operation leaves the array retired or not. -/
theorem retired_settleArray (a : Nat) (op : ProgOp) (pl : Place) (cap : Bool) (noise : List Nat) (s : State) :
    ((settleArray a op pl cap noise s).arr a).retired = (s.arr a).retired := by
  rw [settleArray, retired_verifyArray, arr_modArr_same, (countCapped_sameButObj ..).arr, endedArray_retired]

/-- A programmed array counted changes no array. -/
theorem countProgrammed_arrays (a : Nat) (s : State) : (countProgrammed a s).arrays = s.arrays := by
  unfold countProgrammed
  dsimp only
  split_ifs <;> rfl

theorem EndsProgram.countProgrammed {a : Nat} {capped s t : State} (h : EndsProgram a capped s t) :
    EndsProgram a capped s (countProgrammed a t) := by
  refine h.trans (countProgrammed_arrays a t) ?failures ?table
  all_goals
    unfold Machine.countProgrammed
    dsimp only
    split_ifs
  · exact rd_bump_other (markProgrammed a t) _ _ _ (by decide)
  all_goals rfl

/-! ## PROGRAM_OPERATION_END and PROGRAM_OPERATION_CAP -/

section EndOperation
variable {s : State} {a : Nat} {op : ProgOp} {pl : Place} (hprog : (s.arr a).prog = some op) (hplace : s.targetPlace a = some pl)
include hprog hplace

/-- An array that can hold its strip is programmed (R103, R196). -/
theorem endOperation_of_sound (cap : Bool) (noise : List Nat) (onFail : State → State)
    (hsound : arraySpent op cap (endedArray op pl cap noise s.sourceImage (s.arr a)) = false) :
    endOperation a cap noise onFail s = countProgrammed a (settleArray a op pl cap noise s) := by
  unfold endOperation
  rw [hprog, hplace]
  cases cap <;> exact if_neg (Bool.eq_false_iff.mp hsound)

/-- One that cannot, and that no load has planned, retires (R63, R64, R191). -/
theorem endOperation_of_spent (cap : Bool) (noise : List Nat) (onFail : State → State)
    (hspent : arraySpent op cap (endedArray op pl cap noise s.sourceImage (s.arr a)) = true) (hplan : ∀ y ∈ s.load.plan, y.1 ≠ a) :
    endOperation a cap noise onFail s = retireArray a (settleArray a op pl cap noise s) := by
  have hload : (settleArray a op pl cap noise s).load = s.load := by
    rw [settleArray, verifyArray_load, modArr_load, (countCapped_sameButObj ..).load]
  have hfree : ¬((retireArray a (settleArray a op pl cap noise s)).load.plan.any fun y => y.1 = a) = true := by
    rw [retireArray_plan, hload]
    simpa using fun x hx => hplan (a, x) hx rfl
  unfold endOperation
  rw [hprog, hplace]
  cases cap <;> exact (if_pos hspent).trans (if_neg hfree)

/-- An operation whose pairs have all verified leaves its array programmed (R103, R196). -/
theorem programOperationEnd_of_verified (noise : List Nat) (hpairs : ∀ x ∈ op.pairs, x.2.closed = true ∧ x.2.failed = false)
    (hcols : ∀ l, l < 512 → lostCol (mapColumns (s.arr a) [] noise) l = false) :
    programOperationEnd a noise s = tryCalibrate (countProgrammed a (settleArray a op pl false noise s)) := by
  have hfails : failedPairs op false = [] := by
    simpa [failedPairs] using fun k p hp => (hpairs (k, p) hp).2
  have hsound : arraySpent op false (endedArray op pl false noise s.sourceImage (s.arr a)) = false := by
    have hrows : failedRows (failedPairs op false) = [] := by rw [hfails]; rfl
    have hmap (l : Nat) : lostCol (endedArray op pl false noise s.sourceImage (s.arr a)) l =
        lostCol (mapColumns (s.arr a) [] noise) l := by
      simp only [endedArray, hfails, lostCol, hotSpare, List.map_nil, List.eraseDups_nil]
    rw [arraySpent, hrows, Bool.or_eq_false_iff, List.any_eq_false]
    exact ⟨rfl, fun l hl => by rw [hmap, hcols l (List.mem_range.mp hl)]; decide⟩
  have hclosed : ¬(op.pairs.any fun x => !x.2.closed) = true := by
    simpa using fun k p hp => (hpairs (k, p) hp).1
  have hend := endOperation_of_sound hprog hplace false noise (failLoad 10 0xFFFF) hsound
  unfold programOperationEnd
  rw [hprog, ← hend]
  exact if_neg hclosed

/-- At 5.2 s an operation ends, whatever its array is then worth (R196). -/
theorem programOperationCap_endsProgram (hdue : op.start + 5200000000 ≤ s.count.toNat) (hplan : ∀ y ∈ s.load.plan, y.1 ≠ a) :
    EndsProgram a (countCapped op true s) s (programOperationCap a s) := by
  have hend := endsProgram_settleArray a op pl true (s.arr a).noise s
  unfold programOperationCap
  rw [hprog]
  dsimp only
  rw [if_neg (Nat.not_lt.mpr hdue)]
  refine EndsProgram.tryCalibrate ?_
  cases hspent : arraySpent op true (endedArray op pl true (s.arr a).noise s.sourceImage (s.arr a)) with
  | true => rw [endOperation_of_spent hprog hplace true _ _ hspent hplan]; exact hend.retireArray
  | false => rw [endOperation_of_sound hprog hplace true _ _ hspent]; exact hend.countProgrammed

end EndOperation

/-! ## The commands -/

theorem exec_programOperationStart (a : Nat) (s : State) :
    exec (.programOperationStart a) s = doneQuiet s (programOperationStart a s) := rfl

theorem exec_programPulse (a row col : Nat) (found : PulseResult) (s : State) :
    exec (.programPulse a row col found) s = doneQuiet s (programPulse a row col found s) := rfl

theorem exec_programOperationEnd (a : Nat) (noise : List Nat) (s : State) :
    exec (.programOperationEnd a noise) s = doneQuiet s (programOperationEnd a noise s) := rfl

theorem exec_programOperationCap (a : Nat) (s : State) :
    exec (.programOperationCap a) s = doneQuiet s (programOperationCap a s) := rfl

/-- Settles O42: an operation begins with every pair open, a pulse closes or fails its pair, and the end or the cap of the operation
verifies its array. -/
theorem arraysAreProgrammedAndVerified : Obligations.ArraysAreProgrammedAndVerified := by
  refine ⟨?start, ?verified, ?below, ?ended, ?capped⟩
  case start =>
    intro s a hawait hidle hdie hroom hvpp
    have harr : ((s.modArr a (beginProgram s.count.toNat)).bump 0x4004 0x09 1).arr a = beginProgram s.count.toNat (s.arr a) :=
      arr_modArr_same ..
    rw [exec_programOperationStart, programOperationStart_of_awaiting hawait hidle hdie hroom hvpp]
    refine ⟨_, doneQuiet_eq rfl rfl rfl rfl rfl, ?_, ?_, ?_, rd_bump_same .., fun b hb => arr_modArr_other s a _ hb, rfl, rfl⟩ <;>
      rw [harr] <;> rfl
  case verified =>
    intro s a row col op pl hprog hplace hcol hrow hopen hsound hdie
    obtain ⟨q, hclosed, hok, heq⟩ := programPulse_verified hprog hplace hcol hrow hopen hdie hsound
    rw [exec_programPulse, heq]
    refine ⟨_, doneQuiet_eq rfl rfl rfl rfl rfl, ?_, fun k hk => ?_, fun b hb => arr_modArr_other s a _ hb, rfl, rfl, rfl⟩
    · simp [takePulse, hclosed, hok]
    · simp [takePulse, hclosed, hok, sget_sset_other _ hk]
  case below =>
    intro s a row col op pl hprog hplace hcol hrow hopen htotal hlvl hdie
    obtain ⟨q, hfailed, heq⟩ := programPulse_spent hprog hplace hcol hrow hopen hdie htotal hlvl
    have hcells : (takePulse op (1024 * col + row) (targetLevel s.sourceImage (s.arr a) pl col row) q (s.arr a)).cells =
        (s.arr a).cells := by simp [takePulse, hfailed]
    rw [exec_programPulse, heq]
    exact ⟨_, doneQuiet_eq rfl rfl rfl rfl rfl, rd_bump_same .., (congrArg Arr.cells (arr_modArr_same ..)).trans hcells,
      fun b hb => arr_modArr_other s a _ hb, rfl, rfl⟩
  case ended =>
    intro s a noise op pl hprog hplace hpairs hcols
    have hend := (endsProgram_settleArray a op pl false noise s).countProgrammed.tryCalibrate
    have hretired : ((tryCalibrate (countProgrammed a (settleArray a op pl false noise s))).arr a).retired = (s.arr a).retired := by
      have harr := arr_congr (countProgrammed_arrays a (settleArray a op pl false noise s)) a
      rw [(tryCalibrate_sameButObj _).arr, harr, retired_settleArray]
    rw [exec_programOperationEnd, programOperationEnd_of_verified hprog hplace noise hpairs hcols]
    exact ⟨_, rfl, hend.verified.prog, hend.verified.programmed, hend.verified.progBeat, hend.verified.gd, hretired, hend.other,
      hend.table, rfl⟩
  case capped =>
    intro s a op pl hprog hplace hdue hplan
    have hend := programOperationCap_endsProgram hprog hplace hdue hplan
    have hcounted : Counted s (programOperationCap a s) 0x4004 0x08 (op.pairs.filter fun x => !x.2.closed && !x.2.failed).length := by
      rw [← length_failedPairs_cap]
      exact hend.failures.trans (rd_bump_same ..)
    rw [exec_programOperationCap]
    exact ⟨_, rfl, hend.verified.prog, hend.verified.progBeat, hend.other, hcounted, hend.table, rfl⟩

end Sys2Proof.Machine
end

section
/-! Loads of an image: their start and abort by an operator's write, the manifest, the placement plan, and the reports and requests
that are kept (R171, R185 to R187, R190, R191, R261, R509). -/

namespace Sys2Proof.Machine
open Sys2Proof

/-! ## An operator's write of an object -/

/-- What an object's rule and effect see of an operator's write. -/
def operatorCtx (r : DictReq) (s : State) (index sub : Nat) (data : Bytes) : WriteCtx :=
  ⟨r.session, .operator, instOf s r.session index sub, beNat data, data⟩

/-- The operator may write these bytes to an object: a writable one of that length and range, and no mailbox (R375, R378, R381). -/
structure Writable (index sub : Nat) (row : ObjRow) (data : Bytes) : Prop where
  sub_ne : sub ≠ 0
  row_eq : objRow index sub = some row
  admits : admitsWrite row.access = true
  right : ∀ s inst v, (rights s .operator index sub inst v).2 = true
  type : typeBad row false data.length = false
  range : rangeBad row data = false
  mailbox : isHostMailbox index sub = false

section Write
variable {r : DictReq} {s : State} {index sub : Nat} {row : ObjRow} {data : Bytes} (h : ByOperator r s)
  (hfree : NotBusy r s index sub) (hw : Writable index sub row data) {accept : WriteCtx → State → Bool}
  {effect : ObjRow → WriteCtx → State → State} {reject : WriteCtx → State → State}
include h hfree hw

/-- An operator's write is judged by the object's own rule (R378). -/
theorem judgeWrite_operator : judgeWrite r index sub false data accept effect reject s.enqueueRequest =
    if accept (operatorCtx r s index sub data) s.enqueueRequest then
      (0, [], if needsWake index sub then raiseWake (effect row (operatorCtx r s index sub data) s.enqueueRequest)
        else effect row (operatorCtx r s index sub data) s.enqueueRequest)
    else (3, [], reject (operatorCtx r s index sub data) s.enqueueRequest) := by
  have hacc : judgeAccess s.enqueueRequest r index sub (beNat data) true = .inr (.operator, row) := by
    rw [judgeAccess_enqueueRequest]
    exact judgeAccess_operator h hw.sub_ne hw.row_eq hw.admits (hw.right s)
  have hbusy : blockBusy s.enqueueRequest r index sub (instOf s.enqueueRequest r.session index sub) = false := hfree
  have hctx : (⟨r.session, .operator, instOf s.enqueueRequest r.session index sub, beNat data, data⟩ : WriteCtx) =
      operatorCtx r s index sub data := rfl
  cases haccept : accept (operatorCtx r s index sub data) s.enqueueRequest <;>
    simp [judgeWrite, hacc, hw.type, hw.range, hw.mailbox, hbusy, hctx, haccept]

/-- An operator's write that the object's own rule accepts takes effect and is answered OK (R378). -/
theorem dictWriteElse_accepted (hok : accept (operatorCtx r s index sub data) s.enqueueRequest = true) :
    dictWriteElse r index sub data accept effect reject s = respond r 0 false []
      (if needsWake index sub then raiseWake (effect row (operatorCtx r s index sub data) s.enqueueRequest)
        else effect row (operatorCtx r s index sub data) s.enqueueRequest) := by
  unfold dictWriteElse
  rw [dictServe_of_served h.1, judgeWrite_operator h hfree hw, if_pos hok]

/-- One that it turns away is answered RANGE (R378). -/
theorem dictWriteElse_rejected (hbad : accept (operatorCtx r s index sub data) s.enqueueRequest = false) :
    dictWriteElse r index sub data accept effect reject s =
      respond r 3 false [] (reject (operatorCtx r s index sub data) s.enqueueRequest) := by
  unfold dictWriteElse
  rw [dictServe_of_served h.1, judgeWrite_operator h hfree hw, if_neg (Bool.eq_false_iff.mp hbad)]

end Write

/-- A wake event is Masthead's alone (R446). -/
theorem raiseWake_eq (s : State) : ∃ m, raiseWake s = { s with masthead := m } := by
  unfold raiseWake
  split_ifs
  · exact ⟨_, rfl⟩
  · exact ⟨s.masthead, rfl⟩

/-- What a response, after a wake event or without one, keeps of what an accepted write did: the objects of a load, the load itself, the
image and the arrays. -/
structure Answered (r : DictReq) (status : Nat) (u t : State) : Prop where
  answers : Answers r status [] t
  rd : ∀ {v}, v < 256 → t.rd 0x4000 v = u.rd 0x4000 v
  load : t.load = u.load
  img : t.img = u.img
  arrays : t.arrays = u.arrays
  table : t.table = u.table

theorem answered_respond (r : DictReq) (status : Nat) (u : State) : Answered r status u (respond r status false [] u) := by
  obtain ⟨o, x, h⟩ := respond_eq r status false [] u
  refine ⟨answers_respond .., fun hv => rd_respond _ _ _ _ _ ?_ ?_ ?_, ?_, ?_, ?_, respond_table ..⟩
  · unfold objKey; omega
  · unfold objKey; omega
  · unfold objKey; omega
  all_goals rw [h]

theorem answered_respond_wake (r : DictReq) (status : Nat) (u : State) :
    Answered r status u (respond r status false [] (raiseWake u)) := by
  obtain ⟨m, h⟩ := raiseWake_eq u
  rw [h]
  have k := answered_respond r status { u with masthead := m }
  exact ⟨k.answers, k.rd, k.load, k.img, k.arrays, k.table⟩

/-! ## Starting and aborting a load -/

/-- The row of the load's command in the dictionary (R199). -/
def loadRow : ObjRow := ⟨0x4000, 0x4000, 0x10, 0x10, .uint, 1, .wo, 0, 1, 2⟩

theorem beNat_singleton (b : Byte) : beNat [b] = b.toNat := by simp [beNat]

/-- The operator may write 1 and 2 to the load's command (R185, R199). -/
theorem writable_load {b : Byte} (hleast : 1 ≤ b.toNat) (hmost : b.toNat ≤ 2) : Writable 0x4000 0x10 loadRow [b] where
  sub_ne := by decide
  row_eq := by decide +kernel
  admits := rfl
  right := fun _ _ _ => by simp [rights]
  type := rfl
  range := by
    have hrange : ¬(b.toNat < 1 ∨ 2 < b.toNat) := by omega
    simp only [rangeBad, loadRow, beNat_singleton, hrange, decide_false, reduceCtorEq, if_false]
  mailbox := rfl

/-- The load's command needs a sequencer (R446). -/
theorem needsWake_load : needsWake 0x4000 0x10 = true := by decide

/-- The end of the loopbacks inside the device changes objects and the calibration alone (R391). -/
theorem endInsideLoopbacks_eq (s : State) : ∃ o c, endInsideLoopbacks s = { s with obj := o, cal := c } := by
  unfold endInsideLoopbacks
  extract_lets s1 s2 s3 s4
  have h1 : SameButObj s s1 := SameButObj.foldl (fun t _ => (SameButObj.refl t).wr ..) _ s
  have h2 : SameButObj s s2 := h1.trans (SameButObj.foldl (fun t _ => (SameButObj.refl t).wr ..) _ s1)
  have h4 : SameButObj s s4 := .ite ((h2.wr ..).wr ..) (h2.wr ..)
  split_ifs
  · rw [State.modCal, h4]
    exact ⟨_, _, rfl⟩
  · exact ⟨s2.obj, s.cal, h2⟩

/-- A load has started: VERIFYING from this beat on, no image to load yet, no byte fetched, and the image in service kept (R185, R186). -/
structure LoadBegun (s t : State) : Prop where
  keeps : KeepsRequests s t
  img : t.img = s.img
  next : t.load.next = none
  loadState : t.loadState = 1
  fetched : t.rd 0x4000 0x13 = 0
  beat : t.rd 0x4000 0x16 = s.beat

theorem beginLoad_begun (reload : Bool) (s : State) : LoadBegun s (beginLoad reload s) := by
  unfold beginLoad
  extract_lets s1
  have hset := setLoadState_sameButObj 1 (s1.wr 0x4000 0x13 0)
  have h1 : KeepsRequests s (s1.wr 0x4000 0x13 0) := ⟨rfl, rfl, rfl⟩
  have hkeeps := h1.trans hset.keepsRequests
  refine ⟨⟨hkeeps.table, hkeeps.mem, hkeeps.count⟩, hset.img, congrArg Load.next hset.load,
    loadState_setLoadState 1 (s1.wr 0x4000 0x13 0), ?fetched, rd_setLoadState_beat 1 (s1.wr 0x4000 0x13 0)⟩
  case fetched => exact (rd_setLoadState_other (by decide) (by decide) 1 (s1.wr 0x4000 0x13 0)).trans (rd_wr_same ..)

/-- A write of 1 starts a load, once the loopbacks inside the device have ended (R185, R391). -/
theorem loadCommand_start {c : WriteCtx} (h : c.value = 1) (s : State) : LoadBegun s (loadCommand c s) := by
  obtain ⟨o, k, hloop⟩ := endInsideLoopbacks_eq s
  have hbegun := beginLoad_begun false { s with obj := o, cal := k }
  rw [loadCommand, if_pos h, hloop]
  obtain ⟨⟨htable, hmem, hcount⟩, himg, hnext, hstate, hfetched, hbeat⟩ := hbegun
  exact ⟨⟨htable, hmem, hcount⟩, himg, hnext, hstate, hfetched, hbeat⟩

/-- A write of 2 ends the load in progress with reason ABORT (R185). -/
theorem loadCommand_abort {c : WriteCtx} (h : c.value = 2) {s : State} (hloading : s.loading = true) :
    loadCommand c s = failLoad 9 0xFFFF s := by
  simp [loadCommand, h, hloading]

/-! ## The manifest -/

/-- The manifest's signature verifies under an accepted key (R171). -/
def manifestSigned (s : State) (manifest : Bytes) (h : ManifestHead) : Bool :=
  (s.keyFor h.keyId 0).any fun n => Config.rsaPssVerify n (signedPart manifest) (manifest.drop (manifest.length - 512))

/-- The expert lists leave on VC7 (R261). -/
theorem sendLists_eq (img : Image) (s : State) : ∃ f o, sendLists img s = { s with fab := f, out := o } := by
  unfold sendLists
  dsimp only
  refine List.foldlRecOn _ _ (motive := fun (t : State) => ∃ f o, t = { s with fab := f, out := o }) ⟨s.fab, s.out, rfl⟩ ?_
  rintro t ⟨f, o, rfl⟩ m -
  exact ⟨_, _, rfl⟩

theorem sendLists_keepsRequests (img : Image) (s : State) : KeepsRequests s (sendLists img s) := by
  obtain ⟨f, o, h⟩ := sendLists_eq img s
  rw [h]
  exact ⟨rfl, rfl, rfl⟩

/-- The image that a manifest and its tables describe, with no section used (R168 to R175). -/
def manifestImage (manifest : Bytes) (h : ManifestHead) (tables : List LayerEntry × List MatEntry × List Recipe) : Image :=
  ⟨h.imageId, h.version, Config.sha512 (signedPart manifest), h.keyId, tables.1, tables.2.1, tables.2.2,
    parseSections manifest h.count, [], [], [], [], []⟩

/-- The image of a manifest taken as the one to load, with its data sections still to fetch (R181). -/
def takeManifest (own : List (Nat × SectionEntry)) (img : Image) (s : State) : State :=
  s.modLoad fun l => { l with next := some img, toFetch := (own.filter fun x => 3 < x.2.type).map (·.1) }

section Manifest
variable {s : State} {manifest : Bytes} (lt dir rec : Bytes) {h : ManifestHead} (hstate : s.loadState = 1)
  (hnext : s.load.next = none) (hhead : parseHead manifest = some h)
include hstate hnext hhead

/-- A manifest whose signature does not verify fails the load (R171). -/
theorem manifestVerify_unsigned (hsig : manifestSigned s manifest h = false) :
    manifestVerify manifest lt dir rec s = failLoad 2 0xFFFF s := by
  unfold manifestSigned at hsig
  unfold manifestVerify
  cases hkey : s.keyFor h.keyId 0 with
  | none => simp [hstate, hnext, hhead, hkey]
  | some n =>
    rw [hkey, Option.any_some] at hsig
    simp [hstate, hnext, hhead, hkey, hsig]

/-- One that verifies, in the region's shape and with whole tables, becomes the image to load, and the expert lists are sent (R187,
R261). -/
theorem manifestVerify_taken {tables : List LayerEntry × List MatEntry × List Recipe} (hsig : manifestSigned s manifest h = true)
    (hload : s.load.reload = false) (hshape : s.shape = h.region)
    (htype : ((ownSections s.ownIndex (parseSections manifest h.count)).any fun x => x.2.type = 1) = true)
    (hsections : sectionsOk (ownSections s.ownIndex (parseSections manifest h.count)) = true)
    (htables : verifyTables h (ownSections s.ownIndex (parseSections manifest h.count)) lt dir rec = .inr tables) :
    manifestVerify manifest lt dir rec s = sendLists (manifestImage manifest h tables)
      (takeManifest (ownSections s.ownIndex (parseSections manifest h.count)) (manifestImage manifest h tables) s) := by
  unfold manifestSigned at hsig
  unfold manifestVerify
  cases hkey : s.keyFor h.keyId 0 with
  | none => simp [hkey] at hsig
  | some n =>
    rw [hkey, Option.any_some] at hsig
    simp only [hstate, hnext, hhead, hkey, hsig, hload, hshape, htype, hsections, htables, manifestImage, takeManifest, ne_eq,
      not_true_eq_false, decide_false, Option.isSome_none, Bool.or_false, Bool.not_true, Bool.false_and, Bool.false_eq_true, if_false]

end Manifest

/-- A manifest, whatever becomes of the load, leaves requests as they were. -/
theorem manifestVerify_keepsRequests (manifest lt dir rec : Bytes) (s : State) :
    KeepsRequests s (manifestVerify manifest lt dir rec s) := by
  have hfail (reason sec : Nat) : KeepsRequests s (failLoad reason sec s) := (failLoad_failed reason sec s).keeps
  unfold manifestVerify
  -- The checks in their order: each that fails ends the load, and a reload's other digest unloads the image.
  split
  · exact .refl s
  split
  · exact hfail ..
  extract_lets sig ok digest s1 secs own
  split
  · exact hfail ..
  split
  · have h1 : KeepsRequests s (s1.wr 0x4000 0x12 0) := ⟨rfl, rfl, rfl⟩
    exact h1.trans ((unload_unloaded _).keeps.trans (setLoadState_sameButObj ..).keepsRequests)
  split
  · exact hfail ..
  split
  · exact hfail ..
  split
  · exact hfail ..
  split
  · exact hfail ..
  · refine KeepsRequests.trans ?_ (sendLists_keepsRequests ..)
    exact ⟨rfl, rfl, rfl⟩

/-! ## The placement plan -/

/-- The answer of a window leaves requests and the image as they were (R400, R401). -/
theorem answerWindow_keeps (w : CalWin) (s : State) : KeepsRequests s (answerWindow w s) ∧ (answerWindow w s).img = s.img := by
  unfold answerWindow
  split
  · exact ⟨.refl s, rfl⟩
  · split
    · exact ⟨.refl s, rfl⟩
    · exact ⟨⟨rfl, rfl, rfl⟩, rfl⟩

/-- So does a window abandoned (R429). -/
theorem abandonWindow_keeps (s : State) : KeepsRequests s (abandonWindow s) ∧ (abandonWindow s).img = s.img := by
  unfold abandonWindow
  split
  · exact ⟨.refl s, rfl⟩
  · next w _ =>
    obtain ⟨hkeeps, himg⟩ := answerWindow_keeps w ((s.wr 0x2200 0x03 0xFF).modCal fun c => { c with current := none })
    have hout : KeepsRequests s ((s.wr 0x2200 0x03 0xFF).modCal fun c => { c with current := none }) := ⟨rfl, rfl, rfl⟩
    exact ⟨hout.trans hkeeps, himg.trans rfl⟩

/-- A state that enters LOADING: its image unloaded, its plan as given, and nothing programmed yet (R186, R190). -/
structure LoadPlaced (plan : List (Nat × Place)) (s t : State) : Prop where
  keeps : KeepsRequests s t
  loadState : t.loadState = 2
  plan : t.load.plan = plan
  img : t.img = none
  programmed : t.rd 0x4000 0x14 = 0

/-- The load's counts of arrays written, and its entry to LOADING (R186, R199). -/
theorem loadPlaced_setLoadState {plan : List (Nat × Place)} {s t : State} (n : Nat) (hkeeps : KeepsRequests s t)
    (hplan : t.load.plan = plan) (himg : t.img = none) :
    LoadPlaced plan s (setLoadState 2 ((t.wr 0x4000 0x14 0).wr 0x4000 0x15 n)) := by
  have hcount : SameButObj t ((t.wr 0x4000 0x14 0).wr 0x4000 0x15 n) := ((SameButObj.refl t).wr ..).wr ..
  have hset := hcount.trans (setLoadState_sameButObj 2 _)
  refine ⟨hkeeps.trans hset.keepsRequests, loadState_setLoadState .., (congrArg Load.plan hset.load).trans hplan,
    hset.img.trans himg, ?programmed⟩
  case programmed =>
    rw [rd_setLoadState_other (by decide) (by decide), rd_wr_other _ _ _ _ (by decide), rd_wr_same]

/-- No operation of program-and-verify is in progress on any array. -/
def dropPrograms (s : State) : State :=
  { s with arrays := s.arrays.foldl (fun l x => sset Arr.blank x.1 { x.2 with prog := none } l) [] }

/-- The arrays of a plan that are to be programmed: all of them, or for a reload those that no longer hold their strip (R508). -/
def arraysToProgram (plan : List (Nat × Place)) (s : State) : List Nat :=
  plan.filterMap fun x =>
    if !s.load.reload || s.flash.interrupted.contains x.1 || !(s.arr x.1).programmed then some x.1 else none

/-- The plan is the load's, and a load that is no reload forgets the placement recorded before (R190, R508). -/
def takePlan (reload : Bool) (img : Image) (plan : List (Nat × Place)) (again : List Nat) (s : State) : State :=
  let s := s.modLoad fun l => { l with next := some (settleHalves plan img), plan := plan, toProgram := again }
  if reload then s else { s with flash := { s.flash with placement := none, interrupted := [] } }

theorem takePlan_spec (reload : Bool) (img : Image) (plan : List (Nat × Place)) (again : List Nat) (s : State) :
    KeepsRequests s (takePlan reload img plan again s) ∧ (takePlan reload img plan again s).load.plan = plan ∧
      (takePlan reload img plan again s).img = s.img := by
  cases reload <;> exact ⟨⟨rfl, rfl, rfl⟩, rfl, rfl⟩

/-- With every member's list in, a whole map of experts and a plan that fits, the load enters LOADING (R186, R190, R261). -/
theorem placementPlan_placed {s : State} {img : Image} {plan : List (Nat × Place)} (hnext : s.load.next = some img)
    (hstate : s.loadState = 1) (hlists : s.listsWhole = true) (hmap : expertMapOk img (s.load.lists ++ s.ownLists img) = true)
    (hplan : loadPlan img s = some plan) : LoadPlaced plan s (placementPlan s) := by
  have heq : placementPlan s = setLoadState 2 (((takePlan s.load.reload img plan (arraysToProgram plan s)
      (abandonWindow (unload (dropPrograms s)))).wr 0x4000 0x14 0).wr 0x4000 0x15 (arraysToProgram plan s).length) := by
    have hready : ¬(s.loadState ≠ 1 || !s.listsWhole) = true := by simp [hstate, hlists]
    have hwhole : ¬(!expertMapOk img (s.load.lists ++ s.ownLists img)) = true := by simp [hmap]
    simp only [placementPlan, hnext, if_neg hready, if_neg hwhole, hplan, takePlan, dropPrograms, arraysToProgram]
  have hdrop : KeepsRequests s (dropPrograms s) := ⟨rfl, rfl, rfl⟩
  have hunload := unload_unloaded (dropPrograms s)
  obtain ⟨hwindow, himg⟩ := abandonWindow_keeps (unload (dropPrograms s))
  obtain ⟨htake, hload, himg'⟩ := takePlan_spec s.load.reload img plan (arraysToProgram plan s)
    (abandonWindow (unload (dropPrograms s)))
  rw [heq]
  exact loadPlaced_setLoadState _ (hdrop.trans (hunload.keeps.trans (hwindow.trans htake))) hload
    (himg'.trans (himg.trans hunload.img))

/-! ## Lists, reports and requests that are kept -/

/-- The member's list stands in place of any it has sent before (R261). -/
theorem mem_expertList {member : Nat} {slots : List (Nat × List Nat)} {s : State} {y : Nat × Nat × List Nat} :
    y ∈ (expertList member slots s).load.lists ↔ (y ∈ s.load.lists ∧ y.1 ≠ member) ∨ y = (member, 0x100, []) ∨
      ∃ x ∈ slots, (member, x.1, x.2) = y := by
  have hload : (takeMgmt s).load = s.load := rfl
  simp [expertList, State.modLoad, hload]

/-- The member's report stands in place of any it has sent before (R509). -/
theorem mem_imageReport {member : Nat} {digest : Bytes} {s : State} {y : Nat × Bytes} :
    y ∈ (imageReport member digest s).fab.imageReports ↔ (y ∈ s.fab.imageReports ∧ y.1 ≠ member) ∨ y = (member, digest) := by
  simp [imageReport, takeMgmt]

/-- The row of the re-placement requests in the dictionary (R191). -/
def replaceRow : ObjRow := ⟨0x4004, 0x4004, 0x0A, 0x0A, .uint, 1, .wo, 0, 0, 255⟩

/-- The operator may write any layer slot there (R191). -/
theorem writable_replace (b : Byte) : Writable 0x4004 0x0A replaceRow [b] where
  sub_ne := by decide
  row_eq := by decide +kernel
  admits := rfl
  right := fun _ _ _ => by simp [rights]
  type := rfl
  range := by
    have hrange : ¬(b.toNat < 0 ∨ 255 < b.toNat) := by have := b.isLt; omega
    simp only [rangeBad, replaceRow, beNat_singleton, hrange, decide_false, reduceCtorEq, if_false]
  mailbox := rfl

/-! ## The commands -/

theorem exec_loadStart (r : DictReq) (data : Bytes) (s : State) : exec (.loadStart r data) s = doneQuiet s
    (dictWriteElse r 0x4000 0x10 data (fun c s => c.value = 1 && loadStartOk c s) (fun _ c s => loadCommand c s)
      loadStartRejected s) := rfl

theorem exec_loadAbort (r : DictReq) (data : Bytes) (s : State) : exec (.loadAbort r data) s = doneQuiet s
    (dictWriteElse r 0x4000 0x10 data (fun c s => c.value = 2 && loadStartOk c s) (fun _ c s => loadCommand c s)
      loadStartRejected s) := rfl

theorem exec_manifestVerify (manifest lt dir rec : Bytes) (s : State) :
    exec (.manifestVerify manifest lt dir rec) s = doneQuiet s (manifestVerify manifest lt dir rec s) := rfl

theorem exec_placementPlan (s : State) : exec .placementPlan s = done s (placementPlan s) := rfl

theorem exec_expertList (member : Nat) (slots : List (Nat × List Nat)) (s : State) :
    exec (.expertList member slots) s = doneQuiet s (expertList member slots s) := rfl

theorem exec_imageReport (member : Nat) (digest : Bytes) (s : State) :
    exec (.imageReport member digest) s = doneQuiet s (imageReport member digest s) := rfl

theorem exec_replaceSlot (r : DictReq) (data : Bytes) (s : State) : exec (.replaceSlot r data) s = doneQuiet s
    (dictWriteElse r 0x4004 0x0A data (fun _ _ => true)
      (fun _ c s => s.modLoad fun l => { l with replace := l.replace ++ [c.value] }) (fun _ s => s) s) := rfl

section LoadWrites
variable {r : DictReq} {s : State} (h : ByOperator r s) (hfree : NotBusy r s 0x4000 0x10)
include h hfree

/-- An accepted start (R185). -/
theorem loadStart_accepted (hidle : s.loading = false) (hrequests : s.requestsHold = false) (hnamed : s.controllerNamed = true) :
    ∃ u, LoadBegun s u ∧ exec (.loadStart r [1#8]) s = doneQuiet s (respond r 0 false [] (raiseWake u)) := by
  have hok : (decide ((operatorCtx r s 0x4000 0x10 [1#8]).value = 1) &&
      loadStartOk (operatorCtx r s 0x4000 0x10 [1#8]) s.enqueueRequest) = true := by
    have hidle' : s.enqueueRequest.loading = false := hidle
    have hrequests' : s.enqueueRequest.requestsHold = false := hrequests
    have hnamed' : s.enqueueRequest.controllerNamed = true := hnamed
    simp [operatorCtx, beNat_singleton, loadStartOk, hidle', hrequests', hnamed']
  obtain ⟨hkeeps, himg, hnext, hstate, hfetched, hbeat⟩ :=
    loadCommand_start (c := operatorCtx r s 0x4000 0x10 [1#8]) rfl s.enqueueRequest
  refine ⟨_, ⟨⟨hkeeps.table, hkeeps.mem, hkeeps.count⟩, himg, hnext, hstate, hfetched, hbeat⟩, ?_⟩
  rw [exec_loadStart, dictWriteElse_accepted h hfree (writable_load (by decide) (by decide)) hok, if_pos needsWake_load]

/-- A start that a request entry turns away (R185). -/
theorem loadStart_rejected (hidle : s.loading = false) (hrequests : s.requestsHold = true) :
    exec (.loadStart r [1#8]) s = doneQuiet s (respond r 3 false [] (s.enqueueRequest.wr 0x4000 0x12 12)) := by
  have hidle' : s.enqueueRequest.loading = false := hidle
  have hrequests' : s.enqueueRequest.requestsHold = true := hrequests
  have hbad : (decide ((operatorCtx r s 0x4000 0x10 [1#8]).value = 1) &&
      loadStartOk (operatorCtx r s 0x4000 0x10 [1#8]) s.enqueueRequest) = false := by
    simp [operatorCtx, beNat_singleton, loadStartOk, hrequests']
  have hreason : loadStartRejected (operatorCtx r s 0x4000 0x10 [1#8]) s.enqueueRequest = s.enqueueRequest.wr 0x4000 0x12 12 := by
    simp [operatorCtx, beNat_singleton, loadStartRejected, hidle', hrequests']
  rw [exec_loadStart, dictWriteElse_rejected h hfree (writable_load (by decide) (by decide)) hbad, hreason]

/-- An abort of the load in progress (R185). -/
theorem loadAbort_accepted (hloading : s.loading = true) : exec (.loadAbort r [2#8]) s =
    doneQuiet s (respond r 0 false [] (raiseWake (failLoad 9 0xFFFF s.enqueueRequest))) := by
  have hloading' : s.enqueueRequest.loading = true := hloading
  have hok : (decide ((operatorCtx r s 0x4000 0x10 [2#8]).value = 2) &&
      loadStartOk (operatorCtx r s 0x4000 0x10 [2#8]) s.enqueueRequest) = true := by
    simp [operatorCtx, beNat_singleton, loadStartOk]
  rw [exec_loadAbort, dictWriteElse_accepted h hfree (writable_load (by decide) (by decide)) hok,
    loadCommand_abort (c := operatorCtx r s 0x4000 0x10 [2#8]) rfl hloading',
    if_pos needsWake_load]

end LoadWrites

/-- Settles O40: the operator's writes by `dictWriteElse_accepted` and `dictWriteElse_rejected`, the manifest by its signature, the
plan by `placementPlan_placed`, and what is kept by its membership. -/
theorem loadsStartVerifyAndPlace : Obligations.LoadsStartVerifyAndPlace := by
  refine ⟨?start, ?rejected, ?abort, ?manifest, ?plan, ?lists, ?reports, ?replace⟩
  case start =>
    rintro r b s hop hfree rfl hidle hrequests hnamed
    obtain ⟨u, hbegun, hexec⟩ := loadStart_accepted hop hfree hidle hrequests hnamed
    have hsent := answered_respond_wake r 0 u
    rw [hexec]
    exact ⟨_, rfl, hsent.answers, (hsent.rd (by decide)).trans hbegun.loadState, (congrArg Load.next hsent.load).trans hbegun.next,
      (hsent.rd (by decide)).trans hbegun.fetched, (hsent.rd (by decide)).trans hbegun.beat, hsent.img.trans hbegun.img,
      hsent.table.trans hbegun.keeps.table, rfl⟩
  case rejected =>
    rintro r b s hop hfree rfl hidle hrequests
    have hsent := answered_respond r 3 (s.enqueueRequest.wr 0x4000 0x12 12)
    rw [loadStart_rejected hop hfree hidle hrequests]
    exact ⟨_, rfl, hsent.answers, (hsent.rd (by decide)).trans (rd_wr_other s.enqueueRequest _ _ _ (by decide)),
      (hsent.rd (by decide)).trans (rd_wr_same ..), hsent.img, hsent.table, rfl⟩
  case abort =>
    rintro r b s hop hfree rfl hloading
    have hfailed := failLoad_failed 9 0xFFFF s.enqueueRequest
    have hsent := answered_respond_wake r 0 (failLoad 9 0xFFFF s.enqueueRequest)
    rw [loadAbort_accepted hop hfree hloading]
    refine ⟨_, rfl, hsent.answers, (hsent.rd (by decide)).trans hfailed.rd_reason, (hsent.rd (by decide)).trans hfailed.rd_section,
      fun hstate => ?verifying, fun hstate => ?after, hsent.table.trans hfailed.keeps.table, rfl⟩
    case verifying =>
      obtain ⟨hafter, himg⟩ := hfailed.verifying hstate
      exact ⟨(hsent.rd (by decide)).trans hafter, hsent.img.trans himg⟩
    case after =>
      obtain ⟨hafter, himg⟩ := hfailed.after hstate
      exact ⟨(hsent.rd (by decide)).trans hafter, hsent.img.trans himg⟩
  case manifest =>
    intro s manifest lt dir rec h hstate hnext hhead
    rw [exec_manifestVerify]
    refine ⟨_, rfl, (manifestVerify_keepsRequests manifest lt dir rec s).table, rfl, fun hkeys => ?unsigned,
      fun n layers mats recipes hkey hverify hload hshape htype hsections htables => ?taken⟩
    case unsigned =>
      have hfailed := failLoad_failed 2 0xFFFF s
      obtain ⟨hafter, himg⟩ := hfailed.verifying hstate
      have hsig : manifestSigned s manifest h = false := by
        rw [manifestSigned, Option.any_eq_false]
        exact hkeys
      rw [manifestVerify_unsigned lt dir rec hstate hnext hhead hsig]
      exact ⟨hfailed.rd_reason, hfailed.next, hafter, himg⟩
    case taken =>
      have hsig : manifestSigned s manifest h = true := by rw [manifestSigned, hkey]; exact hverify
      rw [manifestVerify_taken lt dir rec hstate hnext hhead hsig hload hshape htype hsections htables]
      obtain ⟨f, o, hsend⟩ := sendLists_eq (manifestImage manifest h (layers, mats, recipes))
        (takeManifest (ownSections s.ownIndex (parseSections manifest h.count)) (manifestImage manifest h (layers, mats, recipes)) s)
      rw [hsend]
      exact ⟨_, rfl, rfl, rfl, rfl, rfl, hstate, rfl⟩
  case plan =>
    intro s img plan hnext hstate hlists hmap hplan
    have hplaced := placementPlan_placed hnext hstate hlists hmap hplan
    rw [exec_placementPlan]
    exact ⟨_, rfl, hplaced.loadState, hplaced.plan, hplaced.img, hplaced.programmed, hplaced.keeps.table, hplaced.keeps.mem⟩
  case lists =>
    intro s member slots
    rw [exec_expertList]
    exact ⟨_, rfl, fun x hx => mem_expertList.mpr (.inr (.inr ⟨x, hx, rfl⟩)), fun y hy hne => mem_expertList.mpr (.inl ⟨hy, hne⟩),
      rfl, rfl, rfl⟩
  case reports =>
    intro s member digest
    rw [exec_imageReport]
    refine ⟨_, rfl, fun x hx hmember => ?latest, mem_imageReport.mpr (.inr rfl), rfl, rfl, rfl⟩
    case latest =>
      obtain ⟨-, hne⟩ | rfl := mem_imageReport.mp hx
      · exact absurd hmember hne
      · rfl
  case replace =>
    intro r b s hop hfree
    have hsent := answered_respond r 0 (s.enqueueRequest.modLoad fun l => { l with replace := l.replace ++ [b.toNat] })
    have hvalue : (operatorCtx r s 0x4004 0x0A [b]).value = b.toNat := beNat_singleton b
    rw [exec_replaceSlot, dictWriteElse_accepted hop hfree (writable_replace b) rfl, hvalue]
    exact ⟨_, rfl, hsent.answers, congrArg Load.replace hsent.load, hsent.arrays, hsent.table, rfl⟩

end Sys2Proof.Machine
end

section
/-! The two byte memories through the model's operations (R200, R354): those that leave both as they are, in the order of the
model's definitions. -/

namespace Sys2Proof.Machine
open Sys2Proof

/-- The two byte memories. -/
def State.bytes (s : State) : List Host.Cell × List Host.Cell := (s.mem, s.ringMem)

@[simp] theorem mk_bytes (s : State) : (s.mem, s.ringMem) = s.bytes := rfl

theorem bytes_congr {s t : State} (hm : t.mem = s.mem) (hr : t.ringMem = s.ringMem) : t.bytes = s.bytes := by
  rw [← mk_bytes, hm, hr, mk_bytes]

/-- Of a state written out field by field, device memory is the twelfth field and ring memory the ninth. -/
@[simp] theorem bytes_mk a1 a2 a3 a4 a5 a6 a7 a8 a9 a10 a11 a12 a13 a14 a15 a16 a17 a18 a19 a20
    a21 a22 a23 a24 a25 a26 a27 a28 a29 a30 a31 a32 a33 a34 a35 a36 a37 a38 a39 a40 :
    (State.mk a1 a2 a3 a4 a5 a6 a7 a8 a9 a10 a11 a12 a13 a14 a15 a16 a17 a18 a19 a20
      a21 a22 a23 a24 a25 a26 a27 a28 a29 a30 a31 a32 a33 a34 a35 a36 a37 a38 a39 a40).bytes = (a12, a9) := rfl

@[simp] theorem bytes_ite (p : Prop) [Decidable p] (s t : State) : (if p then s else t).bytes = if p then s.bytes else t.bytes :=
  apply_ite ..

@[simp] theorem bytes_foldl {α : Type} {f : State → α → State} (h : ∀ s x, (f s x).bytes = s.bytes) (l : List α) (s : State) :
    (l.foldl f s).bytes = s.bytes := by
  induction l generalizing s with
  | nil => rfl
  | cons x l ih => rw [List.foldl_cons, ih, h]

/-- What changes objects alone keeps both byte memories. -/
theorem SameButObj.bytes {s t : State} (h : SameButObj s t) : t.bytes = s.bytes := by
  rw [h]
  rfl

section
variable (s : State)

/-! ### Objects, records and what leaves the device -/

@[simp] theorem wrI_bytes (index sub inst v : Nat) : (s.wrI index sub inst v).bytes = s.bytes := rfl
@[simp] theorem wr_bytes (index sub v : Nat) : (s.wr index sub v).bytes = s.bytes := rfl
/-- Objects written one after another. -/
@[simp] theorem foldl_wr_bytes {α : Type} (l : List α) (i u v : State → α → Nat) :
    (l.foldl (fun s x => s.wr (i s x) (u s x) (v s x)) s).bytes = s.bytes := bytes_foldl (fun t _ => wr_bytes t ..) l s
@[simp] theorem bump_bytes (index sub n : Nat) : (s.bump index sub n).bytes = s.bytes := rfl
@[simp] theorem bumpI_bytes (index sub inst n : Nat) : (s.bumpI index sub inst n).bytes = s.bytes := rfl
@[simp] theorem flag_bytes (index sub bit : Nat) : (s.flag index sub bit).bytes = s.bytes := rfl
@[simp] theorem putOct_bytes (index sub inst : Nat) (v : Bytes) : (s.putOct index sub inst v).bytes = s.bytes := rfl
@[simp] theorem late_bytes (due : Nat) : (s.late due).bytes = s.bytes := by simp [State.late]
@[simp] theorem draw_bytes : (s.draw).2.bytes = s.bytes := rfl
@[simp] theorem send_bytes (o : Out) : (s.send o).bytes = s.bytes := rfl
@[simp] theorem sendAll_bytes (os : List Out) : (s.sendAll os).bytes = s.bytes := rfl
@[simp] theorem setLink_bytes (k : Nat) (f : Link → Link) : (s.setLink k f).bytes = s.bytes := rfl
@[simp] theorem putEntry_bytes (q : Nat) (e : Entry) : (s.putEntry q e).bytes = s.bytes := rfl
@[simp] theorem modEntry_bytes (q : Nat) (f : Entry → Entry) : (s.modEntry q f).bytes = s.bytes := rfl
@[simp] theorem modRing_bytes (r : Nat) (f : Ring → Ring) : (s.modRing r f).bytes = s.bytes := rfl
@[simp] theorem modWin_bytes (w : Nat) (f : Win → Win) : (s.modWin w f).bytes = s.bytes := rfl
@[simp] theorem modEngine_bytes (n : Nat) (f : Dma → Dma) : (s.modEngine n f).bytes = s.bytes := rfl
@[simp] theorem modArr_bytes (a : Nat) (f : Arr → Arr) : (s.modArr a f).bytes = s.bytes := rfl
@[simp] theorem modDie_bytes (d : Nat) (f : Die → Die) : (s.modDie d f).bytes = s.bytes := rfl
@[simp] theorem bumpSlot_bytes (slot sub n : Nat) : (s.bumpSlot slot sub n).bytes = s.bytes := rfl

/-! ### The responder -/

@[simp] theorem modSession_bytes (id : Nat) (f : Session → Session) : (s.modSession id f).bytes = s.bytes := rfl
@[simp] theorem storeWrite_bytes (row : ObjRow) (index sub : Nat) (c : WriteCtx) :
    (storeWrite row index sub c s).bytes = s.bytes := by
  unfold storeWrite
  cases row.type <;> cases row.access <;> simp
@[simp] theorem storeSelector_bytes (index : Nat) (c : WriteCtx) : (storeSelector index c s).bytes = s.bytes := by
  unfold storeSelector
  split <;> simp
@[simp] theorem enqueueRequest_bytes : (s.enqueueRequest).bytes = s.bytes := rfl
@[simp] theorem respond_bytes (r : DictReq) (status : Nat) (last : Bool) (value : Bytes) :
    (respond r status last value s).bytes = s.bytes := bytes_congr (respond_mem ..) (respond_ringMem ..)
@[simp] theorem raiseWake_bytes : (raiseWake s).bytes = s.bytes := by simp [raiseWake]

/-! ### Pages -/

theorem takeFrom_bytes (half : Nat) {r : Nat × State} (h : s.takeFrom half = some r) : r.2.bytes = s.bytes := by
  unfold State.takeFrom at h
  split at h <;> cases h
  rfl
theorem takePage_bytes (half : Nat) {r : Nat × State} (h : s.takePage half = some r) : r.2.bytes = s.bytes := by
  unfold State.takePage at h
  split at h
  next h1 => cases h; exact takeFrom_bytes s _ h1
  next =>
    split at h <;> cases h
    next h1 => simpa using takeFrom_bytes s _ h1
theorem takePages_bytes (half : Nat) (fuel : Nat) {r : List Nat × State} (h : State.takePages half fuel s = some r) :
    r.2.bytes = s.bytes := by
  induction fuel generalizing s r with
  | zero => cases h; rfl
  | succ n ih =>
    unfold State.takePages at h
    split at h
    · cases h
    next h1 =>
      split at h
      · cases h
      next h2 => cases h; exact (ih _ h2).trans (takePage_bytes s _ h1)
@[simp] theorem returnPages_bytes (ps : List Nat) : (s.returnPages ps).bytes = s.bytes := rfl
@[simp] theorem backStates_bytes (q : Nat) : (backStates q s).2.bytes = s.bytes := by
  unfold backStates
  dsimp only
  split_ifs
  · rfl
  · split
    · rfl
    next h => simpa using takePages_bytes _ _ _ h
@[simp] theorem releasePages_bytes (q : Nat) : (releasePages q s).bytes = s.bytes := rfl
@[simp] theorem retirePage_bytes (p : Nat) : (retirePage p s).bytes = s.bytes := rfl
theorem takeReserve_bytes (half : Nat) {r : Nat × State} (h : s.takeReserve half = some r) : r.2.bytes = s.bytes := by
  unfold State.takeReserve at h
  dsimp only at h
  split at h <;> cases h
  rfl

/-! ### The request table and the rings -/

@[simp] theorem report_bytes (dst : Nat) (m : ReportMsg) : (s.report dst m).bytes = s.bytes := rfl
@[simp] theorem sendVc7_bytes (dst : Nat) (fields : List Nat) : (sendVc7 dst fields s).bytes = s.bytes := rfl
@[simp] theorem modStep_bytes (f : Step → Step) : (s.modStep f).bytes = s.bytes := rfl
@[simp] theorem modFab_bytes (f : Fabric → Fabric) : (s.modFab f).bytes = s.bytes := rfl
@[simp] theorem freeEntry_bytes (q : Nat) : (freeEntry q s).bytes = s.bytes := by simp [freeEntry]
@[simp] theorem countFinal_bytes (e : Entry) (flags : Nat) : (countFinal e flags s).bytes = s.bytes := by simp [countFinal]
@[simp] theorem queueCmd_bytes (ring op status tag entry reason : Nat) :
    (queueCmd ring op status tag entry reason s).bytes = s.bytes := rfl
@[simp] theorem decideAtHead_bytes (ring op tag entry status reason : Nat) (adm : Option AdmitRec) :
    (decideAtHead ring op tag entry status reason adm s).bytes = s.bytes := by simp [decideAtHead]
@[simp] theorem finishEntry_bytes (q state status flags : Nat) : (finishEntry q state status flags s).bytes = s.bytes := by
  simp [finishEntry]
@[simp] theorem leaveOut_bytes (q : Nat) : (leaveOut q s).bytes = s.bytes := by simp [leaveOut]
@[simp] theorem creditBack_bytes (ring : Nat) : (creditBack ring s).bytes = s.bytes := rfl
@[simp] theorem writeCompletion_bytes (ring : Nat) (c : Compl) : (writeCompletion ring c s).bytes = s.bytes := by
  simp [writeCompletion]
@[simp] theorem drainRing_bytes (ring : Nat) (fuel : Nat) : (drainRing ring fuel s).bytes = s.bytes := by
  induction fuel generalizing s with
  | zero => rfl
  | succ n ih =>
    unfold drainRing
    dsimp only
    split_ifs
    · rfl
    · repeat' split
      all_goals simp [ih]
@[simp] theorem reportHeld_bytes : (reportHeld s).bytes = s.bytes := by simp [reportHeld]
@[simp] theorem takeEntry_bytes (q kind spec count : Nat) (cs : List Nat) (c : Composed) :
    (takeEntry q kind spec count cs c s).2.bytes = s.bytes := by simp [takeEntry]
@[simp] theorem candidateSet_bytes (q : Nat) : (candidateSet q s).2.bytes = s.bytes := by
  unfold candidateSet
  dsimp only
  repeat' split
  all_goals simp
@[simp] theorem learnEntry_bytes (a : AdmitRec) : (learnEntry a s).bytes = s.bytes := by simp [learnEntry]

/-! ### Errors and recovery -/

@[simp] theorem log_bytes (r : FaultRec) : (s.log r).bytes = s.bytes := by simp [State.log]
@[simp] theorem notice_bytes (code value : Nat) : (s.notice code value).bytes = s.bytes := rfl
@[simp] theorem halfMastCause_bytes (cause : Nat) : (s.halfMastCause cause).bytes = s.bytes := rfl
@[simp] theorem takeMcnum_bytes : (s.takeMcnum).2.bytes = s.bytes := rfl
@[simp] theorem sendSched_bytes (m : SchedMsg) : (sendSched m s).bytes = s.bytes := by simp [sendSched]
@[simp] theorem headCommand_bytes (cmd target tag ttl ring : Nat) : (headCommand cmd target tag ttl ring s).bytes = s.bytes := by
  simp [headCommand]
@[simp] theorem resetContextCause_bytes (ctx : Nat) (byFault : Bool) : (resetContextCause ctx byFault s).bytes = s.bytes := by
  simp [resetContextCause]
@[simp] theorem loseDie_bytes (d : Nat) : (loseDie d s).bytes = s.bytes := by simp [loseDie]
@[simp] theorem retireArray_bytes (a : Nat) : (retireArray a s).bytes = s.bytes := by simp [retireArray]
@[simp] theorem retireUnit_bytes (cls unit : Nat) : (retireUnit cls unit s).bytes = s.bytes := by simp [retireUnit]
@[simp] theorem fenceEngine_bytes (engine : Nat) : (fenceEngine engine s).bytes = s.bytes := by simp [fenceEngine]
@[simp] theorem faultRequest_bytes (q : Nat) : (faultRequest q s).bytes = s.bytes := by simp [faultRequest]
@[simp] theorem restartMasthead_bytes (detector : Nat) : (restartMasthead detector s).bytes = s.bytes := rfl
@[simp] theorem permanentAction_bytes (e : ErrAt) : (permanentAction e s).2.bytes = s.bytes := by
  unfold permanentAction
  split_ifs <;> simp
@[simp] theorem detectError_bytes (e : ErrAt) : (detectError e s).bytes = s.bytes := by
  unfold detectError
  dsimp only
  split_ifs <;> simp
@[simp] theorem sendDiscard_bytes (reason : Nat) (entries : List Nat) : (sendDiscard reason entries s).bytes = s.bytes := by
  unfold sendDiscard
  split <;> simp
@[simp] theorem stepError_bytes (e : ErrAt) : (stepError e s).bytes = s.bytes := by
  unfold stepError
  dsimp only
  split
  · simp
  · split_ifs <;> simp
@[simp] theorem enterHalfMast_bytes : (enterHalfMast s).bytes = s.bytes := by
  unfold enterHalfMast
  split
  · rfl
  · dsimp only
    split_ifs <;> simp
@[simp] theorem leaveHalfMastNow_bytes : (leaveHalfMastNow s).bytes = s.bytes := by simp [leaveHalfMastNow]

/-! ### Checkers of digital work -/

@[simp] theorem orFlags_bytes (token flags : Nat) : (orFlags token flags s).bytes = s.bytes := rfl
@[simp] theorem modWork_bytes (f : Work → Work) : (s.modWork f).bytes = s.bytes := rfl
@[simp] theorem layerError_bytes (detector cls unit space address layer : Nat) :
    (layerError detector cls unit space address layer s).bytes = s.bytes := by simp [layerError]
@[simp] theorem redundancyMismatch_bytes (cluster third layer : Nat) :
    (redundancyMismatch cluster third layer s).bytes = s.bytes := by simp [redundancyMismatch]
@[simp] theorem engineCheck_bytes (hw : HwCheck) (slot mat : Nat) : (engineCheck hw slot mat s).2.bytes = s.bytes := by
  cases hw <;> simp [engineCheck, apply_ite]

/-! ### Multicasts -/

@[simp] theorem forwardDown_bytes (ptype sender mcnum : Nat) : (forwardDown ptype sender mcnum s).bytes = s.bytes := rfl
@[simp] theorem computeBounds_bytes : (computeBounds s).bytes = s.bytes := by simp [computeBounds]

/-! ### The residual stream -/

@[simp] theorem setResidual_bytes (token : Nat) (x : List F32) : (s.setResidual token x).bytes = s.bytes := rfl
@[simp] theorem addResidual_bytes (token at_ : Nat) (v : List F32) : (addResidual token at_ v s).bytes = s.bytes := rfl

/-! ### Experts and row reductions -/

@[simp] theorem expertReturn_bytes (slot token expert : Nat) (y : List F32) :
    (expertReturn slot token expert y s).bytes = s.bytes := by
  unfold expertReturn
  dsimp only
  repeat' split
  all_goals simp
@[simp] theorem finishExpert_bytes (l : LayerEntry) (mat expert token : Nat) :
    (finishExpert l mat expert token s).bytes = s.bytes := by
  unfold finishExpert
  repeat' split
  all_goals simp
@[simp] theorem advanceRow_bytes (m : MatEntry) (mat token : Nat) (fuel : Nat) :
    (advanceRow m mat token fuel s).bytes = s.bytes := by
  induction fuel generalizing s with
  | zero => rfl
  | succ n ih =>
    unfold advanceRow
    dsimp only
    split
    · rfl
    · simp [ih]

/-! ### The Reserve tier -/

@[simp] theorem reportRestored_bytes (q : Nat) : (reportRestored q s).bytes = s.bytes := by simp [reportRestored]
@[simp] theorem rehome_bytes (q lane chunk page : Nat) : (rehome q lane chunk page s).bytes = s.bytes := rfl

/-! ### Windows -/

@[simp] theorem windowResult_bytes (c : WriteCtx) (reason : Nat) (id : Option Nat) :
    (windowResult c reason id s).bytes = s.bytes := by
  unfold windowResult
  split <;> simp
@[simp] theorem openWindow_bytes (c : WriteCtx) : (openWindow c s).bytes = s.bytes := by
  unfold openWindow
  split <;> simp
@[simp] theorem closeWin_bytes (w : Nat) : (closeWin w s).bytes = s.bytes := by simp [closeWin]
@[simp] theorem closeById_bytes (c : WriteCtx) : (closeById c s).bytes = s.bytes := by simp [closeById]
@[simp] theorem answerTo_bytes (sender engine seq status bytes : Nat) :
    (answerTo sender engine seq status bytes s).bytes = s.bytes := rfl

/-! ### DMA -/

@[simp] theorem modRun_bytes (engine seq : Nat) (f : DescRun → DescRun) : (s.modRun engine seq f).bytes = s.bytes := rfl
@[simp] theorem enqueueDesc_bytes (engine : Nat) (data : Bytes) : (enqueueDesc engine data s).bytes = s.bytes := rfl
@[simp] theorem dmaParity_bytes (d : Desc) (p : ParityErr) : (dmaParity d p s).bytes = s.bytes := by simp [dmaParity]

/-! ### Halyard time -/

@[simp] theorem modTime_bytes (f : TimeSt → TimeSt) : (s.modTime f).bytes = s.bytes := rfl
@[simp] theorem frameArm_bytes (row : ObjRow) (c : WriteCtx) : (frameArm row c s).bytes = s.bytes := by simp [frameArm]
@[simp] theorem enterHoldover_bytes : (enterHoldover s).bytes = s.bytes := by simp [enterHoldover]
@[simp] theorem loseParentLink_bytes (k : Nat) : (loseParentLink k s).bytes = s.bytes := by simp [loseParentLink]
@[simp] theorem electRoot_bytes : (electRoot s).bytes = s.bytes := by simp [electRoot]

/-! ### Links and regions -/

@[simp] theorem reportLinks_bytes : (reportLinks s).bytes = s.bytes := by simp [reportLinks]
@[simp] theorem setLinkState_bytes (k v : Nat) : (setLinkState k v s).bytes = s.bytes := by simp [setLinkState]
@[simp] theorem linkDown_bytes (k : Nat) : (linkDown k s).bytes = s.bytes := by simp [linkDown]
@[simp] theorem syncPairs_bytes : (syncPairs s).bytes = s.bytes := (syncPairs_sameButObj s).bytes
@[simp] theorem setRegion_bytes (corner extent : List Nat) : (setRegion corner extent s).bytes = s.bytes := by simp [setRegion]
@[simp] theorem applyEnables_bytes (v : Nat) : (applyEnables v s).bytes = s.bytes := by simp [applyEnables]
@[simp] theorem applyBypass_bytes : (applyBypass s).bytes = s.bytes := by
  unfold applyBypass
  split <;> simp

/-! ### Housekeeping -/

@[simp] theorem modHk_bytes (f : Hk → Hk) : (s.modHk f).bytes = s.bytes := rfl
@[simp] theorem roundedFree_bytes (num den : Nat) : (roundedFree num den s).2.bytes = s.bytes := by
  unfold roundedFree
  split <;> simp
@[simp] theorem reportRail_bytes (h : HkRound) (n : Nat) : (reportRail h s n).bytes = s.bytes := by
  unfold reportRail
  dsimp only
  repeat' split
  all_goals simp
@[simp] theorem reportSupplies_bytes (h : HkRound) : (reportSupplies h s).bytes = s.bytes := by
  unfold reportSupplies
  extract_lets s1 p s2 s3 k k'
  have h1 : s1.bytes = s.bytes := bytes_foldl (fun t n => reportRail_bytes t h n) _ _
  have h2 : s2.bytes = s.bytes := by simp [s2, p, h1]
  have h3 : s3.bytes = s.bytes := by
    unfold s3
    split
    · exact (modHk_bytes ..).trans ((wr_bytes ..).trans ((roundedFree_bytes ..).trans h2))
    · exact h2
  rwa [bytes_mk, mk_bytes]
@[simp] theorem judgeDie_bytes (h : HkRound) (d : Nat) : (judgeDie h s d).bytes = s.bytes := by simp [judgeDie]
@[simp] theorem judgeMemory_bytes (m : Nat) (v : Int) (ok : Bool) : (judgeMemory m v ok s).bytes = s.bytes := by
  simp [judgeMemory]
@[simp] theorem judgeMemories_bytes (h : HkRound) : (judgeMemories h s).bytes = s.bytes := by
  unfold judgeMemories
  refine (bytes_foldl (fun t d => ?_) _ _).trans (by simp)
  split <;> simp
@[simp] theorem enterLevel_bytes (bit : Nat) : (enterLevel bit s).bytes = s.bytes := by simp [enterLevel]
@[simp] theorem keepReadings_bytes (h : HkRound) (old : State) : (keepReadings h old s).bytes = s.bytes := rfl
@[simp] theorem bandsAtBoundary_bytes : (bandsAtBoundary s).bytes = s.bytes := by simp [bandsAtBoundary]
@[simp] theorem levelsAtBoundary_bytes : (levelsAtBoundary s).bytes = s.bytes := by
  unfold levelsAtBoundary
  dsimp only
  repeat' split
  all_goals simp

/-! ### Drift -/

@[simp] theorem writeGain_bytes (a : Nat) : (writeGain a s).bytes = s.bytes := rfl
@[simp] theorem judgeDrift_bytes (a : Nat) : (judgeDrift a s).bytes = s.bytes := by simp [judgeDrift]
@[simp] theorem driftAtBoundary_bytes : (driftAtBoundary s).bytes = s.bytes := by simp [driftAtBoundary]
@[simp] theorem predictDrift_bytes : (predictDrift s).bytes = s.bytes := rfl

/-! ### The start of a step -/

@[simp] theorem beginStep_bytes : (beginStep s).bytes = s.bytes := by
  unfold beginStep
  split <;> simp
@[simp] theorem allot_bytes (a : Allot) : (allot a s).bytes = s.bytes := by simp [allot]
@[simp] theorem submitOwn_bytes (engine : Nat) (data : Bytes) : (submitOwn engine data s).bytes = s.bytes := by simp [submitOwn]
@[simp] theorem seqWork_bytes (p : SeqPlan) : (seqWork p s).bytes = s.bytes := by simp [seqWork]

/-! ### Calibration -/

@[simp] theorem modCal_bytes (f : Cal → Cal) : (s.modCal f).bytes = s.bytes := rfl
@[simp] theorem windowsDue_bytes : (windowsDue s).bytes = s.bytes := by simp [windowsDue]
@[simp] theorem answerWindow_bytes (w : CalWin) : (answerWindow w s).bytes = s.bytes := by
  unfold answerWindow
  repeat' split
  all_goals simp
@[simp] theorem abandonWindow_bytes : (abandonWindow s).bytes = s.bytes := by
  unfold abandonWindow
  split <;> simp
@[simp] theorem failColumn_bytes (a p : Nat) : (failColumn a p s).bytes = s.bytes := by
  unfold failColumn
  dsimp only
  repeat' split
  all_goals simp
@[simp] theorem correctionsAtBoundary_bytes : (correctionsAtBoundary s).bytes = s.bytes := by simp [correctionsAtBoundary]

/-! ### The port and the rings -/

@[simp] theorem ethPortDown_bytes : (ethPortDown s).bytes = s.bytes := by simp [ethPortDown]
@[simp] theorem switchRing_bytes (c : WriteCtx) : (switchRing c s).bytes = s.bytes := rfl

/-! ### Placement -/

@[simp] theorem modLoad_bytes (f : Load → Load) : (s.modLoad f).bytes = s.bytes := rfl
@[simp] theorem queueMove_bytes (order : Nat) (arrays : List Nat) : (queueMove order arrays s).bytes = s.bytes := by
  simp [queueMove]
@[simp] theorem queueEvents_bytes : (queueEvents s).bytes = s.bytes := by simp [queueEvents]
@[simp] theorem startMoves_bytes : (startMoves s).bytes = s.bytes := by
  unfold startMoves
  refine bytes_foldl (fun t m => ?_) _ _
  split
  · rfl
  · split <;> simp
@[simp] theorem repairMoves_bytes : (repairMoves s).bytes = s.bytes := rfl
@[simp] theorem swapMove_bytes (m : Move) : (swapMove m s).bytes = s.bytes := by
  unfold swapMove
  rw [bump_bytes, modLoad_bytes]
  exact bytes_foldl (fun t x => by simp) _ _
@[simp] theorem placementAtBoundary_bytes : (placementAtBoundary s).bytes = s.bytes := by simp [placementAtBoundary]

/-! ### Weight images -/

@[simp] theorem repool_bytes : (repool s).bytes = s.bytes := rfl
@[simp] theorem setLoadState_bytes (st : Nat) : (setLoadState st s).bytes = s.bytes := rfl
@[simp] theorem endInsideLoopbacks_bytes : (endInsideLoopbacks s).bytes = s.bytes := by
  unfold endInsideLoopbacks
  dsimp only
  split_ifs <;> simp
@[simp] theorem beginLoad_bytes (reload : Bool) : (beginLoad reload s).bytes = s.bytes := rfl
@[simp] theorem unload_bytes : (unload s).bytes = s.bytes := by simp [unload]
@[simp] theorem failLoad_bytes (reason sec : Nat) : (failLoad reason sec s).bytes = s.bytes := by simp [failLoad]
@[simp] theorem loadStartRejected_bytes (c : WriteCtx) : (loadStartRejected c s).bytes = s.bytes := by simp [loadStartRejected]
@[simp] theorem loadCommand_bytes (c : WriteCtx) : (loadCommand c s).bytes = s.bytes := by simp [loadCommand]
@[simp] theorem placementPlan_bytes : (placementPlan s).bytes = s.bytes := by
  unfold placementPlan
  repeat' split
  all_goals simp
@[simp] theorem applyRecipes_bytes (img : Image) : (applyRecipes img s).bytes = s.bytes := by
  unfold applyRecipes
  exact bytes_foldl (fun t r => foldl_wr_bytes t ..) _ _
@[simp] theorem digestRecipes_bytes : (digestRecipes s).bytes = s.bytes := rfl
@[simp] theorem enterService_bytes : (enterService s).bytes = s.bytes := by
  unfold enterService
  split <;> simp

/-! ### Power -/

@[simp] theorem modPower_bytes (f : Power → Power) : (s.modPower f).bytes = s.bytes := rfl
@[simp] theorem setPoint_bytes (p : Nat) : (setPoint p s).bytes = s.bytes := rfl
@[simp] theorem takePoint_bytes (p : Nat) : (takePoint p s).bytes = s.bytes := by simp [takePoint]
@[simp] theorem governorDecision_bytes (est : PowerEst) : (governorDecision est s).bytes = s.bytes := by simp [governorDecision]
@[simp] theorem armWatchdog_bytes : (armWatchdog s).bytes = s.bytes := rfl
@[simp] theorem sleepTransition_bytes : (sleepTransition s).bytes = s.bytes := by
  unfold sleepTransition
  dsimp only
  repeat' split
  all_goals simp

/-! ### Masthead -/

@[simp] theorem modMast_bytes (f : Masthead → Masthead) : (s.modMast f).bytes = s.bytes := rfl
@[simp] theorem countPennant_bytes (status : Nat) : (countPennant status s).bytes = s.bytes := by simp [countPennant]
@[simp] theorem storeWord_bytes (m word : Nat) : (storeWord m word s).bytes = s.bytes := by simp [storeWord]
@[simp] theorem writeWord_bytes (m code tag value : Nat) : (writeWord m code tag value s).bytes = s.bytes := by
  unfold writeWord
  exact (flag_bytes ..).trans (wr_bytes ..)
@[simp] theorem answerWord_bytes (m code value : Nat) : (answerWord m code value s).bytes = s.bytes := by
  unfold answerWord
  split
  · rfl
  · exact (modMast_bytes ..).trans (writeWord_bytes ..)
@[simp] theorem storeResult_bytes (slot result : Nat) : (storeResult slot result s).bytes = s.bytes := rfl
@[simp] theorem acceptProfile_bytes (data : Bytes) : (acceptProfile data s).bytes = s.bytes := by
  unfold acceptProfile
  dsimp only
  split <;> simp
@[simp] theorem profileStoreComplete_bytes (flashOk : Bool) : (profileStoreComplete flashOk s).bytes = s.bytes := by
  unfold profileStoreComplete
  split <;> simp
@[simp] theorem updateState_bytes (v : Nat) : (updateState v s).bytes = s.bytes := rfl
@[simp] theorem acceptFirmware_bytes (data : Bytes) : (acceptFirmware data s).bytes = s.bytes := by simp [acceptFirmware]
@[simp] theorem firmwareWriteComplete_bytes (readback : Bytes) : (firmwareWriteComplete readback s).bytes = s.bytes := by
  unfold firmwareWriteComplete
  split <;> simp
@[simp] theorem resetCommand_bytes (c : WriteCtx) : (resetCommand c s).bytes = s.bytes := rfl
@[simp] theorem faultRecordWrite_bytes : (faultRecordWrite s).bytes = s.bytes := by
  unfold faultRecordWrite
  split <;> simp
@[simp] theorem logErase_bytes : (logErase s).bytes = s.bytes := rfl
@[simp] theorem leaveNext_bytes : (leaveNext s).bytes = s.bytes := rfl

/-! ### Sessions -/

@[simp] theorem modSec_bytes (f : Sec → Sec) : (s.modSec f).bytes = s.bytes := rfl
@[simp] theorem endSessionNow_bytes (id : Nat) : (endSessionNow id s).bytes = s.bytes := rfl

/-! ### Loopbacks and tests -/

@[simp] theorem setEthLoopback_bytes (v : Nat) : (setEthLoopback v s).bytes = s.bytes := by simp [setEthLoopback]
@[simp] theorem setLoopback_bytes (index v : Nat) : (setLoopback index v s).bytes = s.bytes := by simp [setLoopback]
@[simp] theorem countLoop_bytes (c : LoopCount) : (countLoop s c).bytes = s.bytes := by simp [countLoop]
@[simp] theorem requestTest_bytes : (requestTest s).bytes = s.bytes := rfl
@[simp] theorem abortHotTest_bytes : (abortHotTest s).bytes = s.bytes := by simp [abortHotTest]

/-! ### Objects with behaviour of their own -/

@[simp] theorem rootCapable_bytes (v : Nat) : (rootCapable v s).bytes = s.bytes := by simp [rootCapable]
@[simp] theorem rejectOf_bytes (index sub : Nat) (c : WriteCtx) : (rejectOf index sub c s).bytes = s.bytes := by simp [rejectOf]
@[simp] theorem closeBlock_bytes (key : Nat) (session : Option Nat) : (s.closeBlock key session).bytes = s.bytes := rfl
@[simp] theorem holdSegment_bytes (index sub key : Nat) (session : Option Nat) (x : Nat × Bytes) :
    (holdSegment index sub key session x s).bytes = s.bytes := by simp [holdSegment]

/-! ### Start-up -/

@[simp] theorem modBoot_bytes (f : Boot → Boot) : (s.modBoot f).bytes = s.bytes := rfl
@[simp] theorem checkSlot_bytes (slot : Nat) : (checkSlot s slot).bytes = s.bytes := by simp [checkSlot]
@[simp] theorem settleRingLengths_bytes : (settleRingLengths s).bytes = s.bytes := by
  unfold settleRingLengths
  dsimp only
  split_ifs <;> simp
@[simp] theorem raiseMinSvn_bytes : (raiseMinSvn s).bytes = s.bytes := rfl
@[simp] theorem startRegion_bytes : (startRegion s).bytes = s.bytes := by simp [startRegion]
@[simp] theorem memoryHold_bytes : (memoryHold s).bytes = s.bytes := by simp [memoryHold]
@[simp] theorem freeRecorded_bytes : (freeRecorded s).bytes = s.bytes := rfl
@[simp] theorem startImage_bytes : (startImage s).bytes = s.bytes := by simp [startImage]
@[simp] theorem becomeReady_bytes : (becomeReady s).bytes = s.bytes := by simp [becomeReady]

/-! ### The frame boundary -/

@[simp] theorem applyPending_bytes : (applyPending s).bytes = s.bytes := rfl
@[simp] theorem disableInEffect_bytes (old : State) (key : Nat) : (disableInEffect old s key).bytes = s.bytes := by
  simp [disableInEffect]
@[simp] theorem limitsInEffect_bytes (old : State) : (limitsInEffect old s).bytes = s.bytes := by simp [limitsInEffect]
@[simp] theorem rwfEffect_bytes : (rwfEffect s).bytes = s.bytes := by simp [rwfEffect]
@[simp] theorem qmonAtBoundary_bytes : (qmonAtBoundary s).bytes = s.bytes := rfl
@[simp] theorem restoringAtBoundary_bytes : (restoringAtBoundary s).bytes = s.bytes := by
  unfold restoringAtBoundary
  dsimp only
  split_ifs
  · exact (bytes_foldl (fun t q => modEntry_bytes t ..) _ _).trans (bump_bytes ..)
  · exact bump_bytes ..
@[simp] theorem renewBuffers_bytes : (renewBuffers s).bytes = s.bytes := rfl
@[simp] theorem halfMastAtBoundary_bytes : (halfMastAtBoundary s).bytes = s.bytes := by simp [halfMastAtBoundary]
@[simp] theorem linksAtBoundary_bytes : (linksAtBoundary s).bytes = s.bytes := by simp [linksAtBoundary]
@[simp] theorem answerLost_bytes (m : Nat) : (answerLost s m).bytes = s.bytes := by
  unfold answerLost
  split <;> simp
@[simp] theorem eraseLog_bytes : (eraseLog s).bytes = s.bytes := by simp [eraseLog]
@[simp] theorem refillBudgets_bytes : (refillBudgets s).bytes = s.bytes := by simp [refillBudgets]
@[simp] theorem diesAtBoundary_bytes : (diesAtBoundary s).bytes = s.bytes := by simp [diesAtBoundary]
@[simp] theorem imageAtBoundary_bytes : (imageAtBoundary s).bytes = s.bytes := by simp [imageAtBoundary]

/-! ### Acknowledgement of multicasts -/

@[simp] theorem tryMack_bytes (mcnum src : Nat) : (tryMack mcnum src s).bytes = s.bytes := by
  unfold tryMack
  split <;> simp

/-! ### Host rings -/

@[simp] theorem takeIngress_bytes (ring : Nat) (t : Taken) (bad : Bool) : (takeIngress ring t bad s).bytes = s.bytes := by
  simp [takeIngress]
@[simp] theorem pollRing_bytes (ring : Nat) : (pollRing ring s).2.bytes = s.bytes := by
  unfold pollRing
  dsimp only
  repeat' split
  all_goals simp
@[simp] theorem pollRounds_bytes (fuel : Nat) (k : Nat) (rings : List Nat) (kept : List Nat) :
    (pollRounds fuel k rings kept s).bytes = s.bytes := by
  induction fuel generalizing k rings kept s with
  | zero => rfl
  | succ n ih =>
    cases k with
    | zero => rfl
    | succ k =>
      cases rings with
      | nil =>
        unfold pollRounds
        split_ifs
        · rfl
        · exact ih ..
      | cons ring rest =>
        unfold pollRounds
        dsimp only
        split_ifs
        · exact (ih ..).trans (pollRing_bytes ..)
        · exact (ih ..).trans (pollRing_bytes ..)
@[simp] theorem writeRing_bytes (ring : Nat) : (writeRing s ring).bytes = s.bytes := by simp [writeRing]
@[simp] theorem writeConsumed_bytes (ring : Nat) : (writeConsumed s ring).bytes = s.bytes := by simp [writeConsumed]
end
end Sys2Proof.Machine
end

section
/-! Every step keeps both byte memories canonical (R200, R354). -/

namespace Sys2Proof.Machine
open Sys2Proof

/-! ## What a step writes in the byte memories (R200, R354)

Every write goes through `memWriteN`, `memZero` or a copy of bytes, which keep a canonical memory canonical; a reset takes
empty memories. -/

namespace State.Canonical
variable {s t : State}

/-- An operation that keeps both byte memories keeps them canonical. -/
theorem keep (h : s.Canonical) (e : t.bytes = s.bytes) : t.Canonical := by
  obtain ⟨hm, hr⟩ := Prod.mk.inj e
  unfold State.Canonical
  rwa [hm, hr]

/-- Bytes stored in device memory. -/
theorem store (h : s.Canonical) {m : List Host.Cell} (hm : Memory.wf m = true) : State.Canonical { s with mem := m } := ⟨hm, h.2⟩

/-- Bytes written in device memory. -/
theorem write (h : s.Canonical) (a : Nat) (bs : Bytes) : State.Canonical { s with mem := memWriteN a bs s.mem } :=
  h.store (memWriteN_wf a bs h.1)

/-- Bytes of device memory set to zero. -/
theorem zero (h : s.Canonical) (a n : Nat) : State.Canonical { s with mem := memZero a n s.mem } := h.store (memZero_wf a n h.1)

theorem ite {p : Prop} [Decidable p] (h : s.Canonical) (k : t.Canonical) : (if p then s else t).Canonical := by
  split_ifs
  · exact h
  · exact k

/-- An operation done for each member of a list. -/
theorem foldl {α : Type} {f : State → α → State} (hf : ∀ t x, t.Canonical → (f t x).Canonical) (l : List α) (h : s.Canonical) :
    (l.foldl f s).Canonical :=
  List.foldlRecOn l f h fun t ht x _ => hf t x ht

/-- An operation with an answer, done for each member of a list. -/
theorem foldl_snd {α β : Type} {f : β × State → α → β × State} (hf : ∀ a x, a.2.Canonical → (f a x).2.Canonical) (l : List α)
    {a : β × State} (h : a.2.Canonical) : (l.foldl f a).2.Canonical :=
  List.foldlRecOn (motive := fun a => a.2.Canonical) l f h fun a ha x _ => hf a x ha

end State.Canonical

/-! ### Pages and the composition of a batch -/

theorem backLane_canonical {a : Bool × State} (h : a.2.Canonical) (q chunk lane : Nat) :
    (backLane q chunk lane a).2.Canonical := by
  unfold backLane
  dsimp only
  split_ifs
  · exact h
  · split
    · exact h
    next ht => exact ((h.keep (takePage_bytes _ _ ht)).keep (modEntry_bytes ..)).write _ _

theorem backChunk_canonical {a : Bool × State} (h : a.2.Canonical) (q chunk : Nat) : (backChunk q a chunk).2.Canonical := by
  unfold backChunk
  extract_lets s lanes e known needPage r
  have hr : r.2.Canonical := by
    unfold r
    split_ifs
    · split
      next ht => exact (h.keep (takePage_bytes _ _ ht)).keep (modEntry_bytes ..)
      · exact h
    · exact h
  split_ifs
  · exact h
  · exact hr
  · exact .foldl_snd (fun b lane hb => backLane_canonical hb q chunk lane) _ hr

theorem backEntry_canonical {s : State} (h : s.Canonical) (q start count : Nat) : (backEntry q start count s).2.Canonical :=
  .foldl_snd (fun _ _ ha => backChunk_canonical ha q _) _ (h.keep (backStates_bytes ..))

theorem headBack_canonical {s t : State} (h : s.Canonical) {q start count : Nat} (e : headBack q start count s = some t) :
    t.Canonical := by
  unfold headBack at e
  dsimp only at e
  split_ifs at e
  cases e
  exact backEntry_canonical h q start count

theorem composeGen_canonical (start fuel : Nat) (g : List Nat) (a : Composed × State) (h : a.2.Canonical) :
    (composeGen start fuel g a).2.Canonical := by
  induction fuel generalizing g a with
  | zero => exact h
  | succ fuel ih =>
    obtain ⟨c, s⟩ := a
    unfold composeGen
    split_ifs
    · exact h
    · split
      · exact h
      next q hq =>
        have hc : (candidateSet q s).2.Canonical := h.keep (candidateSet_bytes ..)
        dsimp only
        split_ifs
        · exact ih _ _ h
        · split
          next hb => exact ih _ _ ((headBack_canonical hc hb).keep (takeEntry_bytes ..))
          · exact ih _ _ (hc.keep (bump_bytes ..))

theorem composePre_canonical (start fuel : Nat) (p : List Nat) (a : Composed × State) (h : a.2.Canonical) :
    (composePre start fuel p a).2.Canonical := by
  induction fuel generalizing p a with
  | zero => exact h
  | succ fuel ih =>
    obtain ⟨c, s⟩ := a
    unfold composePre
    split_ifs
    · exact h
    · split
      · exact h
      next q hq =>
        extract_lets p e b enc n
        split
        · exact ih _ _ h
        · split
          next hb => exact ih _ _ ((headBack_canonical h hb).keep (takeEntry_bytes ..))
          · exact ih _ _ (h.keep (bump_bytes ..))

section
variable {s : State} (h : s.Canonical)
include h

theorem compose_canonical (start : Nat) : (compose start s).2.Canonical :=
  composePre_canonical _ _ _ _ (composeGen_canonical _ _ _ _ h)

theorem composeStep_canonical (frame : Nat) : (composeStep frame s).2.2.2.Canonical := by
  unfold composeStep
  dsimp only
  split_ifs
  · exact h
  · split
    · split_ifs
      · exact compose_canonical (h.keep (modFab_bytes ..)) _
      · exact h
    · exact compose_canonical h _

/-! ### Multicasts released and the decision of a step -/

theorem backMember_canonical (len : List LenEntry) : (backMember len s).Canonical := by
  unfold backMember
  extract_lets r
  have hr : r.2.Canonical := by
    refine .foldl_snd (fun a l ha => ?_) _ h
    have hb : (backEntry l.req l.start l.count a.2).2.Canonical := backEntry_canonical ha ..
    dsimp only
    split_ifs
    · exact hb
    · exact hb.keep (by simp)
  split_ifs
  · exact hr
  · exact hr.keep (sendDiscard_bytes ..)

theorem makeVisible_canonical (body : McBody) : (makeVisible body s).Canonical := by
  unfold makeVisible
  cases body with
  | batch b =>
    dsimp only
    split_ifs
    · exact h
    · exact h.keep (by simp)
    · exact backMember_canonical (h.keep (by simp)) _
  | decision d => exact h.keep (by dsimp only; split_ifs <;> simp)
  | mcdata m => exact h

theorem releaseOwn_canonical (mcnum : Nat) : (releaseOwn mcnum s).Canonical := by
  unfold releaseOwn
  split
  · exact h
  · exact makeVisible_canonical (h.keep (by simp)) _

theorem sendHeld_canonical (body : McBody) (deadline : Nat) (targets : List Nat) :
    (sendHeld body deadline targets s).Canonical := by
  unfold sendHeld
  dsimp only
  split_ifs
  · exact releaseOwn_canonical (h.keep (by simp)) _
  · exact h.keep (by simp)

theorem dispatchExperts_canonical (l : LayerEntry) : (dispatchExperts l s).Canonical := by
  unfold dispatchExperts
  dsimp only
  split_ifs
  · exact h
  · exact .foldl (fun t set ht => sendHeld_canonical (ht.keep (bump_bytes ..)) ..) _ h

theorem routeToken_canonical (l : LayerEntry) (mat token : Nat) : (routeToken l mat token s).Canonical :=
  dispatchExperts_canonical (h.keep (modWork_bytes ..)) l

theorem sendDecision_canonical (outcome c : Nat) (recs : List DecRec) : (sendDecision outcome c recs s).Canonical := by
  unfold sendDecision
  split
  · exact h
  · exact sendHeld_canonical (h.keep (modStep_bytes ..)) ..

theorem tryDecide_canonical : (tryDecide s).Canonical := by
  unfold tryDecide
  split
  · exact h
  · dsimp only
    split_ifs
    · exact h
    · exact sendDecision_canonical h ..
    · exact sendDecision_canonical h ..
    · exact h

theorem tryAck_canonical : (tryAck s).Canonical := by
  unfold tryAck
  split
  · exact h
  · dsimp only
    split_ifs
    · exact h
    · exact tryDecide_canonical (h.keep (modStep_bytes ..))
    · exact h.keep (by simp)

theorem sectionRefetch_canonical (sec : Nat) (stored : Option Bytes) : (sectionRefetch sec stored s).Canonical := by
  unfold sectionRefetch
  split
  · exact h
  · have hl : (s.modLoad fun l => { l with refetch := none }).Canonical := h.keep (modLoad_bytes ..)
    dsimp only
    split
    · split_ifs
      · exact tryAck_canonical hl
      · exact hl.keep (halfMastCause_bytes ..)
    · exact hl.keep (halfMastCause_bytes ..)

theorem stepWorkDone_canonical : (stepWorkDone s).Canonical := by
  unfold stepWorkDone
  split
  · exact h
  · split_ifs
    · exact h
    · exact tryAck_canonical (h.keep (modStep_bytes ..))

theorem stepAck_canonical (step run count child : Nat) : (stepAck step run count child s).Canonical := by
  unfold stepAck
  split
  · exact h
  · have hm (f : Step → Step) : (s.modStep f).Canonical := h.keep (modStep_bytes ..)
    split_ifs
    · exact h
    · exact .ite (tryDecide_canonical (hm _)) (tryAck_canonical (hm _))

theorem stepDiscard_canonical (step run reason : Nat) (entries : List Nat) :
    (stepDiscard step run reason entries s).Canonical := by
  unfold stepDiscard
  split_ifs
  · exact h
  · exact h.keep (send_bytes ..)
  · split
    · exact h
    · split_ifs
      · exact h
      · exact tryDecide_canonical (h.keep (modStep_bytes ..))

theorem commitDeadline_canonical : (commitDeadline s).Canonical := by
  unfold commitDeadline
  split
  · exact h
  · dsimp only
    split_ifs
    · exact h
    · exact sendDecision_canonical (h.keep (late_bytes ..)) ..

theorem mack_canonical (mcnum acked child : Nat) : (mack mcnum acked child s).Canonical := by
  unfold mack
  split
  · have hm (f : Fabric → Fabric) : (s.modFab f).Canonical := h.keep (modFab_bytes ..)
    exact .ite (releaseOwn_canonical (hm _) _) (hm _)
  · refine h.keep ?_
    split
    · exact (bytes_ite ..).trans (by simp)
    · split
      · simp
      · simp

theorem release_canonical (mcnum src : Nat) : (release mcnum src s).Canonical := by
  unfold release
  split
  · exact h
  next i hi =>
    have hm (f : Fabric → Fabric) : ((forwardDown 0x06 src mcnum s).modFab f).Canonical := h.keep (by simp)
    exact .ite h (.ite (makeVisible_canonical (hm _) _) (hm _))

theorem headStart_canonical (frame : Nat) : (headStart frame s).Canonical := by
  have hc := composeStep_canonical h frame
  unfold headStart
  revert hc
  rcases composeStep frame s with ⟨len, cands, run, t⟩
  intro hc
  exact sendHeld_canonical (State.Canonical.keep hc (by simp)) ..

theorem stepStart_canonical (plan : SeqPlan) : (stepStart plan s).Canonical := by
  have hs (due : Nat) : (seqWork plan (headStart s.frameStart (s.late due))).Canonical :=
    (headStart_canonical (h.keep (late_bytes ..)) _).keep (seqWork_bytes ..)
  unfold stepStart
  dsimp only
  split
  · exact h
  · split
    · split_ifs
      · exact h
      · exact h.keep (by simp)
      · exact hs _
      · exact h
    · exact .ite (hs _) h

/-! ### Results of a layer -/

theorem appendKv_canonical (l : LayerEntry) (isV : Bool) (token block : Nat) (vals : List F32) :
    (appendKv l isV token block vals s).Canonical := by
  unfold appendKv
  split
  · exact h
  · dsimp only
    split
    · exact h
    · exact h.store (memWriteN_wf _ _ (memWriteN_wf _ _ h.1))

theorem blockEffect_canonical (l : LayerEntry) (m : MatEntry) (mat token block : Nat) (passed : List F32) :
    (blockEffect l m mat token block passed s).Canonical := by
  unfold blockEffect
  split_ifs
  · exact h
  · exact appendKv_canonical h ..
  · exact h.keep (addResidual_bytes ..)
  · exact h.keep (finishExpert_bytes ..)
  · exact h
  · exact routeToken_canonical h ..
  · exact h
  · exact h

theorem blockMerge_canonical (mat token block : Nat) (hw : HwCheck) : (blockMerge mat token block hw s).Canonical := by
  unfold blockMerge
  split
  · dsimp only
    split
    · exact h
    · refine .ite h (.ite (h.keep (engineCheck_bytes ..)) (blockEffect_canonical (h.keep ?_) ..))
      split_ifs <;> simp
  · exact h

theorem rowReductionRecord_canonical (mat token addr : Nat) (hw : HwCheck) :
    (rowReductionRecord mat token addr hw s).Canonical := by
  unfold rowReductionRecord
  split
  · exact h
  · extract_lets r slot k t wantsMax d mx t2 sum arg rec_ t3 t4
    clear_value rec_
    have hk : k.2.Canonical := by
      refine h.keep ?_
      unfold k
      split <;> simp
    have h2 : t2.Canonical := hk.keep (by unfold t2 d; split_ifs <;> rfl)
    have h3 : t3.Canonical := h2.write addr (leBytes 16 rec_)
    have h4 : t4.Canonical := h3.keep (modWork_bytes ..)
    exact .ite h (.ite hk (.ite (h4.keep (modStep_bytes ..)) h3))

/-! ### Pages moved and zeroed -/

theorem reserveMove_canonical (q lane chunk : Nat) : (reserveMove q lane chunk s).Canonical := by
  unfold reserveMove
  split
  · exact h
  next p _ =>
    split_ifs
    · exact h
    · split
      · exact h.keep (bump_bytes ..)
      next r t ht =>
        have hr : t.Canonical := h.keep (takeReserve_bytes _ _ ht)
        exact (hr.store (copyPage_wf p r hr.1)).keep (by simp)

theorem restorePage_canonical (q lane chunk : Nat) : (restorePage q lane chunk s).Canonical := by
  unfold restorePage
  split
  · exact h
  next r _ =>
    dsimp only
    split
    · exact h
    · split
      · exact h
      next p t ht =>
        have hr : t.Canonical := h.keep (takePage_bytes _ _ ht)
        refine (hr.store (copyPage_wf r p hr.1)).keep ?_
        split_ifs <;> simp

theorem pageZero_canonical (page : Nat) : (pageZero page s).Canonical := by
  unfold pageZero
  split_ifs
  · exact State.Canonical.keep (h.zero (page * 65536) 65536) (by simp)
  · exact h.zero (page * 65536) 65536
  · exact h

theorem granuleZero_canonical (g : Nat) : (granuleZero g s).Canonical := .ite (h.zero (granuleAddr g) 65536) h
end

section
variable {s : State} (h : s.Canonical)
include h

/-! ### Windows, messages and descriptors -/

theorem remoteWriteArrival_canonical (m : RWrite) : (remoteWriteArrival m s).Canonical := by
  unfold remoteWriteArrival
  extract_lets st w s1 s2 s3
  have h1 : s1.Canonical := h.write ((s.win w).base + m.offset) m.data
  have h3 : s3.Canonical := .ite (h1.keep (by simp)) (h.keep (by simp [s2]))
  exact h3.keep (answerTo_bytes ..)

theorem putRingWord_canonical (base o v : Nat) : (putRingWord base o v s).Canonical := h.write (base + o) (leBytes 4 v)

theorem messageArrival_canonical (m : MsgIn) : (messageArrival m s).Canonical := by
  unfold messageArrival
  extract_lets n refuse
  have hrefuse {t : State} (ht : t.Canonical) : (refuse t).Canonical := ht.keep (by simp [refuse])
  split
  · exact hrefuse h
  · extract_lets area p used pos pad data s1 at_ s2 s3 s4
    have h1 : s1.Canonical := .ite h (h.write ..)
    have h2 : s2.Canonical := h1.write ..
    have h3 : s3.Canonical := putRingWord_canonical h2 ..
    have h4 : s4.Canonical := putRingWord_canonical h3 ..
    exact .ite (hrefuse (putRingWord_canonical h ..)) (h4.keep (by simp))

theorem resetRing_canonical (ctx : Nat) : (resetRing ctx s).Canonical := .ite h (h.zero ..)

theorem copyRows_canonical (d : Desc) (n : Nat) : (copyRows d n s).Canonical :=
  h.store (foldl_wf _ (fun _ _ hm => memWriteN_wf _ _ hm) _ h.1)

theorem transposeRows_canonical (d : Desc) (n : Nat) : (transposeRows d n s).Canonical :=
  h.store (foldl_wf _ (transposeBlock_wf d) _ h.1)

theorem fillRows_canonical (d : Desc) (n : Nat) : (fillRows d n s).Canonical :=
  h.store (foldl_wf _ (fun _ _ hm => memWriteN_wf _ _ hm) _ h.1)

theorem runRows_canonical {engine seq : Nat} {mine : Desc → Bool} {parity : Option ParityErr} {move : Desc → Nat → State → State}
    {finish : Nat → DescRun → DescRun} (hmove : ∀ d n, (move d n s).Canonical) :
    (runRows engine seq mine parity move finish s).Canonical := by
  unfold runRows
  split
  · exact h
  next r _ =>
    dsimp only
    split
    · exact h
    · split
      · exact (hmove _ _).keep (modRun_bytes ..)
      next p => exact (hmove r.d (min p.row (r.d.rows - 1))).keep (by simp)

theorem copy_canonical (engine seq : Nat) (parity : Option ParityErr) : (copy engine seq parity s).Canonical :=
  runRows_canonical h (copyRows_canonical h)

theorem transposeCopy_canonical (engine seq : Nat) (parity : Option ParityErr) : (transposeCopy engine seq parity s).Canonical :=
  runRows_canonical h (transposeRows_canonical h)

theorem fill_canonical (engine seq : Nat) (parity : Option ParityErr) : (fill engine seq parity s).Canonical :=
  runRows_canonical h (fillRows_canonical h)

theorem descriptorComplete_canonical (engine seq : Nat) : (descriptorComplete engine seq s).Canonical := by
  unfold descriptorComplete
  split
  · exact h
  next r _ =>
    extract_lets place t
    have ht : t.Canonical := .ite (h.write r.d.compl (completionRecord r.d (r.status.getD 0) r.bytes)) h
    exact .ite h (ht.keep (by simp))

/-! ### Resets and shutdowns -/

omit h in
/-- A reset takes empty memories (R200, R354). -/
theorem loseVolatile_canonical (s : State) : (loseVolatile s).Canonical := ⟨rfl, rfl⟩

omit h in
theorem beginReset_canonical (cause : Nat) (recovery : Bool) (s : State) : (beginReset cause recovery s).Canonical :=
  (loseVolatile_canonical s).keep (by simp [beginReset])

omit h in
theorem powerOn_canonical (s : State) : (powerOn s).Canonical := (beginReset_canonical 0 false s).keep rfl

theorem shutdown_canonical (kind : Nat) (r : FaultRec) : (shutdown kind r s).Canonical := by
  unfold shutdown
  refine .ite h ((loseVolatile_canonical s).keep ?_)
  dsimp only
  split_ifs <;> simp

theorem judgeLevels_canonical (t : Int) : (judgeLevels t s).Canonical := by
  unfold judgeLevels
  extract_lets s1 s2 s3
  have h3 : s3.Canonical := h.keep (by simp [s3, s2, s1])
  exact .ite (shutdown_canonical h3 ..) h3

theorem housekeepingEvaluation_canonical (r : HkRound) : (housekeepingEvaluation r s).Canonical := by
  unfold housekeepingEvaluation
  split
  · exact h
  · extract_lets s1 old s2 s3 s4 s5 s6 s7 s8
    have h1 : s1.bytes = s.bytes := late_bytes ..
    have h2 : s2.bytes = s1.bytes := foldl_wr_bytes ..
    have h3 : s3.bytes = s2.bytes := foldl_wr_bytes ..
    have h4 : s4.bytes = s3.bytes := by
      unfold s4
      split_ifs
      · exact (bump_bytes ..).trans (flag_bytes ..)
      · rfl
    have h5 : s5.bytes = s4.bytes := reportSupplies_bytes ..
    have h6 : s6.bytes = s5.bytes := bytes_foldl (fun t d => judgeDie_bytes t r d) ..
    have h8 : s8.bytes = s6.bytes := (keepReadings_bytes ..).trans (judgeMemories_bytes ..)
    exact .ite h (judgeLevels_canonical (h.keep (by rw [h8, h6, h5, h4, h3, h2, h1])) _)

theorem shutdownRelease_canonical : (shutdownRelease s).Canonical := by
  unfold shutdownRelease
  split
  · exact .ite h (beginReset_canonical ..)
  · exact h

theorem supplyFault_canonical (rail : Nat) : (supplyFault rail s).Canonical :=
  .ite h (.ite (powerOn_canonical s) (shutdown_canonical h ..))

theorem supplyRelease_canonical : (supplyRelease s).Canonical := by
  unfold supplyRelease
  split
  · exact .ite h (beginReset_canonical ..)
  · exact h

theorem pllLockLoss_canonical (clock : Nat) : (pllLockLoss clock s).Canonical :=
  .ite (shutdown_canonical h ..) (h.keep (by simp))

theorem watchdogDeadline_canonical : (watchdogDeadline s).Canonical :=
  .ite h (.ite (beginReset_canonical ..) (h.keep (by simp)))

theorem setInstruction_canonical (ir : Nat) (hold : Bool) (boundary dr : Bytes) :
    (setInstruction ir hold boundary dr s).Canonical := by
  unfold setInstruction
  extract_lets t
  have ht : t.Canonical := .ite h (.ite (loseVolatile_canonical s) (.ite (beginReset_canonical ..) h))
  exact ht

theorem samplePreload_canonical (data : Bytes) : (samplePreload data s).Canonical :=
  setInstruction_canonical (s := { s with draws := s.draws + data.length }) h ..

theorem privateInstruction_canonical (opcode : Nat) : (privateInstruction opcode s).Canonical :=
  .ite h ((setInstruction_canonical h opcode false s.tap.boundary []).keep
    ((modSec_bytes ..).trans (bytes_foldl (fun t (x : Session) => endSessionNow_bytes t x.id) _ _)))

theorem warmReset_canonical : (warmReset s).Canonical := .ite h (beginReset_canonical ..)

theorem memoryTraining_canonical (ok : Bool) : (memoryTraining ok s).Canonical :=
  .ite h (State.Canonical.keep (s := { s with mem := [] }) (h.store rfl) (by simp; rfl))

/-! ### Writes of objects -/

omit h in
/-- No object's effect but that of a set message ring stores in the memories. -/
theorem effectOf_bytes {index : Nat} (hi : index ≠ 0x5021) (sub : Nat) (row : ObjRow) (c : WriteCtx) :
    (effectOf index sub row c s).bytes = s.bytes := by
  unfold effectOf
  dsimp only
  split
  case h_15 => exact absurd rfl hi
  all_goals repeat' split
  all_goals simp

theorem effectOf_canonical (index sub : Nat) (row : ObjRow) (c : WriteCtx) : (effectOf index sub row c s).Canonical := by
  by_cases hi : index = 0x5021
  · subst hi
    have hk : (storeWrite row 0x5021 sub c s).Canonical := h.keep (storeWrite_bytes ..)
    exact .ite (resetRing_canonical hk _) hk
  · exact h.keep (effectOf_bytes hi ..)

end

section
variable {s : State} (h : s.Canonical)
include h

/-! ### Requests and profile entries -/

theorem dictServeLast_canonical {r : DictReq} {body : State → Nat × Bool × Bytes × State}
    (hbody : ∀ t : State, t.Canonical → (body t).2.2.2.Canonical) : (dictServeLast r body s).Canonical := by
  unfold dictServeLast
  refine .ite h (.ite (h.keep (bump_bytes ..)) ?_)
  have hq : s.enqueueRequest.Canonical := h.keep (enqueueRequest_bytes s)
  dsimp only
  split
  · exact hq.keep (send_bytes ..)
  · exact (hbody _ hq).keep (respond_bytes ..)

theorem dictServe_canonical {r : DictReq} {body : State → Nat × Bytes × State}
    (hbody : ∀ t : State, t.Canonical → (body t).2.2.Canonical) : (dictServe r body s).Canonical :=
  dictServeLast_canonical h hbody

theorem judgeWrite_canonical {r : DictReq} {index sub : Nat} {block : Bool} {data : Bytes} {accept : WriteCtx → State → Bool}
    {effect : ObjRow → WriteCtx → State → State} {reject : WriteCtx → State → State}
    (heffect : ∀ row c, (effect row c s).Canonical) (hreject : ∀ c, (reject c s).Canonical) :
    (judgeWrite r index sub block data accept effect reject s).2.2.Canonical := by
  unfold judgeWrite
  split
  · exact h
  · dsimp only
    split_ifs
    · exact h
    · exact h
    · exact hreject _
    · exact h.keep (raiseWake_bytes s)
    · exact h
    · exact (heffect _ _).keep (raiseWake_bytes _)
    · exact heffect _ _

theorem messageRingWrite_canonical (r : DictReq) (sub : Nat) (data : Bytes) : (messageRingWrite r sub data s).Canonical :=
  .ite h (dictServe_canonical h fun _ ht => judgeWrite_canonical ht
    (fun _ _ => resetRing_canonical (ht.keep (storeWrite_bytes ..)) _) fun _ => ht)

theorem rejectOf_canonical (index sub : Nat) (c : WriteCtx) : (rejectOf index sub c s).Canonical := h.keep (rejectOf_bytes ..)

theorem mailboxWrite_canonical (r : DictReq) (m : Nat) (data : Bytes) : (mailboxWrite r m data s).2.2.Canonical :=
  (judgeWrite_canonical h (fun _ c => h.keep (storeWord_bytes s m c.value)) fun _ => h).keep (countPennant_bytes ..)

theorem writeObject_canonical (r : DictReq) (index sub : Nat) (data : Bytes) : (writeObject r index sub data s).Canonical :=
  .ite (dictServe_canonical h fun _ ht => mailboxWrite_canonical ht ..)
    (dictServe_canonical h fun _ ht => judgeWrite_canonical ht (effectOf_canonical ht index sub)
      (rejectOf_canonical ht index sub))

theorem segmentWrite_canonical (r : DictReq) (index sub offset : Nat) (last : Bool) (data : Bytes) :
    (segmentWrite r index sub offset last data s).2.2.Canonical := by
  unfold segmentWrite
  split
  · exact h
  · dsimp only
    have ht : (s.closeBlock (objKey index sub (instOf s r.session index sub)) r.session).Canonical := h.keep (closeBlock_bytes ..)
    split_ifs
    · exact h
    · exact h
    · exact h
    · exact h.keep (holdSegment_bytes ..)
    · exact ht
    · exact judgeWrite_canonical ht (effectOf_canonical ht index sub) (rejectOf_canonical ht index sub)

theorem takeProfileEntry_canonical (sel : Nat × Nat) (e : ProfileEntry) : (takeProfileEntry sel e s).Canonical := by
  unfold takeProfileEntry
  split
  · exact h.keep (log_bytes ..)
  · exact .ite (h.keep (log_bytes ..)) (.ite (h.keep (wrI_bytes ..)) (effectOf_canonical h ..))

omit h in
theorem applyEntries_canonical (sel : Nat × Nat) (es : List ProfileEntry) (s : State) (h : s.Canonical) :
    (applyEntries sel es s).Canonical := by
  induction es generalizing sel s with
  | nil => exact h
  | cons e es ih => exact ih _ _ (.ite h (takeProfileEntry_canonical h ..))

theorem profileApply_canonical : (profileApply s).Canonical := by
  unfold profileApply
  extract_lets s1 slot s2 s3 s4 s5
  have h2 : s2.Canonical := h.keep (by simp [s2, s1])
  have h3 : s3.Canonical := by
    unfold s3
    split
    · exact applyEntries_canonical _ _ _ (h2.keep (wr_bytes ..))
    · exact h2.keep (wr_bytes ..)
  have h5 : s5.Canonical := h3.keep (by unfold s5 s4; split <;> simp)
  exact .ite h (h5.keep (modBoot_bytes ..))

/-! ### The frame boundary -/

theorem retryBacking_canonical (q : Nat) : (retryBacking s q).Canonical := by
  unfold retryBacking
  extract_lets r
  have hr : r.2.Canonical := .foldl_snd (fun _ _ ha => backChunk_canonical ha q _) _ (h.keep (backStates_bytes ..))
  exact .ite (hr.keep (by simp)) hr

theorem pagesAtBoundary_canonical : (pagesAtBoundary s).Canonical :=
  State.Canonical.keep (.ite h (.foldl (fun _ q ht => retryBacking_canonical ht q) _ h)) (restoringAtBoundary_bytes _)

theorem boundaryEffects_canonical (est : PowerEst) : (boundaryEffects est s).Canonical := by
  unfold boundaryEffects
  extract_lets t1 t2 t3 t4
  have hp : (pagesAtBoundary (linksAtBoundary t1)).Canonical := pagesAtBoundary_canonical (h.keep (by simp [t1]))
  have h4 : t4.bytes = (pagesAtBoundary (linksAtBoundary t1)).bytes := by
    unfold t4 t3 t2
    split_ifs <;> simp
  exact hp.keep (by simp [h4])

theorem resetAtBoundary_canonical : (resetAtBoundary s).Canonical := by
  unfold resetAtBoundary
  split
  · exact h
  · exact .ite (beginReset_canonical ..) (.ite h (beginReset_canonical ..))

theorem frameBoundary_canonical (est : PowerEst) : (frameBoundary est s).Canonical :=
  .ite h (resetAtBoundary_canonical (.ite h (boundaryEffects_canonical h est)))

/-! ### The host rings -/

/-- What has landed is in the region that backs the rings (R354). -/
theorem settleRings_canonical : (settleRings s).Canonical := ⟨h.1, foldl_wf _ (fun _ _ hm => memWriteN_wf _ _ hm) _ h.2⟩

theorem completionWrite_canonical : (completionWrite s).Canonical := by
  unfold completionWrite
  refine .ite h ((settleRings_canonical h).keep ?_)
  dsimp only
  split_ifs <;> simp

theorem ingressPoll_canonical : (ingressPoll s).Canonical :=
  .ite h ((settleRings_canonical h).keep (pollRounds_bytes ..))

/-! ## A command's answer -/

omit h in
theorem done_canonical {t u : State} (e : done s t = .next u) (ht : t.Canonical) : u.Canonical := by
  rw [done_next e]
  exact ht

theorem doneQuiet_canonical {t u : State} (e : doneQuiet s t = .next u) : u.Canonical := by
  rw [doneQuiet_next e]
  exact h

/-- A command keeps both memories canonical: quietly, or by what its operation writes. -/
theorem exec_canonical {i : Instr} {u : State} (e : exec i s = .next u) : u.Canonical := by
  cases i with
  | rowReductionRecord => exact done_canonical e (rowReductionRecord_canonical h ..)
  | blockMerge => exact done_canonical e (blockMerge_canonical h ..)
  | reserveMove => exact done_canonical e (reserveMove_canonical h ..)
  | restorePage => exact done_canonical e (restorePage_canonical h ..)
  | pageZero => exact done_canonical e (pageZero_canonical h ..)
  | granuleZero => exact done_canonical e (granuleZero_canonical h ..)
  | remoteWriteArrival => exact done_canonical e (remoteWriteArrival_canonical h ..)
  | messageArrival => exact done_canonical e (messageArrival_canonical h ..)
  | messageRingWrite => exact done_canonical e (messageRingWrite_canonical h ..)
  | copy => exact done_canonical e (copy_canonical h ..)
  | transposeCopy => exact done_canonical e (transposeCopy_canonical h ..)
  | fill => exact done_canonical e (fill_canonical h ..)
  | descriptorComplete => exact done_canonical e (descriptorComplete_canonical h ..)
  | housekeepingEvaluation => exact done_canonical e (housekeepingEvaluation_canonical h ..)
  | comparatorTrip => exact done_canonical e (shutdown_canonical h ..)
  | shutdownRelease => exact done_canonical e (shutdownRelease_canonical h)
  | stepStart => exact done_canonical e (stepStart_canonical h ..)
  | placementPlan => exact done_canonical e (h.keep (placementPlan_bytes s))
  | sectionRefetch => exact done_canonical e (sectionRefetch_canonical h ..)
  | supplyFault => exact done_canonical e (supplyFault_canonical h ..)
  | supplyRelease => exact done_canonical e (supplyRelease_canonical h)
  | pllLockLoss => exact done_canonical e (pllLockLoss_canonical h ..)
  | watchdogDeadline => exact done_canonical e (watchdogDeadline_canonical h)
  | profileStoreComplete => exact done_canonical e (h.keep (profileStoreComplete_bytes s _))
  | firmwareWriteComplete => exact done_canonical e (h.keep (firmwareWriteComplete_bytes s _))
  | faultRecordWrite => exact done_canonical e (h.keep (faultRecordWrite_bytes s))
  | tapReset => exact done_canonical e (setInstruction_canonical h ..)
  | idcode => exact done_canonical e (setInstruction_canonical h ..)
  | samplePreload => exact done_canonical e (samplePreload_canonical h ..)
  | extest => exact done_canonical e (setInstruction_canonical h ..)
  | extestPulse => exact done_canonical e (setInstruction_canonical h ..)
  | extestTrain => exact done_canonical e (setInstruction_canonical h ..)
  | clamp => exact done_canonical e (setInstruction_canonical h ..)
  | highz => exact done_canonical e (setInstruction_canonical h ..)
  | bypass => exact done_canonical e (.ite h (setInstruction_canonical h ..))
  | privateInstruction => exact done_canonical e (privateInstruction_canonical h ..)
  | write => exact done_canonical e (writeObject_canonical h ..)
  | writeBlock => exact done_canonical e (dictServe_canonical h fun _ ht => segmentWrite_canonical ht ..)
  | powerOnReset => exact done_canonical e (powerOn_canonical s)
  | warmReset => exact done_canonical e (warmReset_canonical h)
  | profileApply => exact done_canonical e (profileApply_canonical h)
  | memoryTraining => exact done_canonical e (memoryTraining_canonical h ..)
  | ready => exact done_canonical e (h.keep (becomeReady_bytes s))
  | frameBoundary => exact done_canonical e (frameBoundary_canonical h ..)
  | stepWorkDone => exact done_canonical e (stepWorkDone_canonical h)
  | stepAck => exact done_canonical e (stepAck_canonical h ..)
  | stepDiscard => exact done_canonical e (stepDiscard_canonical h ..)
  | commitDeadline => exact done_canonical e (commitDeadline_canonical h)
  | mack => exact done_canonical e (mack_canonical h ..)
  | release => exact done_canonical e (release_canonical h ..)
  | ingressPoll => exact done_canonical e (ingressPoll_canonical h)
  | completionWrite => exact done_canonical e (completionWrite_canonical h)
  | _ => exact doneQuiet_canonical h e

/-- The front command, or a tick of the count, keeps both memories canonical. -/
theorem step_canonical {t : State} (e : step s = .next t) : t.Canonical := by
  unfold step at e
  split at e
  next i rest _ => exact exec_canonical (s := { s with pending := rest }) h e
  · split_ifs at e
    cases e
    exact h

end

/-- Settles O5: every write of a command's operation keeps a canonical memory canonical, and a reset takes empty ones. -/
theorem everyStepKeepsMemoryCanonical : Obligations.EveryStepKeepsMemoryCanonical :=
  fun _ _ h e => step_canonical h e

end Sys2Proof.Machine
end

section
/-! DMA descriptors from their queue to their completion (R212, R214, R216, R220, R222, R225). -/

namespace Sys2Proof.Machine
open Sys2Proof

/-! ## What a response keeps -/

section Respond
variable (r : DictReq) (status : Nat) (last : Bool) (value : Bytes) (s : State)

@[simp] theorem respond_dma : (respond r status last value s).dma = s.dma := by
  obtain ⟨o, x, h⟩ := respond_eq r status last value s; rw [h]

@[simp] theorem respond_wins : (respond r status last value s).wins = s.wins := by
  obtain ⟨o, x, h⟩ := respond_eq r status last value s; rw [h]

@[simp] theorem respond_fab : (respond r status last value s).fab = s.fab := by
  obtain ⟨o, x, h⟩ := respond_eq r status last value s; rw [h]

end Respond

/-! ## Engines and the descriptors in progress on them -/

theorem engine_congr {s t : State} (h : t.dma = s.dma) (n : Nat) : t.engine n = s.engine n := by
  unfold State.engine
  rw [h]

/-- A change of a descriptor in progress that keeps its sequence number is what is found there (R216). -/
theorem run?_modRun {s : State} {n seq : Nat} {f : DescRun → DescRun} (hf : ∀ x, (f x).d.seq = x.d.seq) :
    (s.modRun n seq f).run? n seq = (s.run? n seq).map f := by
  unfold State.run? State.modRun
  rw [engine_modEngine_same]
  induction (s.engine n).running with
  | nil => rfl
  | cons x xs ih =>
    rw [List.map_cons, List.find?_cons, List.find?_cons]
    by_cases hx : x.d.seq = seq
    · simp [hx, hf]
    · simp [hx, ih]

/-- So the one changed is found as it was made, where the change leaves its descriptor alone. -/
theorem run?_modRun_of {s : State} {n seq : Nat} {r : DescRun} {f : DescRun → DescRun} (h : s.run? n seq = some r)
    (hf : ∀ x, (f x).d = x.d) : (s.modRun n seq f).run? n seq = some (f r) := by
  rw [run?_modRun fun x => congrArg Desc.seq (hf x), h, Option.map_some]

/-- Whole rows move, and the record holds what the transfer makes of it (R214). -/
theorem runRows_whole {s : State} {n seq : Nat} {r : DescRun} (h : MovesNow s n seq r) {mine : Desc → Bool}
    (hmine : mine r.d = true) (move : Desc → Nat → State → State) (finish : Nat → DescRun → DescRun) :
    runRows n seq mine none move finish s =
      (move r.d r.d.rows s).modRun n seq fun x => finish r.d.rows { x with row := r.d.rows } := by
  obtain ⟨hrun, hstatus, hrow, hwaits⟩ := h
  simp [runRows, hrun, hmine, hstatus, hrow, hwaits]

/-! ## Submitting a descriptor (R212) -/

/-- The row of the submit object in the dictionary (R228). -/
def descriptorRow : ObjRow := ⟨0x3210, 0x3210, 0x01, 0x01, .octets, 32, .wo, 0, 0, 0⟩

/-- The operator may write 32 bytes there (R228). -/
theorem writable_descriptor {data : Bytes} (h : data.length = 32) : Writable 0x3210 0x01 descriptorRow data where
  sub_ne := by decide
  row_eq := by decide +kernel
  admits := rfl
  right := fun _ _ _ => by simp [rights]
  type := by simp [typeBad, descriptorRow, h]
  range := rfl
  mailbox := rfl

theorem exec_descriptorSubmit (r : DictReq) (data : Bytes) (s : State) : exec (.descriptorSubmit r data) s = doneQuiet s
    (dictWriteElse r 0x3210 0x01 data (fun _ s => decide ((s.engine (s.rd 0x3210 0x02)).queue.length < 64))
      (fun _ c s => enqueueDesc (s.rd 0x3210 0x02) c.data (s.wr 0x3210 0x03 0)) (fun _ s => s.wr 0x3210 0x03 1) s) := rfl

section Submit
variable {r : DictReq} {data : Bytes} {s : State} (h : ByOperator r s) (hfree : NotBusy r s 0x3210 0x01) (hlen : data.length = 32)
include h hfree hlen

/-- A queue that has room takes the descriptor. -/
theorem descriptorSubmit_queued (hroom : (s.engine (s.rd 0x3210 0x02)).queue.length < 64) :
    exec (.descriptorSubmit r data) s = .next (respond r 0 false []
      (enqueueDesc (s.rd 0x3210 0x02) data (s.enqueueRequest.wr 0x3210 0x03 0))) := by
  rw [exec_descriptorSubmit, dictWriteElse_accepted h hfree (writable_descriptor hlen) (decide_eq_true hroom)]
  exact doneQuiet_respond _ _ _ _ _ rfl rfl rfl rfl rfl

/-- A full one turns it away. -/
theorem descriptorSubmit_full (hfull : 64 ≤ (s.engine (s.rd 0x3210 0x02)).queue.length) :
    exec (.descriptorSubmit r data) s = .next (respond r 3 false [] (s.enqueueRequest.wr 0x3210 0x03 1)) := by
  rw [exec_descriptorSubmit, dictWriteElse_rejected h hfree (writable_descriptor hlen) (decide_eq_false (Nat.not_lt.mpr hfull))]
  exact doneQuiet_respond _ _ _ _ _ rfl rfl rfl rfl rfl

end Submit

/-! ## Starting and completing a descriptor (R214, R216) -/

theorem exec_descriptorStart (n : Nat) (s : State) : exec (.descriptorStart n) s = doneQuiet s (descriptorStart n s) := rfl

/-- The front of the queue starts once fewer than 8 are in progress, and none where it carries FENCE. -/
theorem descriptorStart_front {s : State} {n : Nat} {d : Desc} {rest : List Desc} (hqueue : (s.engine n).queue = d :: rest)
    (hroom : (s.engine n).running.length < 8) (hfence : d.fence = true → (s.engine n).running = []) (hn : n < 16) :
    descriptorStart n s = s.modEngine n fun e => { e with
      queue := rest, running := e.running ++ [⟨d, 0, 0, 0, s.beat, descCheck n d s⟩] } := by
  have hstart : ¬(decide (8 ≤ (s.engine n).running.length) || (d.fence && !(s.engine n).running.isEmpty) ||
      decide (16 ≤ n)) = true := by
    cases hd : d.fence with
    | false => simp; omega
    | true => simp [hfence hd]; omega
  unfold descriptorStart
  simp only [hqueue]
  rw [if_neg hstart]

theorem exec_descriptorComplete (n seq : Nat) (s : State) :
    exec (.descriptorComplete n seq) s = done s (descriptorComplete n seq s) := rfl

/-- The engine counts a completed descriptor, which is in progress no more (R216). -/
def retireRun (n seq : Nat) (s : State) : State :=
  (s.bump 0x3201 (n + 1) 1).modEngine n fun e => { e with running := e.running.filter fun x => x.d.seq ≠ seq }

@[simp] theorem retireRun_pending (n seq : Nat) (s : State) : (retireRun n seq s).pending = s.pending := by simp [retireRun]

@[simp] theorem retireRun_mem (n seq : Nat) (s : State) : (retireRun n seq s).mem = s.mem := by simp [retireRun]

@[simp] theorem retireRun_table (n seq : Nat) (s : State) : (retireRun n seq s).table = s.table := by simp [retireRun]

theorem run?_retireRun (n seq : Nat) (s : State) : (retireRun n seq s).run? n seq = none := by
  unfold retireRun State.run?
  rw [engine_modEngine_same]
  simp

theorem counted_retireRun (n seq : Nat) (s : State) : Counted s (retireRun n seq s) 0x3201 (n + 1) 1 :=
  rd_bump_same s 0x3201 (n + 1) 1

section Complete
variable {s : State} {n seq : Nat} {r : DescRun} (hrun : s.run? n seq = some r) (hdone : complete r = true)
include hrun hdone

/-- A complete descriptor that asks for a record writes it, unless its address lies in the other half's staging (R204, R216). -/
theorem descriptorComplete_recorded {k : Nat} (hen : r.d.complEn = true) (hfree : s.looped r.d.compl = false)
    (hrange : rangeOf r.d.compl 16 = some k) (hnear : farStaging n k = false) :
    descriptorComplete n seq s =
      retireRun n seq { s with mem := memWriteN r.d.compl (completionRecord r.d (r.status.getD 0) r.bytes) s.mem } := by
  simp [descriptorComplete, retireRun, hrun, hdone, hen, hfree, hrange, hnear]

/-- One that asks for none writes nothing. -/
theorem descriptorComplete_silent (hen : r.d.complEn = false) : descriptorComplete n seq s = retireRun n seq s := by
  cases hrange : rangeOf r.d.compl 16 <;> simp [descriptorComplete, retireRun, hrun, hdone, hen, hrange]

end Complete

/-! ## Remote writes, messages and their answers (R220, R222, R225) -/

/-- A row of at most 4,096 bytes leaves as one write (R220). -/
theorem rowWrites_single {d : Desc} (hleast : 1 ≤ d.length) (hmost : d.length ≤ 4096) (n : Nat) (s : State) (q : Nat) :
    rowWrites n d s q = [.dmaWrite n d.seq d.target d.window (d.dstRow q) s.beat (memReadN s.mem (d.srcRow q) d.length)] := by
  have hone : ceilDiv d.length 4096 = 1 := by unfold ceilDiv; omega
  simp [rowWrites, hone, Nat.min_eq_right hmost]

theorem sendRows_out {d : Desc} (hleast : 1 ≤ d.length) (hmost : d.length ≤ 4096) (n rows : Nat) (s : State) :
    (sendRows n d rows s).out = s.out ++ (List.range rows).map fun q =>
      .dmaWrite n d.seq d.target d.window (d.dstRow q) s.beat (memReadN s.mem (d.srcRow q) d.length) := by
  have hrows : rowWrites n d s = fun q => [_] := funext (rowWrites_single hleast hmost n s)
  rw [sendRows, sendAll_out, hrows, List.map_eq_flatMap]

theorem exec_remoteWrite (n seq : Nat) (p : Option ParityErr) (s : State) :
    exec (.remoteWrite n seq p) s = doneQuiet s (remoteWrite n seq p s) := rfl

theorem exec_message (n seq : Nat) (p : Option ParityErr) (s : State) :
    exec (.message n seq p) s = doneQuiet s (message n seq p s) := rfl

theorem exec_answer (a : AnswerMsg) (s : State) : exec (.answer a) s = doneQuiet s (answer a s) := rfl

theorem exec_remoteWriteTimeout (n seq : Nat) (s : State) :
    exec (.remoteWriteTimeout n seq) s = doneQuiet s (remoteWriteTimeout n seq s) := rfl

theorem takeAnswer_d (a : AnswerMsg) (r : DescRun) : (takeAnswer a r).d = r.d := by
  unfold takeAnswer
  dsimp only
  split_ifs <;> rfl

theorem takeAnswer_unanswered (a : AnswerMsg) (r : DescRun) : (takeAnswer a r).unanswered = r.unanswered - 1 := by
  unfold takeAnswer
  dsimp only
  split_ifs <;> rfl

/-- An answer of OK to a descriptor whose status is open adds its bytes (R216). -/
theorem takeAnswer_ok {a : AnswerMsg} {r : DescRun} (hok : a.status = 0) (hopen : r.status = none) :
    takeAnswer a r = { r with unanswered := r.unanswered - 1, bytes := r.bytes + a.bytes } := by
  simp [takeAnswer, hok, hopen]

/-- The first refusal gives the status (R222). -/
theorem takeAnswer_refused {a : AnswerMsg} {r : DescRun} (hbad : a.status ≠ 0) (hopen : r.status = none) :
    takeAnswer a r = { r with unanswered := r.unanswered - 1, status := some a.status } := by
  simp [takeAnswer, hbad, hopen]

/-- Settles O43: a submit by `dictWriteElse_accepted` and `dictWriteElse_rejected`, the moves by `runRows_whole`, and what is in
progress afterwards by `run?_modRun`. -/
theorem descriptorsRunFromQueueToCompletion : Obligations.DescriptorsRunFromQueueToCompletion := by
  unfold Obligations.DescriptorsRunFromQueueToCompletion
  refine ⟨?submit, ?full, ?start, ?record, ?silent, ?write, ?message, ?answer, ?timeout⟩
  case submit =>
    intro r data s hop hfree hlen hroom
    refine ⟨_, descriptorSubmit_queued hop hfree hlen hroom, answers_respond .., ?_, ?_, ?_, fun n hn => ?_, respond_mem ..⟩
    · rw [engine_congr (respond_dma ..), enqueueDesc, engine_modEngine_same]
      rfl
    · rw [engine_congr (respond_dma ..), enqueueDesc, engine_modEngine_same]
      rfl
    · exact (rd_respond _ _ _ _ _ (by decide) (by decide) (by decide)).trans
        ((rd_congr (s := s.enqueueRequest.wr 0x3210 0x03 0) rfl ..).trans (rd_wr_same ..))
    · exact (engine_congr (respond_dma ..) n).trans (engine_modEngine_other _ _ _ hn)
  case full =>
    intro r data s hop hfree hlen hfull
    exact ⟨_, descriptorSubmit_full hop hfree hlen hfull, answers_respond ..,
      (rd_respond _ _ _ _ _ (by decide) (by decide) (by decide)).trans (rd_wr_same ..), respond_dma .., respond_mem ..⟩
  case start =>
    intro s n d rest hqueue hroom hfence hn
    rw [exec_descriptorStart, descriptorStart_front hqueue hroom hfence hn]
    refine ⟨_, doneQuiet_eq rfl rfl rfl rfl rfl, ?_, ?_, fun k hk => engine_modEngine_other _ _ _ hk, rfl, rfl⟩
    · exact congrArg Dma.queue (engine_modEngine_same ..)
    · exact congrArg Dma.running (engine_modEngine_same ..)
  case record =>
    intro s n seq k r hrun hdone hen hfree hrange hnear _
    have hlen : (completionRecord r.d (r.status.getD 0) r.bytes).length = 16 := by simp [completionRecord]
    rw [exec_descriptorComplete, descriptorComplete_recorded hrun hdone hen hfree hrange hnear]
    refine ⟨_, done_eq (retireRun_pending ..), ?_, fun a ha => ?_, run?_retireRun .., counted_retireRun n seq _,
      retireRun_table ..⟩
    · rw [retireRun_mem]
      exact (memReadN_memWriteN _ _ (by omega) _).trans (List.take_of_length_le (by omega))
    · rw [retireRun_mem]
      exact memRead_memWriteN_outside (by omega) _
  case silent =>
    intro s n seq r hrun hdone hen
    rw [exec_descriptorComplete, descriptorComplete_silent hrun hdone hen]
    exact ⟨_, done_eq (retireRun_pending ..), retireRun_mem .., run?_retireRun ..⟩
  case write =>
    intro s n seq r hmoves hop hleast hmost
    have hone : ceilDiv r.d.length 4096 = 1 := by unfold ceilDiv; omega
    have hrun : (sendRows n r.d r.d.rows s).run? n seq = some r := hmoves.1
    rw [exec_remoteWrite, remoteWrite, runRows_whole hmoves (by simp [hop])]
    refine ⟨_, doneQuiet_eq rfl rfl rfl rfl rfl, sendRows_out hleast hmost n _ s, ?_, rfl, rfl⟩
    rw [run?_modRun_of hrun]
    · simp [hone]
    · exact fun _ => rfl
  case message =>
    intro s n seq r hmoves hop hrows
    have hrun : (sendMessage n r.d 1 s).run? n seq = some r := hmoves.1
    rw [exec_message, message, runRows_whole hmoves (by simp [hop]), hrows]
    exact ⟨_, doneQuiet_eq rfl rfl rfl rfl rfl, rfl, run?_modRun_of hrun fun _ => rfl, rfl, rfl⟩
  case answer =>
    intro s a r hrun hawaits hopen
    have hanswer : answer a s = s.modRun a.engine a.seq (takeAnswer a) := by simp [answer, hrun, hawaits]
    rw [exec_answer, hanswer]
    refine ⟨_, takeAnswer a r, doneQuiet_eq rfl rfl rfl rfl rfl, ?_, takeAnswer_unanswered a r, fun hok => ?_, fun hbad => ?_,
      rfl, rfl⟩
    · exact run?_modRun_of hrun (takeAnswer_d a)
    · rw [takeAnswer_ok hok hopen]
      exact ⟨rfl, hopen⟩
    · rw [takeAnswer_refused hbad hopen]
      exact ⟨rfl, rfl⟩
  case timeout =>
    intro s n seq r hrun hawaits hlate
    have htimeout : remoteWriteTimeout n seq s = s.modRun n seq fun x => { x with status := some 6 } := by
      simp [remoteWriteTimeout, hrun, hawaits, hlate]
    rw [exec_remoteWriteTimeout, htimeout]
    exact ⟨_, doneQuiet_eq rfl rfl rfl rfl rfl, run?_modRun_of hrun fun _ => rfl, rfl, rfl⟩

end Sys2Proof.Machine
end

section
/-! Remote windows from their request to the end of their drain (R218, R219, R223, R228, R380, R465). -/

namespace Sys2Proof.Machine
open Sys2Proof

/-! ## A quiet command's answer -/

/-- What a quiet command's answer shows of its effect t on s. -/
structure QuietEffect (s t u : State) : Prop where
  obj : u.obj = t.obj
  table : u.table = t.table
  wins : u.wins = t.wins
  bufs : u.bufs = t.bufs
  granZero : u.granZero = t.granZero
  load : u.load = t.load
  mem : u.mem = s.mem

theorem doneQuiet_effect (s t : State) : ∃ u, doneQuiet s t = .next u ∧ QuietEffect s t u :=
  ⟨_, rfl, rfl, rfl, rfl, rfl, rfl, rfl, rfl⟩

theorem win_congr {s t : State} (h : t.wins = s.wins) (w : Nat) : t.win w = s.win w := by
  unfold State.win
  rw [h]

/-! ## The result of a session's window request (R380) -/

theorem windowResult_eq (c : WriteCtx) (reason : Nat) (id : Option Nat) (s : State) :
    ∃ x, windowResult c reason id s = { s with sec := x } := by
  unfold windowResult
  split
  · exact ⟨s.sec, rfl⟩
  · exact ⟨_, rfl⟩

/-- A change of a session that keeps its number is what is found there. -/
theorem session?_modSession {i : Nat} {f : Session → Session} (hf : ∀ x, (f x).id = x.id) (s : State) :
    (s.modSession i f).session? i = (s.session? i).map f := by
  unfold State.session? State.modSession
  dsimp only
  induction s.sec.sessions with
  | nil => rfl
  | cons x xs ih =>
    rw [List.map_cons, List.find?_cons, List.find?_cons]
    by_cases hx : x.id = i
    · simp [hx, hf]
    · simp [hx, ih]

/-- The session of a window request holds its reason. -/
theorem windowResult_winReason {c : WriteCtx} {i : Nat} (hi : c.session = some i) (reason : Nat) (id : Option Nat) (s : State) :
    ((windowResult c reason id s).session? i).map (·.winReason) = (s.session? i).map fun _ => reason := by
  unfold windowResult
  rw [hi]
  dsimp only
  rw [session?_modSession, Option.map_map]
  · rfl
  · exact fun _ => rfl

/-- A response keeps the reason that its session's latest window request was given. -/
theorem respond_winReason {r : DictReq} {i : Nat} (hi : r.session = some i) (status : Nat) (last : Bool) (value : Bytes)
    (s : State) : ((respond r status last value s).session? i).map (·.winReason) = (s.session? i).map (·.winReason) := by
  unfold respond
  extract_lets s1 s2 s3 s4
  have h4 : s4.sec = s.sec := by
    unfold s4 s3
    split_ifs <;> rfl
  have hfound : s4.session? i = s.session? i := by
    unfold State.session?
    rw [h4]
  rw [hi]
  dsimp only
  rw [session?_modSession, Option.map_map, hfound]
  · congr 1
    funext x
    dsimp only [Function.comp_apply]
    split_ifs <;> rfl
  · intro x
    split_ifs <;> rfl

/-! ## An operator's window requests (R218, R223, R228) -/

/-- The row of the window requests in the dictionary (R228). -/
def windowOpenRow : ObjRow := ⟨0x3203, 0x3203, 0x01, 0x01, .octets, 64, .wo, 0, 0, 0⟩

/-- The row of the closes (R228). -/
def windowCloseRow : ObjRow := ⟨0x3203, 0x3203, 0x02, 0x02, .uint, 2, .wo, 0, 0, 65535⟩

/-- The row of the windows' beats of expiry (R228). -/
def windowExpiryRow : ObjRow := ⟨0x3280, 0x32FF, 0x06, 0x06, .uint, 8, .rw, 0, 0, 18446744073709551615⟩

/-- The operator may write 64 bytes as a window request (R218). -/
theorem writable_windowOpen {data : Bytes} (h : data.length = 64) : Writable 0x3203 0x01 windowOpenRow data where
  sub_ne := by decide
  row_eq := by decide +kernel
  admits := rfl
  right := fun _ _ _ => by simp [rights]
  type := by simp [typeBad, windowOpenRow, h]
  range := rfl
  mailbox := rfl

/-- An unsigned value of the object's length is in a range that admits all of them (R375). -/
theorem rangeBad_full {row : ObjRow} {data : Bytes} (htype : row.type = .uint) (hleast : row.least = 0)
    (hmost : 256 ^ data.length ≤ row.most + 1) : rangeBad row data = false := by
  have hlt := beNat_lt data
  have hrange : ¬(beNat data < row.least ∨ row.most < beNat data) := by omega
  simp [rangeBad, htype, hrange]

/-- And any window identifier as a close (R223). -/
theorem writable_windowClose {data : Bytes} (h : data.length = 2) : Writable 0x3203 0x02 windowCloseRow data where
  sub_ne := by decide
  row_eq := by decide +kernel
  admits := rfl
  right := fun _ _ _ => by simp [rights]
  type := by simp [typeBad, windowCloseRow, h]
  range := rangeBad_full rfl rfl (by rw [h]; decide)
  mailbox := rfl

/-- And any beat as a window's expiry (R228). -/
theorem writable_windowExpiry {w : Nat} (hw : w < 128) {data : Bytes} (h : data.length = 8) :
    Writable (0x3280 + w) 0x06 windowExpiryRow data where
  sub_ne := by decide
  row_eq := (by decide +kernel : ∀ w < 128, objRow (0x3280 + w) 0x06 = some windowExpiryRow) w hw
  admits := rfl
  right := fun _ _ _ => by
    have hafter (n : Nat) (hn : n ≤ 0x3210) : ¬0x3280 + w ≤ n := by omega
    have hne (n : Nat) (hn : n ≤ 0x3210) : 0x3280 + w ≠ n := by omega
    have hlast : 0x3280 + w ≤ 0x32FF := by omega
    simp [rights, hafter, hne, hlast]
  type := by simp [typeBad, windowExpiryRow, h]
  range := rangeBad_full rfl rfl (by rw [h]; decide)
  mailbox := by simp [isHostMailbox]

theorem needsWake_windowExpiry {w : Nat} (hw : w < 128) : needsWake (0x3280 + w) 0x06 = false := by
  simp [needsWake, isHostMailbox]
  omega

theorem exec_windowOpen (r : DictReq) (data : Bytes) (s : State) : exec (.windowOpen r data) s = doneQuiet s
    (dictWriteElse r 0x3203 0x01 data (fun c s => windowReason c.role (parseWinReq c.data) s = 0) (fun _ c s => openWindow c s)
      (fun c s => windowResult c (windowReason c.role (parseWinReq c.data) s) none s) s) := rfl

theorem exec_windowClose (r : DictReq) (data : Bytes) (s : State) : exec (.windowClose r data) s = doneQuiet s
    (dictWriteElse r 0x3203 0x02 data (fun _ _ => true) (fun _ c s => closeById c s) (fun _ s => s) s) := rfl

theorem exec_windowExpiryWrite (r : DictReq) (w : Nat) (data : Bytes) (s : State) :
    exec (.windowExpiryWrite r w data) s = doneQuiet s (windowExpiryWrite r w data s) := rfl

theorem exec_windowLeaseExpiry (w : Nat) (s : State) :
    exec (.windowLeaseExpiry w) s = doneQuiet s (windowLeaseExpiry w s) := rfl

theorem exec_windowFree (w : Nat) (s : State) : exec (.windowFree w) s = doneQuiet s (windowFree w s) := rfl

/-- A slot as a window request opens it (R218, R219). -/
def openSlot (q : WinReq) (x : Win) : Win :=
  { x with state := 1, ctx := q.ctx, base := q.base, len := q.len, expiry := q.expiry, devices := q.devices,
           close := 0, drain := 0 }

/-- A slot as a close leaves it (R223). -/
def closeSlot (beat drain : Nat) (x : Win) : Win := { x with state := 2, close := beat, drain := drain }

/-- A window opens in the lowest FREE slot (R219). -/
theorem openWindow_eq {c : WriteCtx} {s : State} {w : Nat} (hslot : s.freeSlot = some w) :
    ∃ x, openWindow c s = { s.modWin w (openSlot (parseWinReq c.data)) with sec := x } := by
  unfold openWindow
  simp only [hslot]
  exact windowResult_eq ..

/-- An OPEN slot closes at the present beat (R223). -/
theorem closeWin_open {s : State} {w : Nat} (h : (s.win w).state = 1) :
    closeWin w s = s.modWin w (closeSlot s.beat (s.rd 0x3202 0x03)) := if_pos h

section Requests
variable {r : DictReq} {data : Bytes} {s : State} (h : ByOperator r s)
include h

/-- A window request without a reason against it (R218). -/
theorem windowOpen_opened (hfree : NotBusy r s 0x3203 0x01) (hlen : data.length = 64)
    (hreason : windowReason .operator (parseWinReq data) s = 0) {w : Nat} (hslot : s.freeSlot = some w) :
    ∃ t, exec (.windowOpen r data) s = .next t ∧ Answers r 0 [] t ∧ t.wins = (s.modWin w (openSlot (parseWinReq data))).wins ∧
      t.mem = s.mem := by
  obtain ⟨x, hopen⟩ := openWindow_eq (c := operatorCtx r s 0x3203 0x01 data) (s := s.enqueueRequest) hslot
  rw [exec_windowOpen, dictWriteElse_accepted h hfree (writable_windowOpen hlen) (decide_eq_true hreason), hopen]
  exact ⟨_, doneQuiet_respond _ _ _ _ _ rfl rfl rfl rfl rfl, answers_respond .., respond_wins .., respond_mem ..⟩

/-- One with a reason is answered RANGE and keeps the reason (R218, R380). -/
theorem windowOpen_rejected (hfree : NotBusy r s 0x3203 0x01) (hlen : data.length = 64)
    (hreason : windowReason .operator (parseWinReq data) s ≠ 0) :
    ∃ t, exec (.windowOpen r data) s = .next t ∧ Answers r 3 [] t ∧
      (∀ i x, r.session = some i → t.session? i = some x → x.winReason = windowReason .operator (parseWinReq data) s) ∧
      t.wins = s.wins ∧ t.mem = s.mem := by
  obtain ⟨x, hresult⟩ := windowResult_eq (operatorCtx r s 0x3203 0x01 data)
    (windowReason .operator (parseWinReq data) s) none s.enqueueRequest
  have hreject : windowResult (operatorCtx r s 0x3203 0x01 data)
      (windowReason (operatorCtx r s 0x3203 0x01 data).role (parseWinReq (operatorCtx r s 0x3203 0x01 data).data)
        s.enqueueRequest)
      none s.enqueueRequest = { s.enqueueRequest with sec := x } := hresult
  have hans := answers_respond r 3 [] { s.enqueueRequest with sec := x }
  rw [exec_windowOpen, dictWriteElse_rejected h hfree (writable_windowOpen hlen) (decide_eq_false hreason), hreject]
  refine ⟨_, doneQuiet_respond _ _ _ _ _ rfl rfl rfl rfl rfl, hans, fun i y hi hy => ?_, respond_wins .., respond_mem ..⟩
  have hkept := respond_winReason hi 3 false [] { s.enqueueRequest with sec := x }
  rw [hy, ← hresult, windowResult_winReason (c := operatorCtx r s 0x3203 0x01 data) hi] at hkept
  obtain ⟨_, -, hyreason⟩ := Option.map_eq_some_iff.mp hkept.symm
  exact hyreason.symm

/-- A close of an OPEN window by its identifier (R223). -/
theorem windowClose_closed (hfree : NotBusy r s 0x3203 0x02) (hlen : data.length = 2) (hbit : beNat data / 128 % 2 = 0)
    (hgen : (s.win (beNat data % 128)).gen = beNat data / 256) (hopen : (s.win (beNat data % 128)).state = 1) :
    ∃ t, exec (.windowClose r data) s = .next t ∧ Answers r 0 [] t ∧
      t.wins = (s.modWin (beNat data % 128) (closeSlot s.beat (s.rd 0x3202 0x03))).wins ∧ t.mem = s.mem := by
  have hclose : closeById (operatorCtx r s 0x3203 0x02 data) s.enqueueRequest =
      s.enqueueRequest.modWin (beNat data % 128) (closeSlot s.beat (s.rd 0x3202 0x03)) := by
    have hgen' : (s.enqueueRequest.win (beNat data % 128)).gen = beNat data / 256 := hgen
    unfold closeById
    simp only [operatorCtx, hbit, hgen', ownsContext, decide_true, Bool.and_self, if_true]
    exact closeWin_open hopen
  rw [exec_windowClose, dictWriteElse_accepted h hfree (writable_windowClose hlen) rfl, hclose]
  exact ⟨_, doneQuiet_respond _ _ _ _ _ rfl rfl rfl rfl rfl, answers_respond .., respond_wins .., respond_mem ..⟩

/-- A later beat written while the window is OPEN and unexpired (R228). -/
theorem windowExpiryWrite_extended {w : Nat} (hfree : NotBusy r s (0x3280 + w) 0x06) (hw : w < 128) (hlen : data.length = 8)
    (hopen : (s.win w).state = 1) (hlater : (s.win w).expiry < beNat data) (hnow : s.beat < (s.win w).expiry) :
    ∃ t, exec (.windowExpiryWrite r w data) s = .next t ∧ Answers r 0 [] t ∧
      t.wins = (s.modWin w fun x => { x with expiry := beNat data }).wins ∧ t.mem = s.mem := by
  have hok : ((s.enqueueRequest.win w).state = 1 && decide ((s.enqueueRequest.win w).expiry < beNat data) &&
      decide (s.enqueueRequest.beat < (s.enqueueRequest.win w).expiry)) = true := by
    have hopen' : (s.enqueueRequest.win w).state = 1 := hopen
    have hlater' : (s.enqueueRequest.win w).expiry < beNat data := hlater
    have hnow' : s.enqueueRequest.beat < (s.enqueueRequest.win w).expiry := hnow
    simp [hopen', hlater', hnow']
  rw [exec_windowExpiryWrite, windowExpiryWrite, if_neg (by omega), dictWrite,
    dictWriteElse_accepted h hfree (writable_windowExpiry hw hlen) hok, if_neg (by simp [needsWake_windowExpiry hw])]
  exact ⟨_, doneQuiet_respond _ _ _ _ _ rfl rfl rfl rfl rfl, answers_respond .., respond_wins .., respond_mem ..⟩

end Requests

/-! ## The end of a lease and of a drain (R223, R465) -/

theorem late_beat (due : Nat) (s : State) : (s.late due).beat = s.beat := beat_congr (late_count s due)

@[simp] theorem late_wins (due : Nat) (s : State) : (s.late due).wins = s.wins := by
  obtain ⟨o, h⟩ := late_eq_obj s due; rw [h]

/-- At EXPIRY an OPEN window closes and a lease ends (R465). -/
theorem windowLeaseExpiry_closed {s : State} {w : Nat} (hopen : (s.win w).state = 1) (hdue : (s.win w).expiry ≤ s.beat) :
    windowLeaseExpiry w s = ((s.late (s.win w).expiry).bump 0x7001 0x08 1).modWin w (closeSlot s.beat (s.rd 0x3202 0x03)) := by
  have hgo : ¬(decide ((s.win w).state ≠ 1) || decide (s.beat < (s.win w).expiry)) = true := by simp [hopen, hdue]
  have hwins : ((s.late (s.win w).expiry).bump 0x7001 0x08 1).win w = s.win w := win_congr (late_wins ..) w
  have hbeat : ((s.late (s.win w).expiry).bump 0x7001 0x08 1).beat = s.beat := late_beat ..
  have hdrain : ((s.late (s.win w).expiry).bump 0x7001 0x08 1).rd 0x3202 0x03 = s.rd 0x3202 0x03 :=
    (rd_bump_other _ _ _ _ (by decide)).trans (rd_late (by decide) ..)
  unfold windowLeaseExpiry forfeit
  simp only [hgo, Bool.false_eq_true, if_false]
  rw [closeWin_open (by rw [hwins, hopen]), hbeat, hdrain]

@[simp] theorem stopRuns_wins (p : Desc → Bool) (s : State) : (stopRuns p s).wins = s.wins := rfl

@[simp] theorem freeBuf_wins (b : Buf) (s : State) : (freeBuf b s).wins = s.wins := by
  unfold freeBuf
  extract_lets t
  have ht : t.wins = s.wins := by
    unfold t
    split_ifs
    · exact (wrI_wins ..).trans (wrI_wins ..)
    · rfl
  rw [stopRuns_wins, ht]

theorem modWin_congr {s t : State} (h : t.wins = s.wins) (w : Nat) (f : Win → Win) :
    (t.modWin w f).wins = (s.modWin w f).wins := by
  unfold State.modWin State.win
  rw [h]

/-- A context's buffers freed leave the windows alone (R227). -/
theorem freeAfterDrain_wins (ctx : Nat) (s : State) : (freeAfterDrain ctx s).wins = s.wins := by
  unfold freeAfterDrain
  split_ifs
  · rfl
  · exact List.foldlRecOn (motive := fun t : State => t.wins = s.wins) _ _ rfl fun t ht b _ => (freeBuf_wins b t).trans ht

/-- A slot as the end of its drain leaves it: FREE under the next generation (R219, R223). -/
def freedSlot (x : Win) : Win := { Win.free with gen := (x.gen + 1) % 256, accepted := x.accepted, refused := x.refused }

theorem windowFree_wins {s : State} {w : Nat} (hclosing : (s.win w).state = 2)
    (hdue : (s.win w).close + (s.win w).drain + 1 ≤ s.beat) : (windowFree w s).wins = (s.modWin w freedSlot).wins := by
  have hgo : ¬(decide ((s.win w).state ≠ 2) || decide (s.beat < (s.win w).close + (s.win w).drain + 1)) = true := by
    simp [hclosing]; omega
  unfold windowFree
  dsimp only
  rw [if_neg hgo, freeAfterDrain_wins]
  exact modWin_congr (late_wins ..) w freedSlot

/-- Settles O45: an operator's writes by `windowOpen_opened` and its companions, the ends of leases and drains by what they
make of the slot. -/
theorem windowsOpenDrainAndFree : Obligations.WindowsOpenDrainAndFree := by
  unfold Obligations.WindowsOpenDrainAndFree
  refine ⟨?opened, ?rejected, ?closed, ?lease, ?freed, ?extended⟩
  case opened =>
    intro r data s w hop hfree hlen hreason hslot
    obtain ⟨t, he, hans, hwins, hmem⟩ := windowOpen_opened hop hfree hlen hreason hslot
    have hw : t.win w = openSlot (parseWinReq data) (s.win w) := (win_congr hwins w).trans (win_modWin_same ..)
    refine ⟨t, he, hans, ?_⟩
    rw [hw]
    exact ⟨rfl, rfl, rfl, rfl, rfl, rfl, fun v hv => (win_congr hwins v).trans (win_modWin_other _ _ _ hv), hmem⟩
  case rejected =>
    intro r data s hop hfree hlen hreason
    exact windowOpen_rejected hop hfree hlen hreason
  case closed =>
    intro r data s hop hfree hlen hbit hgen hopen
    obtain ⟨t, he, hans, hwins, hmem⟩ := windowClose_closed hop hfree hlen hbit hgen hopen
    have hw : t.win (beNat data % 128) = closeSlot s.beat (s.rd 0x3202 0x03) (s.win (beNat data % 128)) :=
      (win_congr hwins _).trans (win_modWin_same ..)
    exact ⟨t, he, hans, congrArg Win.state hw, congrArg Win.close hw, congrArg Win.drain hw,
      fun v hv => (win_congr hwins v).trans (win_modWin_other _ _ _ hv), hmem⟩
  case lease =>
    intro s w hopen hdue
    rw [exec_windowLeaseExpiry, windowLeaseExpiry_closed hopen hdue]
    obtain ⟨t, he, ht⟩ := doneQuiet_effect s
      (((s.late (s.win w).expiry).bump 0x7001 0x08 1).modWin w (closeSlot s.beat (s.rd 0x3202 0x03)))
    have hwins : t.wins = (s.modWin w (closeSlot s.beat (s.rd 0x3202 0x03))).wins :=
      ht.wins.trans (modWin_congr (late_wins ..) w _)
    have hcount : ((s.late (s.win w).expiry).bump 0x7001 0x08 1).rd 0x7001 0x08 =
        (s.rd 0x7001 0x08 + 1) % objModulus 0x7001 0x08 := by
      rw [rd_bump_same, rd_late (by decide)]
    have hw : t.win w = closeSlot s.beat (s.rd 0x3202 0x03) (s.win w) := (win_congr hwins w).trans (win_modWin_same ..)
    exact ⟨t, he, congrArg Win.state hw, congrArg Win.close hw, (rd_congr ht.obj ..).trans hcount,
      fun v hv => (win_congr hwins v).trans (win_modWin_other _ _ _ hv), ht.mem⟩
  case freed =>
    intro s w hclosing hdue
    rw [exec_windowFree]
    obtain ⟨t, he, ht⟩ := doneQuiet_effect s (windowFree w s)
    have hwins := ht.wins.trans (windowFree_wins hclosing hdue)
    have hw : t.win w = freedSlot (s.win w) := (win_congr hwins w).trans (win_modWin_same ..)
    exact ⟨t, he, congrArg Win.state hw, congrArg Win.gen hw,
      fun v hv => (win_congr hwins v).trans (win_modWin_other _ _ _ hv), ht.mem⟩
  case extended =>
    intro r w data s hop hfree hw hlen hopen hlater hnow
    obtain ⟨t, he, hans, hwins, hmem⟩ := windowExpiryWrite_extended hop hfree hw hlen hopen hlater hnow
    have heq := (win_congr hwins w).trans (win_modWin_same ..)
    exact ⟨t, he, hans, congrArg Win.expiry heq, (congrArg Win.state heq).trans hopen,
      fun v hv => (win_congr hwins v).trans (win_modWin_other _ _ _ hv), hmem⟩

end Sys2Proof.Machine
end

section
/-! Remote writes and messages as they arrive, and the rings that hold the messages (R221, R225, R226). -/

namespace Sys2Proof.Machine
open Sys2Proof

/-! ## Bytes in a memory -/

/-- Reads of memories that agree on the bytes read. -/
theorem memReadN_congr {m m' : List Host.Cell} {a n : Nat} (h : ∀ q, a ≤ q → q < a + n → memRead m' q = memRead m q) :
    memReadN m' a n = memReadN m a n := by
  induction n generalizing a with
  | zero => rfl
  | succ n ih =>
    rw [memReadN, memReadN, h a (by omega) (by omega), ih fun q h1 h2 => h q (by omega) (by omega)]

/-- Bytes read apart from those written. -/
theorem memReadN_memWriteN_outside {a n b : Nat} {bs : Bytes} (h : a + n ≤ b ∨ b + bs.length ≤ a) (m : List Host.Cell) :
    memReadN (memWriteN b bs m) a n = memReadN m a n :=
  memReadN_congr fun _ _ _ => memRead_memWriteN_outside (by omega) m

/-- A number stored in n bytes reads back, up to its length. -/
theorem leNat_leBytes (n v : Nat) : leNat (leBytes n v) = v % 256 ^ n := by
  induction n generalizing v with
  | zero => simp [leBytes, leNat, Nat.mod_one]
  | succ n ih =>
    have hsplit : v % 256 ^ (n + 1) = v % 256 + 256 * (v / 256 % 256 ^ n) := by rw [Nat.pow_succ', Nat.mod_mul]
    rw [leBytes, leNat, ih, hsplit]
    simp

/-! ## Answers to arrivals (R221, R225) -/

theorem memberPos_congr {s t : State} (h : t.fab = s.fab) (i : Nat) : t.memberPos i = s.memberPos i := by
  unfold State.memberPos State.extent State.ringLen
  rw [h]

section
variable (sender engine seq status bytes : Nat) (s : State)

@[simp] theorem answerTo_pending : (answerTo sender engine seq status bytes s).pending = s.pending := rfl
@[simp] theorem answerTo_mem : (answerTo sender engine seq status bytes s).mem = s.mem := rfl
@[simp] theorem answerTo_obj : (answerTo sender engine seq status bytes s).obj = s.obj := rfl
@[simp] theorem answerTo_table : (answerTo sender engine seq status bytes s).table = s.table := rfl
@[simp] theorem answerTo_ringWord (base o : Nat) :
    (answerTo sender engine seq status bytes s).ringWord base o = s.ringWord base o := rfl

end

/-- The answer leaves on VC1 for the sender's position. -/
theorem answerTo_out {s t : State} (hfab : t.fab = s.fab) (hout : t.out = s.out) (sender engine seq status bytes : Nat) :
    (answerTo sender engine seq status bytes t).out =
      s.out ++ [.packet 1 0x11 (s.memberPos sender) seq [engine, seq, status, bytes]] := by
  rw [answerTo, send_out, hout, memberPos_congr hfab]

theorem exec_remoteWriteArrival (m : RWrite) (s : State) :
    exec (.remoteWriteArrival m) s = done s (remoteWriteArrival m s) := rfl

theorem exec_messageArrival (m : MsgIn) (s : State) : exec (.messageArrival m) s = done s (messageArrival m s) := rfl

theorem exec_messageRingWrite (r : DictReq) (sub : Nat) (data : Bytes) (s : State) :
    exec (.messageRingWrite r sub data) s = done s (messageRingWrite r sub data s) := rfl

/-! ## Remote writes (R221) -/

/-- A write that passes the tests, stored at its place in the window and counted. -/
def storeArrival (m : RWrite) (s : State) : State :=
  (State.bump { s with mem := memWriteN ((s.win (m.window % 128)).base + m.offset) m.data s.mem } 0x3202 0x05 1).modWin
    (m.window % 128) fun x => { x with accepted := (x.accepted + 1) % 2 ^ 64 }

theorem remoteWriteArrival_stored {m : RWrite} {s : State} (h : writeStatus m s = 0) :
    remoteWriteArrival m s = answerTo m.sender m.engine m.seq 0 m.data.length (storeArrival m s) := by
  simp [remoteWriteArrival, storeArrival, h]

theorem storeArrival_eq (m : RWrite) (s : State) : ∃ w, storeArrival m s =
    { s.bump 0x3202 0x05 1 with mem := memWriteN ((s.win (m.window % 128)).base + m.offset) m.data s.mem, wins := w } := ⟨_, rfl⟩

/-- One that fails a test, counted (R221). -/
def dropArrival (m : RWrite) (s : State) : State :=
  if m.window / 128 % 2 = 1 then s.bump 0x3202 0x04 1
  else (s.bump 0x3202 0x04 1).modWin (m.window % 128) fun x => { x with refused := (x.refused + 1) % 2 ^ 64 }

theorem remoteWriteArrival_dropped {m : RWrite} {s : State} (h : writeStatus m s ≠ 0) :
    remoteWriteArrival m s = answerTo m.sender m.engine m.seq (writeStatus m s) 0 (dropArrival m s) := by
  simp [remoteWriteArrival, dropArrival, h]

/-- What is counted of a write that fails is the number of them, and its window's (R221). -/
theorem dropArrival_eq (m : RWrite) (s : State) : ∃ w, dropArrival m s = { s.bump 0x3202 0x04 1 with wins := w } := by
  unfold dropArrival
  split_ifs
  · exact ⟨s.wins, rfl⟩
  · exact ⟨_, rfl⟩

/-! ## Messages (R225, R226) -/

@[simp] theorem length_messageRecord (m : MsgIn) (beat : Nat) : (messageRecord m beat).length = 16 + m.data.length := by
  simp [messageRecord, zeros]
  omega

/-- A message's record stored and the two counts of its ring's header advanced (R226). -/
def appendRecord (m : MsgIn) (base place : Nat) (s : State) : State :=
  let t := putRingWord base 0 ((s.ringWord base 0 + recordBytes m.data.length) % 0x100000000)
    { s with mem := memWriteN place (messageRecord m s.beat) s.mem }
  putRingWord base 8 ((t.ringWord base 8 + 1) % 0x100000000) t

section
variable (m : MsgIn) (base place : Nat) (s : State)

@[simp] theorem appendRecord_pending : (appendRecord m base place s).pending = s.pending := rfl
@[simp] theorem appendRecord_fab : (appendRecord m base place s).fab = s.fab := rfl
@[simp] theorem appendRecord_out : (appendRecord m base place s).out = s.out := rfl
@[simp] theorem appendRecord_obj : (appendRecord m base place s).obj = s.obj := rfl

end

section Message
variable {s : State} {m : MsgIn} {base len : Nat}

/-- A message that its ring holds without a wrap is appended (R226). -/
theorem messageArrival_appended (hring : s.msgRing m.context = some (base, len)) (hleast : 1 ≤ m.data.length)
    (hmost : m.data.length ≤ 4096) (hfits : s.ringWord base 0 % (len - 64) + recordBytes m.data.length ≤ len - 64)
    (hroom : (s.ringWord base 0 + 0x100000000 - s.ringWord base 4) % 0x100000000 + recordBytes m.data.length ≤ len - 64) :
    messageArrival m s = answerTo m.sender m.engine m.seq 0 m.data.length
      (appendRecord m base (base + 64 + s.ringWord base 0 % (len - 64)) s) := by
  have hpad : padBytes (len - 64) (s.ringWord base 0 % (len - 64)) m.data.length = 0 := if_neg (Nat.not_lt.mpr hfits)
  have hgo : ¬(decide (m.data.length = 0) || decide (4096 < m.data.length) || decide (len - 64 <
      (s.ringWord base 0 + 0x100000000 - s.ringWord base 4) % 0x100000000 + 0 + recordBytes m.data.length)) = true := by
    simp only [Bool.or_eq_true, decide_eq_true_eq]
    omega
  unfold messageArrival
  simp only [hring, hpad]
  rw [if_neg hgo]
  rfl

/-- A context without a ring refuses it with FULL (R225). -/
theorem messageArrival_refused (hring : s.msgRing m.context = none) :
    messageArrival m s = answerTo m.sender m.engine m.seq 7 0 (s.bump 0x3202 0x07 1) := by
  simp [messageArrival, hring]

/-- Where the record lies behind the header, the counts are stored in bytes of their own. -/
theorem appendRecord_mem {place : Nat} (hplace : base + 64 ≤ place) : (appendRecord m base place s).mem =
    memWriteN (base + 8) (leBytes 4 ((s.ringWord base 8 + 1) % 0x100000000))
      (memWriteN (base + 0) (leBytes 4 ((s.ringWord base 0 + recordBytes m.data.length) % 0x100000000))
        (memWriteN place (messageRecord m s.beat) s.mem)) := by
  have hcount : leNat (memReadN (memWriteN (base + 0) (leBytes 4 ((s.ringWord base 0 + recordBytes m.data.length) % 0x100000000))
      (memWriteN place (messageRecord m s.beat) s.mem)) (base + 8) 4) = s.ringWord base 8 := by
    rw [memReadN_memWriteN_outside (by simp), memReadN_memWriteN_outside (by omega)]
    rfl
  exact congrArg (fun v => memWriteN (base + 8) (leBytes 4 ((v + 1) % 0x100000000)) _) hcount

end Message

/-- A word of a ring's header as it was stored. -/
theorem leNat_memReadN_word (a v : Nat) (m : List Host.Cell) :
    leNat (memReadN (memWriteN a (leBytes 4 v) m) a 4) = v % 0x100000000 := by
  rw [memReadN_memWriteN a 4 (by simp), List.take_of_length_le (by simp)]
  exact leNat_leBytes 4 v

section Appended
variable {s : State} {m : MsgIn} {base place : Nat} (hplace : base + 64 ≤ place)
include hplace

/-- The record stands where it was put. -/
theorem appendRecord_record :
    memReadN (appendRecord m base place s).mem place (16 + m.data.length) = messageRecord m s.beat := by
  rw [appendRecord_mem hplace, memReadN_memWriteN_outside (by simp; omega), memReadN_memWriteN_outside (by simp; omega),
    memReadN_memWriteN place _ (by simp), List.take_of_length_le (by simp)]

/-- The producer count is past it. -/
theorem appendRecord_produced :
    (appendRecord m base place s).ringWord base 0 = (s.ringWord base 0 + recordBytes m.data.length) % 0x100000000 := by
  rw [State.ringWord, appendRecord_mem hplace, memReadN_memWriteN_outside (by simp), leNat_memReadN_word, Nat.mod_mod]

/-- The count of messages is one more. -/
theorem appendRecord_counted : (appendRecord m base place s).ringWord base 8 = (s.ringWord base 8 + 1) % 0x100000000 := by
  rw [State.ringWord, appendRecord_mem hplace, leNat_memReadN_word, Nat.mod_mod]

/-- The consumer count is the context's own. -/
theorem appendRecord_consumed : (appendRecord m base place s).ringWord base 4 = s.ringWord base 4 := by
  rw [State.ringWord, appendRecord_mem hplace, memReadN_memWriteN_outside (by simp), memReadN_memWriteN_outside (by simp),
    memReadN_memWriteN_outside (by simp; omega)]
  rfl

/-- Nothing but the two counts and the record changes. -/
theorem appendRecord_outside {a : Nat} (hhead : a < base ∨ base + 12 ≤ a)
    (hrecord : a < place ∨ place + (16 + m.data.length) ≤ a) : memRead (appendRecord m base place s).mem a = memRead s.mem a := by
  rw [appendRecord_mem hplace, memRead_memWriteN_outside (by simp; omega), memRead_memWriteN_outside (by simp; omega),
    memRead_memWriteN_outside (by simpa using hrecord)]

end Appended

/-! ## Setting a message ring (R226) -/

/-- The row of the message rings' bases in the dictionary (R293). -/
def ringBaseRow : ObjRow := ⟨0x5021, 0x5021, 0x04, 0x04, .uint, 8, .rw, 0, 0, 18446744073709551615⟩

/-- The operator may write any address there (R293). -/
theorem writable_ringBase {data : Bytes} (h : data.length = 8) : Writable 0x5021 0x04 ringBaseRow data where
  sub_ne := by decide
  row_eq := by decide +kernel
  admits := rfl
  right := fun _ _ _ => by simp [rights]
  type := by simp [typeBad, ringBaseRow, h]
  range := rangeBad_full rfl rfl (by rw [h]; decide)
  mailbox := rfl

/-- A response leaves the objects of a context alone. -/
theorem rdI_respond_context (r : DictReq) (status : Nat) (last : Bool) (value : Bytes) (s : State) {u n : Nat} (hu : u < 256) :
    (respond r status last value s).rdI 0x5021 u n = s.rdI 0x5021 u n := by
  have hbump (t : State) (i w k : Nat) (hi : i < 0x5021 ∨ 0x5021 < i) (hw : w < 256) (hi2 : i < 65536) :
      (t.bump i w k).rdI 0x5021 u n = t.rdI 0x5021 u n :=
    rdI_wrI_other _ _ _ _ _ fun h => by
      have := (objKey_inj (by decide) hu hi2 hw h).1
      omega
  have hsession (t : State) (k : Nat) (f : Session → Session) : (t.modSession k f).rdI 0x5021 u n = t.rdI 0x5021 u n :=
    rdI_congr (s := t) rfl ..
  have hsend (o : Out) : (s.send o).rdI 0x5021 u n = s.rdI 0x5021 u n := rdI_congr (s := s) rfl ..
  unfold respond
  cases r.session with
  | none => split_ifs <;> simp [hbump, hsend]
  | some k => split_ifs <;> simp [hbump, hsend, hsession]

/-- A base set by the operator while the ring has a length is stored, and the header there is zero. -/
theorem messageRingWrite_set {r : DictReq} {data : Bytes} {s : State} (h : ByOperator r s) (hfree : NotBusy r s 0x5021 0x04)
    (hlen : data.length = 8) (hbase : beNat data ≠ 0)
    (hstart : s.inOneBuffer (instOf s r.session 0x5021 0x04) (beNat data) 1 = true)
    (hsize : s.rdI 0x5021 0x05 (instOf s r.session 0x5021 0x04) ≠ 0)
    (hwhole : s.inOneBuffer (instOf s r.session 0x5021 0x04) (beNat data)
      (s.rdI 0x5021 0x05 (instOf s r.session 0x5021 0x04)) = true) :
    messageRingWrite r 0x04 data s = respond r 0 false []
      { s.enqueueRequest.wrI 0x5021 0x04 (instOf s r.session 0x5021 0x04) (beNat data) with
        mem := memZero (beNat data) 64 s.mem } := by
  have hok : ringValueOk 4 (operatorCtx r s 0x5021 0x04 data) s.enqueueRequest = true := by
    have hstart' : s.enqueueRequest.inOneBuffer (instOf s r.session 0x5021 0x04) (beNat data) 1 = true := hstart
    have hwhole' : s.enqueueRequest.inOneBuffer (instOf s r.session 0x5021 0x04) (beNat data)
      (s.enqueueRequest.rdI 0x5021 0x05 (instOf s r.session 0x5021 0x04)) = true := hwhole
    simp [ringValueOk, operatorCtx, hstart', hwhole']
  have hset : (s.enqueueRequest.wrI 0x5021 0x04 (instOf s r.session 0x5021 0x04) (beNat data)).rdI 0x5021 0x05
      (instOf s r.session 0x5021 0x04) = s.rdI 0x5021 0x05 (instOf s r.session 0x5021 0x04) :=
    rdI_wrI_other _ _ _ _ _ (by unfold objKey; omega)
  have hreset : resetRing (instOf s r.session 0x5021 0x04)
      (s.enqueueRequest.wrI 0x5021 0x04 (instOf s r.session 0x5021 0x04) (beNat data)) =
        { s.enqueueRequest.wrI 0x5021 0x04 (instOf s r.session 0x5021 0x04) (beNat data) with
          mem := memZero (beNat data) 64 s.mem } := by
    unfold resetRing
    rw [rdI_wrI_same, hset, if_neg (by simp [hbase, hsize])]
    rfl
  rw [messageRingWrite, if_neg (by decide), dictWrite, dictWriteElse_accepted h hfree (writable_ringBase hlen) hok,
    if_neg (by decide), storeWrite_uint_rw rfl rfl]
  exact congrArg (respond r 0 false []) hreset

/-- Settles O46: a write that passes is `storeArrival` and one that fails `dropArrival`, a message is `appendRecord`, and a ring
is set by `messageRingWrite_set`. -/
theorem writesAndMessagesArrive : Obligations.WritesAndMessagesArrive := by
  unfold Obligations.WritesAndMessagesArrive
  refine ⟨?stored, ?dropped, ?appended, ?refused, ?set⟩
  case stored =>
    intro s m hok
    obtain ⟨w, hstore⟩ := storeArrival_eq m s
    have hcount := rd_bump_same s 0x3202 0x05 1
    rw [exec_remoteWriteArrival, remoteWriteArrival_stored hok, hstore]
    refine ⟨_, done_eq (bump_pending s 0x3202 0x05 1), ?_, fun a ha => ?_, (rd_congr (answerTo_obj ..) ..).trans hcount,
      answerTo_out (bump_fab s 0x3202 0x05 1) (bump_out s 0x3202 0x05 1) .., answerTo_table ..⟩
    · rw [answerTo_mem]
      exact (memReadN_memWriteN _ _ (Nat.le_refl _) _).trans (List.take_length ..)
    · rw [answerTo_mem]
      exact memRead_memWriteN_outside ha _
  case dropped =>
    intro s m hbad
    obtain ⟨w, hdrop⟩ := dropArrival_eq m s
    have hcount := rd_bump_same s 0x3202 0x04 1
    rw [exec_remoteWriteArrival, remoteWriteArrival_dropped hbad, hdrop]
    exact ⟨_, done_eq (bump_pending s 0x3202 0x04 1), answerTo_mem .., (rd_congr (answerTo_obj ..) ..).trans hcount,
      answerTo_out (bump_fab s 0x3202 0x04 1) (bump_out s 0x3202 0x04 1) .., answerTo_table ..⟩
  case appended =>
    intro s m base len hring hleast hmost hfits hroom
    have hplace : base + 64 ≤ base + 64 + s.ringWord base 0 % (len - 64) := Nat.le_add_right ..
    rw [exec_messageArrival, messageArrival_appended hring hleast hmost hfits hroom]
    refine ⟨_, done_eq ((answerTo_pending ..).trans (appendRecord_pending ..)), ?_, ?_, ?_, ?_, fun a h1 h2 => ?_,
      answerTo_out (appendRecord_fab ..) (appendRecord_out ..) .., (answerTo_obj ..).trans (appendRecord_obj ..)⟩
    · rw [answerTo_mem]
      exact appendRecord_record hplace
    · rw [answerTo_ringWord]
      exact appendRecord_produced hplace
    · rw [answerTo_ringWord]
      exact appendRecord_counted hplace
    · rw [answerTo_ringWord]
      exact appendRecord_consumed hplace
    · rw [answerTo_mem]
      exact appendRecord_outside hplace h1 h2
  case refused =>
    intro s m hring
    rw [exec_messageArrival, messageArrival_refused hring]
    exact ⟨_, done_eq (bump_pending s 0x3202 0x07 1), answerTo_mem .., (rd_congr (answerTo_obj ..) ..).trans (rd_bump_same ..),
      answerTo_out (bump_fab s 0x3202 0x07 1) (bump_out s 0x3202 0x07 1) ..⟩
  case set =>
    intro r data s hop hfree hlen hbase hstart hsize hwhole
    have hrd : (State.rdI { s.enqueueRequest.wrI 0x5021 0x04 (instOf s r.session 0x5021 0x04) (beNat data) with
        mem := memZero (beNat data) 64 s.mem } 0x5021 0x04 (instOf s r.session 0x5021 0x04)) = beNat data :=
      rdI_wrI_same ..
    rw [exec_messageRingWrite, messageRingWrite_set hop hfree hlen hbase hstart hsize hwhole]
    refine ⟨_, done_eq (respond_pending ..), answers_respond .., ?_, fun i hi => ?_, fun a ha => ?_⟩
    · exact (rdI_respond_context _ _ _ _ _ (by decide)).trans hrd
    · rw [respond_mem]
      exact memRead_memZero_inside (by omega) (by omega) _
    · rw [respond_mem]
      exact memRead_memZero_outside (by omega) _

end Sys2Proof.Machine
end

section
/-! Granules, buffers and the scrubber (R178, R202, R458, R465), and the reset of a context (R227, R461 to R463). -/

namespace Sys2Proof.Machine
open Sys2Proof

/-! ## Granules and buffers (R202, R465) -/

theorem exec_granuleZero (g : Nat) (s : State) : exec (.granuleZero g) s = done s (granuleZero g s) := rfl

theorem exec_bufferLeaseExpiry (ctx base : Nat) (s : State) :
    exec (.bufferLeaseExpiry ctx base) s = doneQuiet s (bufferLeaseExpiry ctx base s) := rfl

/-- A granule that waits is zeroed and waits no more (R202). -/
theorem granuleZero_waiting {s : State} {g : Nat} (h : s.granZero.contains g = true) : granuleZero g s =
    { s with mem := memZero (granuleAddr g) 65536 s.mem, granZero := s.granZero.filter (· ≠ g) } := if_pos h

/-- A buffer freed is gone, its granules wait, and beside the DMA engines only the objects of its context's ring change (R202). -/
theorem freeBuf_eq (b : Buf) (s : State) : ∃ u, SameButObj s u ∧
    (∀ {i k}, i < 65536 → i ≠ 0x5021 → k < 256 → u.rd i k = s.rd i k) ∧
    freeBuf b s = stopRuns (touches b) { u with bufs := s.bufs.filter (· ≠ b), granZero := s.granZero ++ b.granules } := by
  unfold freeBuf
  extract_lets u
  have hkey {i k : Nat} (hi : i < 65536) (hne : i ≠ 0x5021) (hk : k < 256) (j n : Nat) (hj : j < 256) :
      objKey i k 0 ≠ objKey 0x5021 j n := fun h => hne (objKey_inj hi hk (by decide) hj h).1
  have hsame : SameButObj s u := .ite (((SameButObj.refl s).wrI ..).wrI ..) (.refl s)
  refine ⟨u, hsame, fun hi hne hk => ?_, ?_⟩
  · unfold u
    split_ifs
    · exact (rdI_wrI_other _ _ _ _ _ (hkey hi hne hk _ _ (by decide))).trans
        (rdI_wrI_other _ _ _ _ _ (hkey hi hne hk _ _ (by decide)))
    · rfl
  · rw [hsame]

theorem freeBuf_table (b : Buf) (s : State) : (freeBuf b s).table = s.table := by
  obtain ⟨u, hu, -, h⟩ := freeBuf_eq b s
  rw [h]
  exact hu.table

theorem freeBuf_bufs (b : Buf) (s : State) : (freeBuf b s).bufs = s.bufs.filter (· ≠ b) := by
  obtain ⟨u, -, -, h⟩ := freeBuf_eq b s
  rw [h]
  rfl

theorem freeBuf_granZero (b : Buf) (s : State) : (freeBuf b s).granZero = s.granZero ++ b.granules := by
  obtain ⟨u, -, -, h⟩ := freeBuf_eq b s
  rw [h]
  rfl

theorem rd_freeBuf {i k : Nat} (hi : i < 65536) (hne : i ≠ 0x5021) (hk : k < 256) (b : Buf) (s : State) :
    (freeBuf b s).rd i k = s.rd i k := by
  obtain ⟨u, -, hrd, h⟩ := freeBuf_eq b s
  rw [h]
  exact (rd_congr (s := u) rfl i k).trans (hrd hi hne hk)

/-- The lease of a buffer that has been idle for 16 boundaries ends and is counted (R465). -/
theorem bufferLeaseExpiry_due {s : State} {b : Buf} (h : s.bufs.find? (fun x => x.ctx = b.ctx && x.base = b.base) = some b)
    (hdue : b.live + 16 * s.frameLen ≤ s.beat) :
    bufferLeaseExpiry b.ctx b.base s = freeBuf b ((s.late (b.live + 16 * s.frameLen)).bump 0x7001 0x08 1) := by
  simp [bufferLeaseExpiry, forfeit, h, Nat.not_lt.mpr hdue]

/-! ## The request of a context reset (R461) -/

/-- The row of the context resets in the dictionary (R461). -/
def contextResetRow : ObjRow := ⟨0x7003, 0x7003, 0x02, 0x02, .uint, 2, .wo, 0, 0, 1023⟩

/-- The operator may write any context there (R461). -/
theorem writable_contextReset {data : Bytes} (h : data.length = 2) (hctx : beNat data ≤ 1023) :
    Writable 0x7003 0x02 contextResetRow data where
  sub_ne := by decide
  row_eq := by decide +kernel
  admits := rfl
  right := fun _ _ _ => by simp [rights]
  type := by simp [typeBad, contextResetRow, h]
  range := by
    have hrange : ¬(beNat data < 0 ∨ 1023 < beNat data) := by omega
    simp only [rangeBad, contextResetRow, hrange, decide_false, reduceCtorEq, if_false]
  mailbox := rfl

theorem exec_contextResetRequest (r : DictReq) (data : Bytes) (s : State) : exec (.contextResetRequest r data) s = doneQuiet s
    (dictWriteElse r 0x7003 0x02 data (fun _ _ => true) (fun _ c s => resetContextCause c.value false s) (fun _ s => s) s) := rfl

/-- A scheduled command is held under the next multicast number (R334). -/
theorem sendSched_eq (m : SchedMsg) (s : State) : ∃ f o out, sendSched m s = { s with fab := f, obj := o, out := out } ∧
    f.scheds = s.fab.scheds ++ [{ m with mcnum := s.fab.mcNext }] := by
  unfold sendSched State.takeMcnum
  dsimp -zeta only
  extract_lets m' t
  split
  · exact ⟨_, _, _, rfl, rfl⟩
  · exact ⟨_, _, _, rfl, rfl⟩

/-- The head answers a cause of a context reset with the command that acts at e (R334, R461). -/
theorem resetContextCause_head {s : State} (hhead : s.isHead = true) (ctx : Nat) (byFault : Bool) :
    ∃ f o out x m, resetContextCause ctx byFault s = { s with fab := f, obj := o, out := out, faults := x } ∧ m ∈ f.scheds ∧
      m.cmd = 7 ∧ m.target = ctx ∧ m.effect = s.beat + s.rd 0x3202 0x02 + 1 := by
  have hhead' : State.isHead { s with faults := { s.faults with ctxResets := s.faults.ctxResets ++ [(ctx, byFault)] } } = true :=
    hhead
  unfold resetContextCause headCommand
  simp only [hhead', Bool.true_or, if_true]
  obtain ⟨f, o, out, h, hscheds⟩ := sendSched_eq _ _
  rw [h]
  exact ⟨f, o, out, _, _, rfl, by rw [hscheds]; exact List.mem_append_right _ (List.mem_singleton_self _), rfl, rfl, rfl⟩

/-! ## The scrubber (R178, R458) -/

theorem exec_patrolScrub (mat : Option Nat) (a : Nat) (found : ScrubFound) (s : State) :
    exec (.patrolScrub mat a found) s = doneQuiet s (patrolScrub mat a found s) := rfl

theorem patrolScrub_corrected {s : State} {a : Nat} (h : s.pool.used.contains (a / 65536) = true) :
    patrolScrub none a .corrected s = s.bump 0x6001 0x07 1 := by
  simp only [patrolScrub, h, Bool.true_or, if_true]

/-- A section of the image is to be fetched again (R458). -/
def askRefetch (m a : Nat) (s : State) : State := { s with load := { s.load with refetch := some (m, a) } }

@[simp] theorem askRefetch_obj (m a : Nat) (s : State) : (askRefetch m a s).obj = s.obj := rfl
@[simp] theorem askRefetch_table (m a : Nat) (s : State) : (askRefetch m a s).table = s.table := rfl

/-- An uncorrectable word of the shadow is counted and logged, and its section is to be fetched again (R458). -/
theorem patrolScrub_lost (m a : Nat) (s : State) : ∃ r, patrolScrub (some m) a .uncorrectable s =
    (askRefetch m a ((s.bump 0x7001 0x01 1).bump 0x7001 0x04 1)).log r := ⟨_, rfl⟩

theorem rd_log {i u : Nat} (h : objKey i u 0 ≠ objKey 0x7000 0x02 0) (s : State) (r : FaultRec) :
    (s.log r).rd i u = s.rd i u := by
  unfold State.log
  split_ifs
  · rfl
  · exact rd_bump_other _ _ _ _ h

section
variable (s : State) (r : FaultRec)

@[simp] theorem log_table : (s.log r).table = s.table := by unfold State.log; split_ifs <;> simp
@[simp] theorem log_wins : (s.log r).wins = s.wins := by unfold State.log; split_ifs <;> simp
@[simp] theorem log_load : (s.log r).load = s.load := by unfold State.log; split_ifs <;> simp
@[simp] theorem log_power : (s.log r).power = s.power := by unfold State.log; split_ifs <;> simp
@[simp] theorem log_count : (s.log r).count = s.count := by unfold State.log; split_ifs <;> simp

end

/-! ## The reset of a context (R227, R461 to R463) -/

theorem exec_contextReset (n : Nat) (s : State) : exec (.contextReset n) s = doneQuiet s (contextReset n s) := rfl

/-- What the end of a context's entries leaves alone: windows, count and straps, the region's objects and the count of resets. -/
structure ResetKeeps (s t : State) : Prop where
  wins : t.wins = s.wins
  count : t.count = s.count
  power : t.power = s.power
  rd : ∀ {i u}, i < 0x5000 ∧ u < 256 ∨ i = 0x7001 ∧ u = 5 → t.rd i u = s.rd i u

namespace ResetKeeps
variable {s t u : State}

theorem refl (s : State) : ResetKeeps s s := ⟨rfl, rfl, rfl, fun _ => rfl⟩

theorem trans (h : ResetKeeps s t) (k : ResetKeeps t u) : ResetKeeps s u :=
  ⟨k.wins.trans h.wins, k.count.trans h.count, k.power.trans h.power, fun hi => (k.rd hi).trans (h.rd hi)⟩

/-- The head and the tail of a region stay what they are. -/
theorem keepsEntries (h : ResetKeeps s t) (hs : KeepsEntries s) : KeepsEntries t := by
  have hreg := h.rd (i := 0x3101) (u := 0x09) (.inl (by decide))
  have hhead := h.rd (i := 0x3101) (u := 0x0A) (.inl (by decide))
  have htail := h.rd (i := 0x3101) (u := 0x0B) (.inl (by decide))
  unfold KeepsEntries State.isHead State.isTail State.hasRegion State.headPos State.tailPos State.pos at *
  rwa [hreg, hhead, htail, h.power]

end ResetKeeps

theorem resetKeeps_bump (s : State) {i u : Nat} (hi : 0x5000 ≤ i) (hu : u < 256) (hne : i ≠ 0x7001 ∨ u ≠ 5) (n : Nat) :
    ResetKeeps s (s.bump i u n) := by
  refine ⟨bump_wins .., bump_count .., bump_power .., fun hj => rd_bump_other _ _ _ _ ?_⟩
  unfold objKey
  omega

theorem resetKeeps_log (s : State) (r : FaultRec) : ResetKeeps s (s.log r) := by
  refine ⟨log_wins .., log_count .., log_power .., fun hj => rd_log ?_ ..⟩
  unfold objKey
  omega

/-- The records of a context's sample are logged (R463). -/
theorem resetKeeps_logSample (ctx : Nat) (s : State) : ResetKeeps s (logSample ctx s) ∧ (logSample ctx s).table = s.table := by
  unfold logSample
  refine List.foldlRecOn (motive := fun t => ResetKeeps s t ∧ t.table = s.table) _ _
    ⟨resetKeeps_log .., log_table ..⟩ fun t ht p _ => ?_
  exact ⟨ht.1.trans (resetKeeps_log ..), (log_table ..).trans ht.2⟩

theorem resetKeeps_countFinal (e : Entry) (flags : Nat) (s : State) :
    ResetKeeps s (countFinal e flags s) ∧ (countFinal e flags s).table = s.table := by
  unfold countFinal
  extract_lets t
  have ht : ResetKeeps s t := resetKeeps_bump s (by omega) (by decide) (.inr (by decide)) 1
  split_ifs
  · exact ⟨(ht.trans (resetKeeps_bump t (by decide) (by decide) (.inl (by decide)) 1)).trans
      (resetKeeps_bump _ (by omega) (by decide) (.inr (by decide)) 1), by simp [t]⟩
  · exact ⟨ht, by simp [t]⟩

/-- At the head or the tail an ended entry keeps its place in the new state (R269). -/
structure EntryEnds (q state : Nat) (s t : State) : Prop where
  keeps : ResetKeeps s t
  ended : (t.entry q).state = state
  others : ∀ p, p ≠ q → t.entry p = s.entry p

theorem entryEnds_finishEntry {s : State} (h : KeepsEntries s) (q state status flags : Nat) :
    EntryEnds q state s (finishEntry q state status flags s) := by
  unfold finishEntry
  extract_lets e fl s1 s2 s3
  obtain ⟨h1, htable1⟩ := resetKeeps_countFinal e fl s
  have h2 : ResetKeeps s s2 := ⟨h1.wins, h1.count, h1.power, h1.rd⟩
  have h3 : ResetKeeps s s3 := by
    unfold s3
    split_ifs
    · exact ⟨h2.wins, h2.count, h2.power, h2.rd⟩
    · exact h2
  have htable3 : s3.table = s2.table := by
    unfold s3
    split_ifs <;> rfl
  have hends : (s3.isHead || s3.isTail) = true := by simpa [KeepsEntries] using h3.keepsEntries h
  rw [if_pos hends]
  refine ⟨h3, ?_, fun p hp => ?_⟩
  · rw [entry_congr htable3, entry_putEntry_same]
  · rw [entry_congr htable3, entry_putEntry_other _ _ _ hp, entry_congr htable1]

theorem resetKeeps_leaveOut (q : Nat) (s : State) : ResetKeeps s (leaveOut q s) ∧ (leaveOut q s).table = s.table := by
  unfold leaveOut
  split_ifs
  · exact ⟨⟨rfl, rfl, rfl, fun _ => rfl⟩, rfl⟩
  · exact ⟨.refl s, rfl⟩

/-- An entry left out of its step and ended as FAULTED (R461). -/
theorem entryEnds_fault {s : State} (h : KeepsEntries s) (q : Nat) : EntryEnds q 6 s (finishEntry q 6 6 0 (leaveOut q s)) := by
  obtain ⟨hkeeps, htable⟩ := resetKeeps_leaveOut q s
  obtain ⟨hfin, hended, hothers⟩ := entryEnds_finishEntry (hkeeps.keepsEntries h) q 6 6 0
  exact ⟨hkeeps.trans hfin, hended, fun p hp => (hothers p hp).trans (entry_congr htable p)⟩

/-- Every entry of a list ends as FAULTED, and no other (R461). -/
theorem foldl_fault_entries (qs : List Nat) (q : Nat) {s : State} (h : KeepsEntries s) :
    ResetKeeps s (qs.foldl (fun s q => finishEntry q 6 6 0 (leaveOut q s)) s) ∧
      ((s.entry q).state = 6 ∨ q ∈ qs → ((qs.foldl (fun s q => finishEntry q 6 6 0 (leaveOut q s)) s).entry q).state = 6) := by
  induction qs generalizing s with
  | nil => exact ⟨.refl s, fun hq => hq.resolve_right List.not_mem_nil⟩
  | cons p ps ih =>
    obtain ⟨hkeeps, hended, hothers⟩ := entryEnds_fault h p
    obtain ⟨hrest, hall⟩ := ih (hkeeps.keepsEntries h)
    refine ⟨hkeeps.trans hrest, fun hq => hall ?_⟩
    by_cases hp : q = p
    · exact .inl (hp ▸ hended)
    · rw [hothers q hp]
      exact hq.imp_right fun hmem => (List.mem_cons.mp hmem).resolve_left hp

/-- What is read of a store, where it is not the default, stands in it. -/
theorem mem_of_sget {α : Type} {d v : α} {k : Nat} {l : List (Nat × α)} (h : sget d k l = v) (hd : v ≠ d) : (k, v) ∈ l := by
  induction l with
  | nil => exact absurd h.symm hd
  | cons c l ih =>
    obtain ⟨j, w⟩ := c
    unfold sget at h
    split_ifs at h with hj
    · subst hj h
      exact List.mem_cons_self ..
    · exact List.mem_cons_of_mem _ (ih h)

theorem mem_entriesWhere {s : State} {p : Entry → Bool} {q : Nat} (hp : p (s.entry q) = true) (hfree : s.entry q ≠ Entry.free) :
    q ∈ s.entriesWhere p := by
  have hmem : (q, s.entry q) ∈ s.table := mem_of_sget rfl hfree
  exact List.mem_map.mpr ⟨_, List.mem_filter.mpr ⟨hmem, hp⟩, rfl⟩

/-! ### Its windows and buffers -/

/-- A close leaves all but the windows. -/
theorem closeWin_eq (w : Nat) (s : State) : ∃ l, closeWin w s = { s with wins := l } := by
  unfold closeWin
  split_ifs
  · exact ⟨_, rfl⟩
  · exact ⟨s.wins, rfl⟩

/-- A slot that is not OPEN is left as it is by every close (R223). -/
theorem win_closeWin_closed {w v : Nat} {s : State} (h : (s.win w).state ≠ 1) : (closeWin v s).win w = s.win w := by
  unfold closeWin
  split_ifs with hv
  · refine win_modWin_other _ _ _ fun hwv => h (hwv ▸ hv)
  · rfl

theorem win_foldl_closeWin_closed {w : Nat} (l : List Nat) {s : State} (h : (s.win w).state ≠ 1) :
    (l.foldl (fun s w => closeWin w s) s).win w = s.win w := by
  induction l generalizing s with
  | nil => rfl
  | cons v l ih =>
    have hv := win_closeWin_closed (v := v) h
    rw [List.foldl_cons, ih (by rwa [hv]), hv]

/-- Each OPEN slot of a list closes at the present beat (R223, R227). -/
theorem win_foldl_closeWin {w : Nat} (l : List Nat) {s : State} (hmem : w ∈ l) (h : (s.win w).state = 1) :
    (l.foldl (fun s w => closeWin w s) s).win w = closeSlot s.beat (s.rd 0x3202 0x03) (s.win w) := by
  induction l generalizing s with
  | nil => exact absurd hmem List.not_mem_nil
  | cons v l ih =>
    rw [List.foldl_cons]
    by_cases hv : w = v
    · subst hv
      have hclosed : (closeWin w s).win w = closeSlot s.beat (s.rd 0x3202 0x03) (s.win w) := by
        rw [closeWin_open h, win_modWin_same]
      rw [win_foldl_closeWin_closed l (by simp [hclosed, closeSlot]), hclosed]
    · have hkept : (closeWin v s).win w = s.win w := by
        unfold closeWin
        split_ifs
        · exact win_modWin_other _ _ _ hv
        · rfl
      obtain ⟨x, hx⟩ := closeWin_eq v s
      have hbeat : (closeWin v s).beat = s.beat := by rw [hx]; rfl
      have hdrain : (closeWin v s).rd 0x3202 0x03 = s.rd 0x3202 0x03 := by rw [hx]; rfl
      rw [ih ((List.mem_cons.mp hmem).resolve_left hv) (by rwa [hkept]), hbeat, hdrain, hkept]

theorem freeAfterDrain_table (ctx : Nat) (s : State) : (freeAfterDrain ctx s).table = s.table := by
  unfold freeAfterDrain
  split_ifs
  · rfl
  · exact List.foldlRecOn (motive := fun t : State => t.table = s.table) _ _ rfl fun t ht b _ => (freeBuf_table b t).trans ht

theorem rd_freeAfterDrain {i k : Nat} (hi : i < 65536) (hne : i ≠ 0x5021) (hk : k < 256) (ctx : Nat) (s : State) :
    (freeAfterDrain ctx s).rd i k = s.rd i k := by
  unfold freeAfterDrain
  split_ifs
  · rfl
  · exact List.foldlRecOn (motive := fun t : State => t.rd i k = s.rd i k) _ _ rfl fun t ht b _ =>
      (rd_freeBuf hi hne hk b t).trans ht

/-- The OPEN windows of a context. -/
def openSlots (ctx : Nat) (s : State) : List Nat := (s.wins.filter fun w => w.2.state = 1 && w.2.ctx = ctx).map (·.1)

/-- What a context's reset makes of its windows, descriptors and buffers (R227). -/
structure ContextReleased (ctx : Nat) (s t : State) : Prop where
  table : t.table = s.table
  wins : t.wins = ((openSlots ctx s).foldl (fun s w => closeWin w s) s).wins
  rd : ∀ {i k}, i < 65536 → i ≠ 0x5021 → k < 256 → t.rd i k = s.rd i k

theorem contextReleased_releaseContext (ctx : Nat) (s : State) : ContextReleased ctx s (releaseContext ctx s) := by
  obtain ⟨l, hl⟩ : ∃ l, (openSlots ctx s).foldl (fun s w => closeWin w s) s = { s with wins := l } := by
    refine List.foldlRecOn (motive := fun t : State => ∃ l, t = { s with wins := l }) _ _ ⟨s.wins, rfl⟩ ?_
    rintro t ⟨l, rfl⟩ w -
    obtain ⟨l', h⟩ := closeWin_eq w { s with wins := l }
    exact ⟨l', h⟩
  have htable : ((openSlots ctx s).foldl (fun s w => closeWin w s) s).table = s.table := by rw [hl]
  have hobj : ((openSlots ctx s).foldl (fun s w => closeWin w s) s).obj = s.obj := by rw [hl]
  unfold releaseContext
  exact ⟨(freeAfterDrain_table ..).trans htable, freeAfterDrain_wins ..,
    fun hi hne hk => (rd_freeAfterDrain hi hne hk ..).trans (rd_congr hobj ..)⟩

theorem mem_openSlots {s : State} {w ctx : Nat} (hopen : (s.win w).state = 1) (hctx : (s.win w).ctx = ctx) :
    w ∈ openSlots ctx s := by
  have hne : s.win w ≠ Win.free := fun h => by simp [h, Win.free] at hopen
  have hmem : (w, s.win w) ∈ s.wins := mem_of_sget rfl hne
  exact List.mem_map.mpr ⟨_, List.mem_filter.mpr ⟨hmem, by simp [hopen, hctx]⟩, rfl⟩

/-- The count of resets by errors is the record of faults' alone (R467). -/
theorem countFaultReset_eq (s : State) : ∃ x, countFaultReset s = { s with faults := x } := by
  unfold countFaultReset
  extract_lets t
  split_ifs
  · exact ⟨_, rfl⟩
  · exact ⟨_, rfl⟩

/-- So is the whole account of a reset that has acted. -/
theorem accountReset_eq (byFault : Bool) (x : Faults) (s : State) :
    ∃ y, (if byFault then countFaultReset { s with faults := x } else { s with faults := x }) = { s with faults := y } := by
  obtain ⟨y, hy⟩ := countFaultReset_eq { s with faults := x }
  cases byFault with
  | false => exact ⟨x, rfl⟩
  | true => exact ⟨y, hy⟩

/-- A context reset as it acts: its entries end, it is counted, and its OPEN windows close (R227, R461, R462). -/
structure ContextEnds (ctx : Nat) (s t : State) : Prop where
  entries : ∀ q, 1 ≤ (s.entry q).state → (s.entry q).state ≤ 4 → (s.entry q).context = ctx → (t.entry q).state = 6
  counted : Counted s t 0x7001 0x05 1
  windows : ∀ w, (s.win w).state = 1 → (s.win w).ctx = ctx → (t.win w).state = 2 ∧ (t.win w).close = s.beat

theorem contextEnds_resetContext {s : State} (h : KeepsEntries s) (ctx : Nat) : ContextEnds ctx s (resetContext ctx s) := by
  unfold resetContext
  extract_lets byFault s1 qs s2 s3 faults s4
  obtain ⟨hk1, htable1⟩ := resetKeeps_logSample ctx s
  have hended (q : Nat) := foldl_fault_entries qs q (hk1.keepsEntries h)
  have hk2 : ResetKeeps s s2 := hk1.trans (hended 0).1
  obtain ⟨htable3, hwins3, hrd3⟩ := contextReleased_releaseContext ctx s2
  obtain ⟨x, hx⟩ := accountReset_eq byFault { faults with ctxResets := faults.ctxResets.filter fun x => x.1 ≠ ctx } s3
  rw [hx]
  have htable : s3.table = s2.table := (bump_table ..).trans htable3
  have hwins : s3.wins = ((openSlots ctx s2).foldl (fun s w => closeWin w s) s2).wins := (bump_wins ..).trans hwins3
  have hcount : s3.rd 0x7001 0x05 = (s.rd 0x7001 0x05 + 1) % objModulus 0x7001 0x05 := by
    rw [rd_bump_same, hrd3 (by decide) (by decide) (by decide), hk2.rd (.inr ⟨rfl, rfl⟩)]
  clear_value s3
  refine ⟨fun q hleast hmost hctx => ?_, hcount, fun w hopen hctx => ?_⟩
  · have hentry : s1.entry q = s.entry q := entry_congr htable1 q
    have hmem : q ∈ qs := by
      refine mem_entriesWhere ?_ fun hfree => ?_
      · have h0 : (s.entry q).state ≠ 0 := by omega
        have h5 : (s.entry q).state ≠ 5 := by omega
        have h6 : (s.entry q).state ≠ 6 := by omega
        simp [hentry, live, h0, h5, h6, hctx]
      · rw [← hentry, hfree] at hleast
        exact absurd hleast (by decide)
    exact (congrArg Entry.state (entry_congr htable q)).trans ((hended q).2 (.inr hmem))
  · have hwin : s2.win w = s.win w := win_congr hk2.wins w
    have hclosed := win_foldl_closeWin (openSlots ctx s2) (mem_openSlots (hwin ▸ hopen) (hwin ▸ hctx)) (hwin ▸ hopen)
    rw [beat_congr hk2.count] at hclosed
    have hlast := (win_congr hwins w).trans hclosed
    exact ⟨congrArg Win.state hlast, congrArg Win.close hlast⟩

/-- The command that acts is taken from those that are held, and answered by a member other than the head (R284, R334). -/
theorem takeSched_due {s : State} {m : SchedMsg} (h : DueNow s m) :
    ∃ f o, takeSched m.msgnum m.cmd s = some (m, { s with fab := f, out := o }) := by
  unfold DueNow at h
  unfold takeSched
  rw [h]
  dsimp only
  split_ifs
  · exact ⟨_, _, rfl⟩
  · exact ⟨_, _, rfl⟩

/-- Settles O36: each command by what its operation makes of the state, the reset of a context by `contextEnds_resetContext`. -/
theorem contextsAreResetAndMemoryIsScrubbed : Obligations.ContextsAreResetAndMemoryIsScrubbed := by
  unfold Obligations.ContextsAreResetAndMemoryIsScrubbed
  refine ⟨?granule, ?lease, ?request, ?reset, ?corrected, ?lost⟩
  case granule =>
    intro s g hwaits
    rw [exec_granuleZero, granuleZero_waiting hwaits]
    exact ⟨_, done_eq rfl, fun i hi => memRead_memZero_inside (by omega) (by omega) _, fun a ha => memRead_memZero_outside ha _,
      by simp, rfl, rfl, rfl⟩
  case lease =>
    intro s b hfind hdue
    rw [exec_bufferLeaseExpiry]
    obtain ⟨t, he, ht⟩ := doneQuiet_effect s (bufferLeaseExpiry b.ctx b.base s)
    have hcount : t.rd 0x7001 0x08 = (s.rd 0x7001 0x08 + 1) % objModulus 0x7001 0x08 := by
      rw [rd_congr ht.obj, bufferLeaseExpiry_due hfind hdue, rd_freeBuf (by decide) (by decide) (by decide), rd_bump_same,
        rd_late (by decide)]
    refine ⟨t, he, ?_, ?_, hcount, ?_, ht.mem⟩
    · rw [ht.bufs, bufferLeaseExpiry_due hfind hdue, freeBuf_bufs, bump_bufs, late_bufs]
    · rw [ht.granZero, bufferLeaseExpiry_due hfind hdue, freeBuf_granZero, bump_granZero, late_granZero]
    · rw [ht.table, bufferLeaseExpiry_due hfind hdue, freeBuf_table, bump_table, late_table]
  case request =>
    intro r data s hop hfree hlen hctx hhead
    obtain ⟨f, o, out, x, m, hcause, hmem, hcmd, htarget, heffect⟩ :=
      resetContextCause_head (s := s.enqueueRequest) hhead (operatorCtx r s 0x7003 0x02 data).value false
    rw [exec_contextResetRequest, dictWriteElse_accepted hop hfree (writable_contextReset hlen hctx) rfl, if_pos (by decide),
      hcause]
    obtain ⟨w, hwake⟩ := raiseWake_eq { s.enqueueRequest with fab := f, obj := o, out := out, faults := x }
    rw [hwake]
    exact ⟨_, m, doneQuiet_respond _ _ _ _ _ rfl rfl rfl rfl rfl, answers_respond .., by rwa [respond_fab], hcmd, htarget,
      heffect, respond_table .., respond_mem ..⟩
  case reset =>
    intro s m q hdue hcmd hkeeps hleast hmost hctx
    obtain ⟨f, o, htake⟩ := takeSched_due hdue
    have hreset : contextReset m.msgnum s = resetContext m.target { s with fab := f, out := o } := by
      rw [hcmd] at htake
      rw [contextReset, htake]
    obtain ⟨hentries, hcounted, hwindows⟩ := contextEnds_resetContext (s := { s with fab := f, out := o }) hkeeps m.target
    rw [exec_contextReset]
    obtain ⟨t, he, ht⟩ := doneQuiet_effect s (contextReset m.msgnum s)
    rw [hreset] at ht
    refine ⟨t, he, ?_, (rd_congr ht.obj ..).trans hcounted, ht.mem, fun w hopen hwctx => ?_⟩
    · rw [entry_congr ht.table]
      exact hentries q hleast hmost hctx
    · rw [win_congr ht.wins]
      exact hwindows w hopen hwctx
  case corrected =>
    intro s a hused
    rw [exec_patrolScrub, patrolScrub_corrected hused]
    exact doneQuiet_eq (bump_pending ..) (bump_mem ..) (bump_ringMem ..) (bump_flash ..) (bump_tap ..)
  case lost =>
    intro s m a
    obtain ⟨r, hlost⟩ := patrolScrub_lost m a s
    rw [exec_patrolScrub]
    obtain ⟨t, he, ht⟩ := doneQuiet_effect s (patrolScrub (some m) a .uncorrectable s)
    rw [hlost] at ht
    have hobj {i u : Nat} (hi : objKey i u 0 ≠ objKey 0x7000 0x02 0) :
        t.rd i u = ((s.bump 0x7001 0x01 1).bump 0x7001 0x04 1).rd i u := by
      rw [rd_congr ht.obj, rd_log hi, rd_congr (askRefetch_obj ..)]
    have hdetected : t.rd 0x7001 0x01 = (s.rd 0x7001 0x01 + 1) % objModulus 0x7001 0x01 := by
      rw [hobj (by decide), rd_bump_other _ _ _ _ (by decide), rd_bump_same]
    have hpermanent : t.rd 0x7001 0x04 = (s.rd 0x7001 0x04 + 1) % objModulus 0x7001 0x04 := by
      rw [hobj (by decide), rd_bump_same, rd_bump_other _ _ _ _ (by decide)]
    refine ⟨t, he, ?_, hdetected, hpermanent, ?_, ht.mem⟩
    · rw [ht.load, log_load]
      rfl
    · rw [ht.table, log_table, askRefetch_table, bump_table, bump_table]

end Sys2Proof.Machine
end

section
/-! The request table's shared operations: an entry that ends, the outcome of a command, and a scheduled command as it is taken (R269,
R280, R284, R334, R361). -/

namespace Sys2Proof.Machine
open Sys2Proof

/-! ## What a quiet command's answer shows -/

/-- A quiet command's answer t on s shows the effect's rings, fabric record, page pool, taken entries and count as well. -/
structure QuietRequests (s t u : State) : Prop extends QuietEffect s t u where
  rings : u.rings = t.rings
  fab : u.fab = t.fab
  pool : u.pool = t.pool
  taken : u.taken = t.taken
  count : u.count = t.count

theorem doneQuiet_requests (s t : State) : ∃ u, doneQuiet s t = .next u ∧ QuietRequests s t u :=
  ⟨_, rfl, ⟨⟨rfl, rfl, rfl, rfl, rfl, rfl, rfl⟩, rfl, rfl, rfl, rfl, rfl⟩⟩

theorem ring_congr {s t : State} (h : t.rings = s.rings) (r : Nat) : t.ring r = s.ring r := by
  unfold State.ring
  rw [h]

/-- Whether a step in flight holds an entry is a matter of the step alone (R239). -/
theorem inFlight_congr {s t : State} (h : t.fab.step = s.fab.step) (q : Nat) : t.inFlight q = s.inFlight q := by
  unfold State.inFlight
  rw [h]

/-- This device is the tail by what the region's objects and its straps say. -/
theorem isTail_congr {s t : State} (hreg : t.rd 0x3101 0x09 = s.rd 0x3101 0x09) (htail : t.rd 0x3101 0x0B = s.rd 0x3101 0x0B)
    (hpow : t.power = s.power) : t.isTail = s.isTail := by
  unfold State.isTail State.hasRegion State.tailPos State.pos
  rw [hreg, htail, hpow]

theorem ResetKeeps.isTail {s t : State} (h : ResetKeeps s t) : t.isTail = s.isTail :=
  isTail_congr (h.rd (.inl (by decide))) (h.rd (.inl (by decide))) h.power

theorem ResetKeeps.isHead {s t : State} (h : ResetKeeps s t) : t.isHead = s.isHead :=
  isHead_congr (h.rd (.inl (by decide))) (h.rd (.inl (by decide))) h.power

/-! ## An entry that ends (R269, R280) -/

/-- A final status is counted in the objects alone (R293, R294). -/
theorem sameButObj_countFinal (e : Entry) (flags : Nat) (s : State) : SameButObj s (countFinal e flags s) := by
  unfold countFinal
  extract_lets t
  have ht : SameButObj s t := (SameButObj.refl s).bump ..
  exact .ite ((ht.bump ..).bump ..) ht

/-- It is counted under the subindices 9, 11 and 12, whatever the burgee. -/
theorem rd_countFinal {i u : Nat} (hu : u < 256) (h9 : u ≠ 9) (h11 : u ≠ 11) (h12 : u ≠ 12) (e : Entry) (flags : Nat) (s : State) :
    (countFinal e flags s).rd i u = s.rd i u := by
  have hkey {j w : Nat} (hw : w < 256) (hne : u ≠ w) : objKey i u 0 ≠ objKey j w 0 := by
    unfold objKey
    omega
  unfold countFinal
  extract_lets t
  have ht : t.rd i u = s.rd i u := rd_bump_other _ _ _ _ (hkey (by decide) h11)
  split_ifs
  · rw [rd_bump_other _ _ _ _ (hkey (by decide) h12), rd_bump_other _ _ _ _ (hkey (by decide) h9), ht]
  · exact ht

/-- The final completion of an entry without a token to ride on (R280). -/
def finalCompl (q status flags : Nat) (s : State) : Compl :=
  ⟨(s.entry q).ring, 0, status, (s.entry q).tag, q, [], 0, 0, finalFlags s (s.entry q) flags, (s.entry q).committed, s.beat, true⟩

/-- The entry as its end leaves it (R269). -/
def Entry.endedAs (state : Nat) (e : Entry) : Entry := { e with state := state, ttlEnd := 0 }

/-- The end of an entry counted, and the entry in its new state. -/
def endCounted (q state flags : Nat) (s : State) : State :=
  (countFinal (s.entry q) (finalFlags s (s.entry q) flags) s).putEntry q ((s.entry q).endedAs state)

theorem resetKeeps_endCounted (q state flags : Nat) (s : State) : ResetKeeps s (endCounted q state flags s) := by
  obtain ⟨hwins, hcount, hpower, hrd⟩ := (resetKeeps_countFinal (s.entry q) (finalFlags s (s.entry q) flags) s).1
  exact ⟨hwins, hcount, hpower, hrd⟩

/-- On the tail an ended entry keeps its place, and its final completion waits on its ring (R269, R280). -/
theorem finishEntry_tail {s : State} (h : s.isTail = true) (q state status flags : Nat) : finishEntry q state status flags s =
    (endCounted q state flags s).modRing (s.entry q).ring fun r => { r with finals := r.finals ++ [finalCompl q status flags s] } := by
  have hk := resetKeeps_endCounted q state flags s
  have hbeat : s.beat = (endCounted q state flags s).beat := (beat_congr hk.count).symm
  unfold finishEntry
  extract_lets e fl s1 s2 s3
  have htail : s2.isTail = true := hk.isTail.trans h
  have h3 : s3 = _ := if_pos htail
  have hends : (s3.isHead || s3.isTail) = true := by rw [h3]; exact Bool.or_eq_true_iff.mpr (.inr htail)
  rw [if_pos hends, h3]
  unfold finalCompl
  rw [hbeat]
  rfl

theorem SameButObj.rings {s t : State} (h : SameButObj s t) : t.rings = s.rings := by rw [h]

theorem endCounted_rings (q state flags : Nat) (s : State) : (endCounted q state flags s).rings = s.rings :=
  (sameButObj_countFinal (s.entry q) (finalFlags s (s.entry q) flags) s).rings

theorem ring_finishEntry_tail {s : State} (h : s.isTail = true) (q state status flags r : Nat) :
    (finishEntry q state status flags s).ring r = if r = (s.entry q).ring then
      { s.ring r with finals := (s.ring r).finals ++ [finalCompl q status flags s] } else s.ring r := by
  rw [finishEntry_tail h]
  split_ifs with hr
  · subst hr
    rw [ring_modRing_same, ring_congr (endCounted_rings q state flags s)]
  · rw [ring_modRing_other _ _ _ hr, ring_congr (endCounted_rings q state flags s)]

/-- At the head or the tail an ended entry keeps its place; beside it only counters and the waiting completions change (R269). -/
theorem finishEntry_kept {s : State} (h : KeepsEntries s) (q state status flags : Nat) : ∃ r,
    finishEntry q state status flags s = { endCounted q state flags s with rings := r } := by
  by_cases htail : s.isTail = true
  · exact ⟨_, finishEntry_tail htail ..⟩
  · have hk := resetKeeps_endCounted q state flags s
    have htail2 : ¬(endCounted q state flags s).isTail = true := by rwa [hk.isTail]
    have hends : ((endCounted q state flags s).isHead || (endCounted q state flags s).isTail) = true := by
      simpa [KeepsEntries] using hk.keepsEntries h
    unfold finishEntry
    extract_lets e fl s1 s2 s3
    have h3 : s3 = endCounted q state flags s := if_neg htail2
    rw [h3, if_pos hends]
    exact ⟨_, rfl⟩

/-- Nothing but objects, the request table, the rings' records and the page pool differs. -/
def SameButRequests (s t : State) : Prop := t = { s with obj := t.obj, table := t.table, rings := t.rings, pool := t.pool }

namespace SameButRequests
variable {s t u : State}

theorem refl (s : State) : SameButRequests s s := rfl

theorem trans (h : SameButRequests s t) (k : SameButRequests t u) : SameButRequests s u := by
  unfold SameButRequests at h k ⊢
  rw [h] at k
  exact k

theorem ofObj (h : SameButObj s t) : SameButRequests s t := by
  unfold SameButObj at h
  rw [h]
  rfl

theorem ite {p : Prop} [Decidable p] (h : SameButRequests s t) (k : SameButRequests s u) :
    SameButRequests s (if p then t else u) := by
  split_ifs
  · exact h
  · exact k

theorem fab (h : SameButRequests s t) : t.fab = s.fab := by rw [h]

theorem count (h : SameButRequests s t) : t.count = s.count := by rw [h]

theorem img (h : SameButRequests s t) : t.img = s.img := by rw [h]

end SameButRequests

theorem sameButRequests_endCounted (q state flags : Nat) (s : State) : SameButRequests s (endCounted q state flags s) :=
  (SameButRequests.ofObj (sameButObj_countFinal ..)).trans rfl

section Ended
variable {s : State} (h : KeepsEntries s) (q state status flags : Nat)
include h

theorem sameButRequests_finishEntry : SameButRequests s (finishEntry q state status flags s) := by
  obtain ⟨r, hr⟩ := finishEntry_kept h q state status flags
  rw [hr]
  exact (sameButRequests_endCounted q state flags s).trans rfl

theorem entry_finishEntry_same : (finishEntry q state status flags s).entry q = (s.entry q).endedAs state := by
  obtain ⟨r, hr⟩ := finishEntry_kept h q state status flags
  rw [hr]
  exact entry_putEntry_same ..

theorem rd_finishEntry {i u : Nat} (hu : u < 256) (h9 : u ≠ 9) (h11 : u ≠ 11) (h12 : u ≠ 12) :
    (finishEntry q state status flags s).rd i u = s.rd i u := by
  obtain ⟨r, hr⟩ := finishEntry_kept h q state status flags
  rw [hr]
  exact rd_countFinal hu h9 h11 h12 ..

end Ended

/-! ## The outcome of a command (R284, R361) -/

/-- An entry but for the number of its pending commands and the members that it awaits. -/
def SameRequest (e f : Entry) : Prop := f = { e with cmdPending := f.cmdPending, awaiting := f.awaiting }

namespace SameRequest
variable {e f g : Entry}

theorem trans (h : SameRequest e f) (k : SameRequest f g) : SameRequest e g := by
  unfold SameRequest at h k ⊢
  rw [h] at k
  exact k

theorem state (h : SameRequest e f) : f.state = e.state := by rw [h]

theorem dipfrom (h : SameRequest e f) : f.dipfrom = e.dipfrom := by rw [h]

theorem restoring (h : SameRequest e f) : f.restoring = e.restoring := by rw [h]

theorem ttlEnd (h : SameRequest e f) : f.ttlEnd = e.ttlEnd := by rw [h]

theorem committed (h : SameRequest e f) : f.committed = e.committed := by rw [h]

theorem pages (h : SameRequest e f) : f.pages = e.pages := by rw [h]

theorem statePages (h : SameRequest e f) : f.statePages = e.statePages := by rw [h]

end SameRequest

/-- A command that is decided touches its entry's number of pending commands, on the head, and no other entry (R284). -/
theorem decideCmd_entries (m : SchedMsg) (op status : Nat) (s : State) :
    SameRequest (s.entry m.target) ((decideCmd m op status s).entry m.target) ∧
      ∀ q, q ≠ m.target → (decideCmd m op status s).entry q = s.entry q := by
  unfold decideCmd
  extract_lets t u
  have ht : SameRequest (s.entry m.target) (t.entry m.target) := by
    unfold t
    rw [entry_modEntry_same]
    split_ifs
    · rfl
    · rfl
  have hothers : ∀ q, q ≠ m.target → t.entry q = s.entry q := fun q hq => entry_modEntry_other _ _ _ hq
  have hu : SameRequest (s.entry m.target) (u.entry m.target) ∧ ∀ q, q ≠ m.target → u.entry q = s.entry q := by
    unfold u
    split_ifs
    · exact ⟨ht, hothers⟩
    · exact ⟨ht, hothers⟩
    · exact ⟨rfl, fun _ _ => rfl⟩
  split_ifs
  · exact hu
  · exact hu

/-- A tail that is not the head queues the command's completion and does nothing else (R361). -/
theorem decideCmd_tail {s : State} (htail : s.isTail = true) (hhead : s.isHead = false) (m : SchedMsg) (op status : Nat) :
    decideCmd m op status s = queueCmd m.ring op status m.tag m.target 0 s := by
  simp [decideCmd, htail, hhead]

/-- The completion of a command on the tail (R361, R362). -/
def cmdCompl (m : SchedMsg) (op status : Nat) (s : State) : Compl :=
  ⟨m.ring, 1, status, m.tag, m.target, [], op, 0, 0, 0, s.beat, false⟩

theorem ring_queueCmd (m : SchedMsg) (op status : Nat) (s : State) :
    (queueCmd m.ring op status m.tag m.target 0 s).ring m.ring =
      { s.ring m.ring with cmds := (s.ring m.ring).cmds ++ [cmdCompl m op status s] } := ring_modRing_same ..

/-! ## A scheduled command that is taken (R284, R334) -/

/-- Nothing but the fabric record and what was sent differs. -/
def SameButFab (s t : State) : Prop := t = { s with fab := t.fab, out := t.out }

namespace SameButFab
variable {s t u : State}

theorem trans (h : SameButFab s t) (k : SameButFab t u) : SameButFab s u := by
  unfold SameButFab at h k ⊢
  rw [h] at k
  exact k

theorem table (h : SameButFab s t) : t.table = s.table := by rw [h]

theorem entry (h : SameButFab s t) (q : Nat) : t.entry q = s.entry q := entry_congr h.table q

theorem rings (h : SameButFab s t) : t.rings = s.rings := by rw [h]

theorem ring (h : SameButFab s t) (r : Nat) : t.ring r = s.ring r := ring_congr h.rings r

theorem count (h : SameButFab s t) : t.count = s.count := by rw [h]

theorem obj (h : SameButFab s t) : t.obj = s.obj := by rw [h]

theorem resetKeeps (h : SameButFab s t) : ResetKeeps s t :=
  ⟨by rw [h], h.count, by rw [h], fun _ => rd_congr h.obj ..⟩

end SameButFab

/-- The command that acts is taken from those that are held, and the step in flight stays what it is (R284, R334). -/
theorem takeSched_taken {s : State} {m : SchedMsg} (h : DueNow s m) :
    ∃ t, takeSched m.msgnum m.cmd s = some (m, t) ∧ SameButFab s t ∧ t.fab.step = s.fab.step := by
  unfold DueNow at h
  unfold takeSched
  rw [h]
  dsimp only
  split_ifs
  · exact ⟨_, rfl, rfl, rfl⟩
  · exact ⟨_, rfl, rfl, rfl⟩

/-- A step that leaves an entry out changes the fabric record alone (R286). -/
theorem sameButFab_leaveOut (q : Nat) (s : State) : SameButFab s (leaveOut q s) := by
  unfold leaveOut
  split_ifs
  · rfl
  · rfl

/-- A request that is over is too late for its command (R286, R287). -/
theorem overFor_done {e : Entry} (h : e.state = 5) (m : SchedMsg) : overFor e m = true := by
  simp [overFor, h]

/-- A request in one of the states QUEUED to DIPPED under the command's TAG is not over (R286). -/
theorem overFor_live {e : Entry} {m : SchedMsg} (hleast : 1 ≤ e.state) (hmost : e.state ≤ 4) (htag : e.tag = m.tag) :
    overFor e m = false := by
  have h0 : e.state ≠ 0 := by omega
  have h5 : e.state ≠ 5 := by omega
  have h6 : e.state ≠ 6 := by omega
  simp [overFor, h0, h5, h6, htag]

end Sys2Proof.Machine
end

section
/-! Scheduled commands at their effect beat: ABORT, CANCEL, DIP and RESUME (R286, R287, R289, R292). -/

namespace Sys2Proof.Machine
open Sys2Proof

theorem ring_queueCmd_other {m : SchedMsg} {r : Nat} (h : r ≠ m.ring) (op status : Nat) (s : State) :
    (queueCmd m.ring op status m.tag m.target 0 s).ring r = s.ring r := ring_modRing_other _ _ _ h

theorem exec_abortEffect (n : Nat) (s : State) : exec (.abortEffect n) s = doneQuiet s (abortEffect n s) := rfl
theorem exec_cancelEffect (n : Nat) (s : State) : exec (.cancelEffect n) s = doneQuiet s (cancelEffect n s) := rfl
theorem exec_dipEffect (n : Nat) (s : State) : exec (.dipEffect n) s = doneQuiet s (dipEffect n s) := rfl
theorem exec_resumeEffect (n : Nat) (s : State) : exec (.resumeEffect n) s = doneQuiet s (resumeEffect n s) := rfl

/-- A member's word that an entry is restored touches the members that the entry awaits, on the head, and no other entry (R292). -/
theorem reportRestored_entries (q : Nat) (s : State) : SameRequest (s.entry q) ((reportRestored q s).entry q) ∧
    ∀ k, k ≠ q → (reportRestored q s).entry k = s.entry k := by
  unfold reportRestored
  split_ifs
  · exact ⟨rfl, fun _ _ => rfl⟩
  · exact ⟨by rw [entry_modEntry_same]; rfl, fun k hk => entry_modEntry_other _ _ _ hk⟩
  · exact ⟨rfl, fun _ _ => rfl⟩

/-! ## ABORT and CANCEL (R286, R287) -/

/-- An entry ended by a command on the tail: it is DONE, its final c and the command's completion d wait on their rings. -/
structure EndedByCommand (m : SchedMsg) (op status : Nat) (s t : State) (c d : Compl) : Prop where
  state : (t.entry m.target).state = 5
  finals : (t.ring (s.entry m.target).ring).finals = (s.ring (s.entry m.target).ring).finals ++ [c]
  final : c.status = status ∧ c.entry = m.target ∧ c.tokens = [] ∧ c.final = true
  cmds : (t.ring m.ring).cmds = (s.ring m.ring).cmds ++ [d]
  answer : d.op = op ∧ d.status = 16 ∧ d.tag = m.tag
  others : ∀ q, q ≠ m.target → t.entry q = s.entry q

/-- So ends an entry whose ring is not the command's. -/
theorem endedByCommand_decideCmd {s : State} {m : SchedMsg} (htail : s.isTail = true) (hhead : s.isHead = false)
    (hring : (s.entry m.target).ring ≠ m.ring) (op status : Nat) :
    ∃ c d, EndedByCommand m op status s (decideCmd m op 16 (finishEntry m.target 5 status 0 s)) c d := by
  have hkeeps : KeepsEntries s := .inr htail
  have hends := entryEnds_finishEntry hkeeps m.target 5 status 0
  have hfinals := ring_finishEntry_tail htail m.target 5 status 0 (s.entry m.target).ring
  have hcmds := ring_finishEntry_tail htail m.target 5 status 0 m.ring
  rw [if_pos rfl] at hfinals
  rw [if_neg hring.symm] at hcmds
  rw [decideCmd_tail (hends.keeps.isTail.trans htail) (hends.keeps.isHead.trans hhead)]
  generalize finishEntry m.target 5 status 0 s = u at *
  refine ⟨finalCompl m.target status 0 s, cmdCompl m op 16 u, hends.ended, ?_, ⟨rfl, rfl, rfl, rfl⟩, ?_, ⟨rfl, rfl, rfl⟩,
    hends.others⟩
  · rw [ring_queueCmd_other hring, hfinals]
  · rw [ring_queueCmd, hcmds]

section Live
variable {s : State} {m : SchedMsg} (hdue : DueNow s m) (hleast : 1 ≤ (s.entry m.target).state) (hmost : (s.entry m.target).state ≤ 4)
  (htag : (s.entry m.target).tag = m.tag)
include hdue hleast hmost htag

/-- An ABORT of a live entry ends it ABORTED, and a step in flight leaves it out (R286). -/
theorem abortEffect_live (hcmd : m.cmd = 1) :
    ∃ t, SameButFab s t ∧ abortEffect m.msgnum s = decideCmd m 3 16 (finishEntry m.target 5 2 0 t) := by
  obtain ⟨t, htake, ht, -⟩ := takeSched_taken hdue
  rw [hcmd] at htake
  unfold abortEffect
  simp only [htake, ht.entry, overFor_live hleast hmost htag, Bool.false_eq_true, if_false]
  exact ⟨_, ht.trans (sameButFab_leaveOut ..), rfl⟩

/-- A CANCEL of a live entry that no step in flight holds ends it CANCELLED (R287). -/
theorem cancelEffect_live (hcmd : m.cmd = 2) (hflight : s.inFlight m.target = false) :
    ∃ t, SameButFab s t ∧ cancelEffect m.msgnum s = decideCmd m 4 16 (finishEntry m.target 5 3 0 t) := by
  obtain ⟨t, htake, ht, hstep⟩ := takeSched_taken hdue
  rw [hcmd] at htake
  unfold cancelEffect
  simp only [htake, ht.entry, overFor_live hleast hmost htag, inFlight_congr hstep, hflight, Bool.false_eq_true, if_false]
  exact ⟨t, ht, rfl⟩

end Live

/-- An ABORT after the request's end is answered ABORT_LATE (R286). -/
theorem abortEffect_over {s : State} {m : SchedMsg} (hdue : DueNow s m) (hcmd : m.cmd = 1)
    (hover : overFor (s.entry m.target) m = true) : ∃ t, SameButFab s t ∧ abortEffect m.msgnum s = decideCmd m 3 20 t := by
  obtain ⟨t, htake, ht, -⟩ := takeSched_taken hdue
  rw [hcmd] at htake
  unfold abortEffect
  simp only [htake, ht.entry, hover, if_true]
  exact ⟨t, ht, rfl⟩

/-- The quiet command whose effect so ends an entry answers with these changes. -/
theorem endedByCommand_next {s t : State} {m : SchedMsg} (hsame : SameButFab s t) (htail : s.isTail = true)
    (hhead : s.isHead = false) (hring : (s.entry m.target).ring ≠ m.ring) (op status : Nat) :
    ∃ u c d, doneQuiet s (decideCmd m op 16 (finishEntry m.target 5 status 0 t)) = .next u ∧ (u.entry m.target).state = 5 ∧
      (u.ring (s.entry m.target).ring).finals = (s.ring (s.entry m.target).ring).finals ++ [c] ∧ c.status = status ∧
      c.entry = m.target ∧ c.tokens = [] ∧ c.final = true ∧
      (u.ring m.ring).cmds = (s.ring m.ring).cmds ++ [d] ∧ d.op = op ∧ d.status = 16 ∧ d.tag = m.tag ∧
      (∀ q, q ≠ m.target → u.entry q = s.entry q) ∧ u.mem = s.mem := by
  obtain ⟨c, d, h⟩ := endedByCommand_decideCmd (hsame.resetKeeps.isTail.trans htail) (hsame.resetKeeps.isHead.trans hhead)
    (hsame.entry m.target ▸ hring) op status
  obtain ⟨hstate, hfinals, ⟨hstatus, hentry, htokens, hfinal⟩, hcmds, ⟨hop, hok, htag⟩, hothers⟩ := h
  obtain ⟨u, hnext, hu⟩ := doneQuiet_requests s (decideCmd m op 16 (finishEntry m.target 5 status 0 t))
  simp only [hsame.entry, hsame.ring, ← ring_congr hu.rings, ← entry_congr hu.table] at hstate hfinals hcmds hothers
  exact ⟨u, c, d, hnext, hstate, hfinals, hstatus, hentry, htokens, hfinal, hcmds, hop, hok, htag, hothers, hu.mem⟩

/-! ## DIP and RESUME (R289, R292) -/

/-- An entry as a DIP leaves it, with the end of its Reserve lease (R289). -/
def Entry.dipped (ttlEnd : Nat) (e : Entry) : Entry := { e with dipfrom := if e.state = 3 then 1 else 0, state := 4, ttlEnd := ttlEnd }

/-- A DIP of an entry in PREFILL or GENERATE that no step in flight holds acts at e (R289). -/
theorem dipEffect_live {s : State} {m : SchedMsg} (hdue : DueNow s m) (hcmd : m.cmd = 3) (hflight : s.inFlight m.target = false)
    (htag : (s.entry m.target).tag = m.tag) (hstate : (s.entry m.target).state = 2 ∨ (s.entry m.target).state = 3) :
    ∃ t, SameButFab s t ∧ dipEffect m.msgnum s =
      decideCmd m 5 16 (t.modEntry m.target (Entry.dipped (s.boundaryFrom s.beat + m.ttl * s.frameLen))) := by
  obtain ⟨t, htake, ht, hstep⟩ := takeSched_taken hdue
  have hserved : ((s.entry m.target).tag ≠ m.tag || !((s.entry m.target).state = 2 || (s.entry m.target).state = 3)) = false := by
    obtain h | h := hstate
    · simp [htag, h]
    · simp [htag, h]
  have hlease : dipNow m.target m.ttl t = t.modEntry m.target (Entry.dipped (s.boundaryFrom s.beat + m.ttl * s.frameLen)) := by
    rw [ht]
    rfl
  rw [hcmd] at htake
  unfold dipEffect
  simp only [htake, ht.entry, hserved, inFlight_congr hstep, hflight, hlease, Bool.false_eq_true, if_false]
  exact ⟨t, ht, rfl⟩

/-- A resumed entry: back in the state it dipped from, without its lease, and RESTORING on the head until the members in a list have
restored its pages (R292). -/
def Entry.resumed (head : Bool) (awaiting : List Nat) (e : Entry) : Entry :=
  { e with state := if e.dipfrom = 1 then 3 else 2, restoring := head, awaiting := awaiting, ttlEnd := 0 }

/-- A RESUME of a DIPPED entry acts at e (R292). -/
theorem resumeEffect_dipped {s : State} {m : SchedMsg} (hdue : DueNow s m) (hcmd : m.cmd = 4)
    (htag : (s.entry m.target).tag = m.tag) (hstate : (s.entry m.target).state = 4) :
    ∃ t a, SameButFab s t ∧ resumeEffect m.msgnum s =
      decideCmd m 6 16 (reportRestored m.target (t.putEntry m.target ((s.entry m.target).resumed s.isHead a))) := by
  obtain ⟨t, htake, ht, -⟩ := takeSched_taken hdue
  have hserved : ((s.entry m.target).tag ≠ m.tag || (s.entry m.target).state ≠ 4) = false := by simp [htag, hstate]
  rw [hcmd] at htake
  unfold resumeEffect
  simp only [htake, ht.entry, hserved, Bool.false_eq_true, if_false, ht.resetKeeps.isHead]
  refine ⟨t, if s.isHead then t.members else (s.entry m.target).awaiting, ht, ?_⟩
  rw [Entry.resumed]

/-- Settles O14: ABORT and CANCEL by `endedByCommand_next`, an ABORT that is too late by `decideCmd_tail`, and DIP and RESUME by the
entry that they leave. -/
theorem commandsActAtTheirEffectBeat : Obligations.CommandsActAtTheirEffectBeat := by
  unfold Obligations.CommandsActAtTheirEffectBeat
  refine ⟨?abort, ?cancel, ?late, ?dip, ?resume⟩
  case abort =>
    intro s m hdue hcmd htail hhead hleast hmost htag hring
    obtain ⟨t, hsame, heffect⟩ := abortEffect_live hdue hleast hmost htag hcmd
    rw [exec_abortEffect, heffect]
    exact endedByCommand_next hsame htail hhead hring 3 2
  case cancel =>
    intro s m hdue hcmd htail hhead hflight hleast hmost htag hring
    obtain ⟨t, hsame, heffect⟩ := cancelEffect_live hdue hleast hmost htag hcmd hflight
    rw [exec_cancelEffect, heffect]
    exact endedByCommand_next hsame htail hhead hring 4 3
  case late =>
    intro s m hdue hcmd htail hhead hstate
    obtain ⟨t, hsame, heffect⟩ := abortEffect_over hdue hcmd (overFor_done hstate m)
    rw [decideCmd_tail (hsame.resetKeeps.isTail.trans htail) (hsame.resetKeeps.isHead.trans hhead)] at heffect
    obtain ⟨u, hnext, hu⟩ := doneQuiet_requests s (abortEffect m.msgnum s)
    rw [exec_abortEffect]
    rw [heffect] at hu
    refine ⟨u, cmdCompl m 3 20 t, hnext, ?_, rfl, rfl, hu.table.trans hsame.table, hu.mem⟩
    rw [ring_congr hu.rings, ring_queueCmd, hsame.ring]
  case dip =>
    intro s m hdue hcmd hflight htag hstate
    obtain ⟨t, hsame, heffect⟩ := dipEffect_live hdue hcmd hflight htag hstate
    obtain ⟨u, hnext, hu⟩ := doneQuiet_requests s (dipEffect m.msgnum s)
    rw [exec_dipEffect]
    rw [heffect] at hu
    obtain ⟨hpending, hothers⟩ := decideCmd_entries m 5 16
      (t.modEntry m.target (Entry.dipped (s.boundaryFrom s.beat + m.ttl * s.frameLen)))
    rw [entry_modEntry_same, hsame.entry, ← entry_congr hu.table] at hpending
    refine ⟨u, hnext, hpending.state, hpending.dipfrom, hpending.ttlEnd, hpending.committed, fun q hq => ?_, hu.mem⟩
    rw [entry_congr hu.table, hothers q hq, entry_modEntry_other _ _ _ hq, hsame.entry]
  case resume =>
    intro s m hdue hcmd htag hstate
    obtain ⟨t, a, hsame, heffect⟩ := resumeEffect_dipped hdue hcmd htag hstate
    obtain ⟨u, hnext, hu⟩ := doneQuiet_requests s (resumeEffect m.msgnum s)
    rw [exec_resumeEffect]
    rw [heffect] at hu
    obtain ⟨hawaiting, hkept⟩ := reportRestored_entries m.target (t.putEntry m.target ((s.entry m.target).resumed s.isHead a))
    obtain ⟨hpending, hothers⟩ := decideCmd_entries m 6 16
      (reportRestored m.target (t.putEntry m.target ((s.entry m.target).resumed s.isHead a)))
    have hentry := hawaiting.trans hpending
    rw [entry_putEntry_same, ← entry_congr hu.table] at hentry
    refine ⟨u, hnext, hentry.state, hentry.restoring, hentry.ttlEnd, hentry.committed, fun q hq => ?_, hu.mem⟩
    rw [entry_congr hu.table, hothers q hq, hkept q hq, entry_putEntry_other _ _ _ hq, hsame.entry]

end Sys2Proof.Machine
end

section
/-! Disables of burgees and contexts, and the end of a stranded entry, at their effect beat (R278, R288). -/

namespace Sys2Proof.Machine
open Sys2Proof

theorem exec_disableBurgee (n : Nat) (s : State) : exec (.disableBurgee n) s = doneQuiet s (disableBurgee n s) := rfl
theorem exec_disableContext (n : Nat) (s : State) : exec (.disableContext n) s = doneQuiet s (disableContext n s) := rfl
theorem exec_limitEnd (n : Nat) (s : State) : exec (.limitEnd n) s = doneQuiet s (limitEnd n s) := rfl

/-! ## One entry disabled (R288) -/

/-- A live entry that no step in flight holds ends as DISABLED, and a DIPPED one gives up its pages first. -/
def disableEntry (s : State) (q : Nat) : State :=
  if s.inFlight q then s else finishEntry q 5 4 0 (if (s.entry q).state = 4 then releasePages q s else s)

/-- The live entries that a disable names. -/
def disabledEntries (mine : Entry → Bool) (s : State) : List Nat :=
  s.entriesWhere fun e => live e && e.state ≠ 5 && e.state ≠ 6 && mine e

theorem disableEntries_eq (m : SchedMsg) (mine : Entry → Bool) (s : State) : disableEntries m mine s =
    (disabledEntries mine s).foldl disableEntry (if (disabledEntries mine s).any s.inFlight then deferCmd m s else s) := rfl

/-- What the disable of an entry q keeps: roles, steps in flight and other entries; it ends q where no step holds it. -/
structure Disables (q : Nat) (s t : State) : Prop where
  keeps : ResetKeeps s t
  flight : ∀ p, t.inFlight p = s.inFlight p
  others : ∀ p, p ≠ q → t.entry p = s.entry p
  ended : s.inFlight q = false → (t.entry q).state = 5

/-- Pages given up leave an entry without them, and every other entry as it was (R239). -/
def Entry.unpaged (e : Entry) : Entry := { e with pages := [], recPages := [], statePages := [], tokPages := [] }

theorem entry_releasePages_same (q : Nat) (s : State) : (releasePages q s).entry q = (s.entry q).unpaged :=
  entry_modEntry_same ..

theorem entry_releasePages_other {q k : Nat} (h : k ≠ q) (s : State) : (releasePages q s).entry k = s.entry k :=
  entry_modEntry_other _ _ _ h

theorem sameButRequests_releasePages (q : Nat) (s : State) : SameButRequests s (releasePages q s) := rfl

theorem resetKeeps_releasePages (q : Nat) (s : State) : ResetKeeps s (releasePages q s) := ⟨rfl, rfl, rfl, fun _ => rfl⟩

theorem disables_disableEntry {s : State} (h : KeepsEntries s) (q : Nat) : Disables q s (disableEntry s q) := by
  unfold disableEntry
  by_cases hflight : s.inFlight q = true
  · rw [if_pos hflight]
    exact ⟨.refl s, fun _ => rfl, fun _ _ => rfl, fun hq => absurd hflight (by simp [hq])⟩
  rw [if_neg hflight]
  generalize ht : (if (s.entry q).state = 4 then releasePages q s else s) = t
  have hkeeps : ResetKeeps s t := by
    subst ht
    split_ifs
    · exact resetKeeps_releasePages q s
    · exact .refl s
  have hsame : SameButRequests s t := by
    subst ht
    exact .ite (sameButRequests_releasePages q s) (.refl s)
  have hothers : ∀ p, p ≠ q → t.entry p = s.entry p := fun p hp => by
    subst ht
    split_ifs
    · exact entry_releasePages_other hp s
    · rfl
  have hkept := hkeeps.keepsEntries h
  obtain ⟨hfin, hended, hfinOthers⟩ := entryEnds_finishEntry hkept q 5 4 0
  have hfab := (hsame.trans (sameButRequests_finishEntry hkept q 5 4 0)).fab
  exact ⟨hkeeps.trans hfin, inFlight_congr (congrArg Fabric.step hfab), fun p hp => (hfinOthers p hp).trans (hothers p hp),
    fun _ => hended⟩

/-! ## All entries that a disable names (R288) -/

theorem foldl_disableEntry (qs : List Nat) {q : Nat} {s : State} (h : KeepsEntries s) (hflight : s.inFlight q = false)
    (hq : (s.entry q).state = 5 ∨ q ∈ qs) : ((qs.foldl disableEntry s).entry q).state = 5 := by
  induction qs generalizing s with
  | nil => exact hq.resolve_right List.not_mem_nil
  | cons p ps ih =>
    obtain ⟨hkeeps, hsteps, hothers, hended⟩ := disables_disableEntry h p
    refine ih (hkeeps.keepsEntries h) ((hsteps q).trans hflight) ?_
    by_cases hp : q = p
    · exact .inl (hp ▸ hended (hp ▸ hflight))
    · rw [hothers q hp]
      exact hq.imp_right fun hmem => (List.mem_cons.mp hmem).resolve_left hp

/-- A command that waits for the step in flight leaves what that step holds (R288). -/
theorem inFlight_deferCmd (m : SchedMsg) (s : State) (q : Nat) : (deferCmd m s).inFlight q = s.inFlight q := by
  unfold State.inFlight deferCmd
  rw [modStep_step]
  cases s.fab.step with
  | none => rfl
  | some st => rfl

theorem sameButFab_deferCmd (m : SchedMsg) (s : State) : SameButFab s (deferCmd m s) := rfl

/-- A disable ends every live entry that it names and no step in flight holds (R288). -/
theorem disableEntries_ends {s : State} (h : KeepsEntries s) (m : SchedMsg) {mine : Entry → Bool} {q : Nat}
    (hflight : s.inFlight q = false) (hleast : 1 ≤ (s.entry q).state) (hmost : (s.entry q).state ≤ 4)
    (hmine : mine (s.entry q) = true) : ((disableEntries m mine s).entry q).state = 5 := by
  have hmem : q ∈ disabledEntries mine s := by
    refine mem_entriesWhere ?_ fun hfree => ?_
    · have h0 : (s.entry q).state ≠ 0 := by omega
      have h5 : (s.entry q).state ≠ 5 := by omega
      have h6 : (s.entry q).state ≠ 6 := by omega
      simp [live, h0, h5, h6, hmine]
    · rw [hfree] at hleast
      exact absurd hleast (by decide)
  rw [disableEntries_eq]
  split_ifs
  · exact foldl_disableEntry _ ((sameButFab_deferCmd m s).resetKeeps.keepsEntries h) ((inFlight_deferCmd m s q).trans hflight)
      (.inr hmem)
  · exact foldl_disableEntry _ h hflight (.inr hmem)

/-! ## The commands -/

/-- A disable of entries that is taken at its effect beat ends an entry as it would have before (R288). -/
theorem disableEntries_taken {s t : State} {m : SchedMsg} {mine : Entry → Bool} {q : Nat} (hsame : SameButFab s t)
    (hstep : t.fab.step = s.fab.step) (h : KeepsEntries s) (hflight : s.inFlight q = false) (hleast : 1 ≤ (s.entry q).state)
    (hmost : (s.entry q).state ≤ 4) (hmine : mine (s.entry q) = true) : ∃ u, doneQuiet s (disableEntries m mine t) = .next u ∧
      (u.entry q).state = 5 ∧ u.mem = s.mem := by
  obtain ⟨u, hnext, hu⟩ := doneQuiet_requests s (disableEntries m mine t)
  refine ⟨u, hnext, ?_, hu.mem⟩
  rw [entry_congr hu.table]
  rw [← hsame.entry q] at hleast hmost hmine
  exact disableEntries_ends (hsame.resetKeeps.keepsEntries h) m ((inFlight_congr hstep q).trans hflight) hleast hmost hmine

/-- Settles O15: disables by `disableEntries_ends`, and a LIMIT_END by `entryEnds_finishEntry`. -/
theorem disablesAndLimitsEndEntries : Obligations.DisablesAndLimitsEndEntries := by
  unfold Obligations.DisablesAndLimitsEndEntries
  refine ⟨?burgee, ?context, ?limit⟩
  case burgee =>
    intro s m q hdue hcmd hkeeps hflight hleast hmost hburgee
    obtain ⟨t, htake, hsame, hstep⟩ := takeSched_taken hdue
    have heffect : disableBurgee m.msgnum s = disableEntries m (fun e => e.burgee = m.target) t := by
      rw [disableBurgee, ← hcmd, htake]
    rw [exec_disableBurgee, heffect]
    exact disableEntries_taken hsame hstep hkeeps hflight hleast hmost (decide_eq_true hburgee)
  case context =>
    intro s m q hdue hcmd hkeeps hflight hleast hmost hcontext
    obtain ⟨t, htake, hsame, hstep⟩ := takeSched_taken hdue
    have heffect : disableContext m.msgnum s = disableEntries m (fun e => e.context = m.target) t := by
      rw [disableContext, ← hcmd, htake]
    rw [exec_disableContext, heffect]
    exact disableEntries_taken hsame hstep hkeeps hflight hleast hmost (decide_eq_true hcontext)
  case limit =>
    intro s m hdue hcmd hkeeps hqueued
    obtain ⟨t, htake, hsame, -⟩ := takeSched_taken hdue
    have hleft := hsame.trans (sameButFab_leaveOut m.target t)
    have heffect : limitEnd m.msgnum s = finishEntry m.target 5 2 1024 (leaveOut m.target t) := by
      have hstate : (t.entry m.target).state = 1 := (congrArg Entry.state (hsame.entry m.target)).trans hqueued
      rw [limitEnd, ← hcmd, htake]
      exact if_neg (not_not.mpr hstate)
    obtain ⟨-, hended, hothers⟩ := entryEnds_finishEntry (hleft.resetKeeps.keepsEntries hkeeps) m.target 5 2 1024
    obtain ⟨u, hnext, hu⟩ := doneQuiet_requests s (limitEnd m.msgnum s)
    rw [exec_limitEnd]
    rw [heffect] at hu
    refine ⟨u, hnext, ?_, fun q hq => ?_, hu.mem⟩
    · rw [entry_congr hu.table, hended]
    · rw [entry_congr hu.table, hothers q hq, hleft.entry]

end Sys2Proof.Machine
end

section
/-! Commands at the head's poll: ABORT, CANCEL, DIP and RESUME are multicast, and CANDIDATES acts at once (R279, R283, R284). -/

namespace Sys2Proof.Machine
open Sys2Proof

theorem exec_abort (s : State) : exec .abort s = doneQuiet s (abort s) := rfl
theorem exec_cancel (s : State) : exec .cancel s = doneQuiet s (cancel s) := rfl
theorem exec_dip (s : State) : exec .dip s = doneQuiet s (dip s) := rfl
theorem exec_resume (s : State) : exec .resume s = doneQuiet s (resume s) := rfl
theorem exec_candidates (s : State) : exec .candidates s = doneQuiet s (candidates s) := rfl

/-! ## A command multicast by the head (R284, R334) -/

/-- What the head does for a new scheduled command m: it holds its copy and takes the next message number. -/
structure Multicasts (m : SchedMsg) (s t : State) : Prop where
  same : t = { s with fab := t.fab, obj := t.obj, out := t.out }
  scheds : t.fab.scheds = s.fab.scheds ++ [m]
  msgNext : t.fab.msgNext = (s.fab.msgNext + 1) % 0x100000000

/-- The message number is the head's, and no matter of the copy that it sends. -/
theorem sendSched_msgNext (m : SchedMsg) (s : State) : (sendSched m s).fab.msgNext = s.fab.msgNext := by
  unfold sendSched State.takeMcnum
  dsimp -zeta only
  extract_lets m' t
  split_ifs
  · rfl
  · rfl

theorem multicasts_headCommand (cmd target tag ttl ring : Nat) (s : State) :
    Multicasts ⟨s.fab.mcNext, ring, s.fab.msgNext, s.beat + (s.rd 0x3202 0x02 + 1), cmd, target, tag, ttl⟩ s
      (headCommand cmd target tag ttl ring s) := by
  unfold headCommand
  extract_lets n t
  obtain ⟨f, o, out, h, hscheds⟩ := sendSched_eq ⟨0, ring, n, t.beat + t.cmdDelay, cmd, target, tag, ttl⟩ t
  have hnext := sendSched_msgNext ⟨0, ring, n, t.beat + t.cmdDelay, cmd, target, tag, ttl⟩ t
  rw [h] at hnext ⊢
  exact ⟨rfl, hscheds, hnext⟩

/-- A command for the entry that an ingress entry names: the entry has one more command pending, and the command is multicast. -/
structure CommandSent (cmd ttl : Nat) (x : Taken) (s t : State) : Prop where
  scheds : t.fab.scheds = s.fab.scheds ++
    [⟨s.fab.mcNext, x.ring, s.fab.msgNext, s.beat + (s.rd 0x3202 0x02 + 1), cmd, x.entry, x.tag, ttl⟩]
  msgNext : t.fab.msgNext = (s.fab.msgNext + 1) % 0x100000000
  pending : (t.entry x.entry).cmdPending = (s.entry x.entry).cmdPending + 1
  state : (t.entry x.entry).state = (s.entry x.entry).state
  others : ∀ q, q ≠ x.entry → t.entry q = s.entry q
  taken : t.taken = s.taken

theorem commandSent_commandEntry (cmd ttl : Nat) (x : Taken) (s : State) : CommandSent cmd ttl x s (commandEntry cmd ttl x s) := by
  unfold commandEntry
  extract_lets t
  obtain ⟨hsame, hscheds, hnext⟩ := multicasts_headCommand cmd x.entry x.tag ttl x.ring t
  generalize headCommand cmd x.entry x.tag ttl x.ring t = u at hsame hscheds hnext
  have htable : u.table = t.table := by rw [hsame]
  have htaken : u.taken = t.taken := by rw [hsame]
  have hentry : t.entry x.entry = { s.entry x.entry with cmdPending := (s.entry x.entry).cmdPending + 1 } := entry_modEntry_same ..
  refine ⟨hscheds, hnext, ?_, ?_, fun q hq => ?_, htaken⟩
  · rw [entry_congr htable, hentry]
  · rw [entry_congr htable, hentry]
  · rw [entry_congr htable, entry_modEntry_other _ _ _ hq]

/-! ## The ingress entry in front (R283) -/

/-- The poll serves the ingress entry in front where it holds the operation. -/
theorem nextTaken_front {s : State} {x : Taken} {rest : List Taken} (h : s.taken = x :: rest) :
    nextTaken x.op s = some (x, { s with taken := rest }) := by
  simp [nextTaken, h]

section Front
variable {s : State} {x : Taken} {rest : List Taken} (h : FrontCommand s x rest)
include h

theorem abort_front (hop : x.op = 3) : abort s = commandEntry 1 0 x { s with taken := rest } := by
  obtain ⟨hfront, hnames⟩ := h
  rw [abort, ← hop, nextTaken_front hfront]
  exact if_pos hnames

theorem cancel_front (hop : x.op = 4) : cancel s = commandEntry 2 0 x { s with taken := rest } := by
  obtain ⟨hfront, hnames⟩ := h
  rw [cancel, ← hop, nextTaken_front hfront]
  exact if_pos hnames

/-- A DIP with TTL 0 takes object 0x6003:01 (R283). -/
theorem dip_front (hop : x.op = 5) :
    dip s = commandEntry 3 (if x.ttl = 0 then s.rd 0x6003 0x01 else x.ttl) x { s with taken := rest } := by
  obtain ⟨hfront, hnames⟩ := h
  rw [dip, ← hop, nextTaken_front hfront]
  exact if_pos hnames

theorem resume_front (hop : x.op = 6) : resume s = commandEntry 4 0 x { s with taken := rest } := by
  obtain ⟨hfront, hnames⟩ := h
  rw [resume, ← hop, nextTaken_front hfront]
  exact if_pos hnames

/-- CANDIDATES for an entry in GENERATE of an image without recurrent layers becomes the entry's candidate set (R279). -/
theorem candidates_front (hop : x.op = 2) (hstate : (s.entry x.entry).state = 3) (himg : recurrentLayers s.image = []) :
    candidates s = decideAtHead x.ring 2 x.tag x.entry 16 0 none
      (State.modEntry { s with taken := rest } x.entry fun e => { e with cand := some (x.base, x.tokens) }) := by
  obtain ⟨hfront, hnames⟩ := h
  have hnamed : ¬(!namesEntry { s with taken := rest } x) = true := by
    rw [Bool.not_eq_true']
    exact ne_false_of_eq_true hnames
  have hgenerate : ¬(State.entry { s with taken := rest } x.entry).state ≠ 3 := not_not.mpr hstate
  have hempty : ¬(!(recurrentLayers (State.image { s with taken := rest })).isEmpty) = true := by
    change ¬(!(recurrentLayers s.image).isEmpty) = true
    simp [himg]
  rw [candidates, ← hop, nextTaken_front hfront]
  dsimp only
  rw [if_neg hnamed, if_neg hgenerate, if_neg hempty, hop]

end Front

/-- An answer at the head leaves the request table and the entries that wait. -/
theorem decideAtHead_kept (ring op tag entry status reason : Nat) (adm : Option AdmitRec) (s : State) :
    (decideAtHead ring op tag entry status reason adm s).table = s.table ∧
      (decideAtHead ring op tag entry status reason adm s).taken = s.taken := by
  unfold decideAtHead
  extract_lets t
  have ht : t.table = s.table ∧ t.taken = s.taken := by
    unfold t
    split_ifs
    · exact ⟨bump_table .., bump_taken ..⟩
    · exact ⟨rfl, rfl⟩
  split_ifs
  · exact ht
  · exact ht

/-! ## The commands -/

/-- The command that the poll multicasts answers so (R284). -/
theorem commandEntry_next {s : State} {x : Taken} (rest : List Taken) (cmd ttl : Nat) :
    ∃ u, doneQuiet s (commandEntry cmd ttl x { s with taken := rest }) = .next u ∧ u.taken = rest ∧
      u.fab.scheds = s.fab.scheds ++
        [⟨s.fab.mcNext, x.ring, s.fab.msgNext, s.beat + (s.rd 0x3202 0x02 + 1), cmd, x.entry, x.tag, ttl⟩] ∧
      u.fab.msgNext = (s.fab.msgNext + 1) % 0x100000000 ∧
      (u.entry x.entry).cmdPending = (s.entry x.entry).cmdPending + 1 ∧ (u.entry x.entry).state = (s.entry x.entry).state ∧
      (∀ q, q ≠ x.entry → u.entry q = s.entry q) ∧ u.mem = s.mem := by
  obtain ⟨hscheds, hnext, hpending, hstate, hothers, htaken⟩ := commandSent_commandEntry cmd ttl x { s with taken := rest }
  obtain ⟨u, he, hu⟩ := doneQuiet_requests s (commandEntry cmd ttl x { s with taken := rest })
  refine ⟨u, he, hu.taken.trans htaken, ?_, ?_, ?_, ?_, fun q hq => ?_, hu.mem⟩
  · rw [hu.fab]
    exact hscheds
  · rw [hu.fab]
    exact hnext
  · rw [entry_congr hu.table]
    exact hpending
  · rw [entry_congr hu.table]
    exact hstate
  · rw [entry_congr hu.table]
    exact hothers q hq

/-- Settles O19: the four commands by `commandEntry_next`, and CANDIDATES by `candidates_front`. -/
theorem theHeadMulticastsCommands : Obligations.TheHeadMulticastsCommands := by
  unfold Obligations.TheHeadMulticastsCommands
  intro s x rest hfront
  refine ⟨fun c op cmd ttl hmem hop => ?command, fun hop hstate himg => ?cands⟩
  case command =>
    simp only [List.mem_cons, List.not_mem_nil, or_false, Prod.mk.injEq] at hmem
    obtain ⟨rfl, rfl, rfl, rfl⟩ | ⟨rfl, rfl, rfl, rfl⟩ | ⟨rfl, rfl, rfl, rfl⟩ | ⟨rfl, rfl, rfl, rfl⟩ := hmem
    · rw [exec_abort, abort_front hfront hop]
      exact commandEntry_next ..
    · rw [exec_cancel, cancel_front hfront hop]
      exact commandEntry_next ..
    · rw [exec_dip, dip_front hfront hop]
      exact commandEntry_next ..
    · rw [exec_resume, resume_front hfront hop]
      exact commandEntry_next ..
  case cands =>
    have heffect := candidates_front hfront hop hstate himg
    obtain ⟨htable, htaken⟩ := decideAtHead_kept x.ring 2 x.tag x.entry 16 0 none
      (State.modEntry { s with taken := rest } x.entry fun e => { e with cand := some (x.base, x.tokens) })
    obtain ⟨u, he, hu⟩ := doneQuiet_requests s (candidates s)
    rw [exec_candidates]
    rw [← heffect] at htable htaken
    have hentry : u.entry x.entry = { s.entry x.entry with cand := some (x.base, x.tokens) } := by
      rw [entry_congr (hu.table.trans htable), entry_modEntry_same]
      rfl
    refine ⟨u, he, ?_, ?_, fun q hq => ?_, hu.taken.trans htaken, hu.mem⟩
    · rw [hentry]
    · rw [hentry]
      exact hstate
    · rw [entry_congr (hu.table.trans htable), entry_modEntry_other _ _ _ hq]
      rfl

end Sys2Proof.Machine
end

section
/-! The pages of the KV cache: moves to the Reserve tier, expiry there, restoration, and pages set to zero (R239, R290 to R292). -/

namespace Sys2Proof.Machine
open Sys2Proof

theorem exec_reserveMove (q lane chunk : Nat) (s : State) :
    exec (.reserveMove q lane chunk) s = done s (reserveMove q lane chunk s) := rfl
theorem exec_reserveExpiry (q : Nat) (s : State) : exec (.reserveExpiry q) s = doneQuiet s (reserveExpiry q s) := rfl
theorem exec_restorePage (q lane chunk : Nat) (s : State) :
    exec (.restorePage q lane chunk) s = done s (restorePage q lane chunk s) := rfl
theorem exec_restoreReport (q member : Nat) (s : State) :
    exec (.restoreReport q member) s = doneQuiet s (restoreReport q member s) := rfl
theorem exec_pageZero (p : Nat) (s : State) : exec (.pageZero p) s = done s (pageZero p s) := rfl

/-! ## A page copied (R290) -/

theorem swfFrom_le {α : Type} [DecidableEq α] {d : α} {lo : Nat} {l : List (Nat × α)} (h : swfFrom d lo l = true) :
    ∀ c ∈ l, lo ≤ c.1 := by
  induction l generalizing lo with
  | nil => exact fun _ hc => absurd hc List.not_mem_nil
  | cons c l ih =>
    obtain ⟨j, v⟩ := c
    simp only [swfFrom, Bool.and_eq_true, decide_eq_true_eq] at h
    obtain ⟨⟨hlo, -⟩, hrest⟩ := h
    intro c hc
    obtain rfl | hc := List.mem_cons.mp hc
    · exact hlo
    · exact hlo.trans ((Nat.le_succ j).trans (ih hrest c hc))

theorem sget_of_not_listed {α : Type} (d : α) {k : Nat} {l : List (Nat × α)} (h : ∀ c ∈ l, c.1 ≠ k) : sget d k l = d := by
  induction l with
  | nil => rfl
  | cons c l ih =>
    obtain ⟨j, v⟩ := c
    rw [sget, if_neg (h _ List.mem_cons_self)]
    exact ih fun c hc => h c (List.mem_cons_of_mem _ hc)

/-- Listed bytes from an address a onward, written from an address b onward, are read there; others there read as before. -/
theorem memRead_foldl_shifted {a b i lo : Nat} {l : List Host.Cell} (hl : swfFrom memDefault lo l = true) (ha : ∀ c ∈ l, a ≤ c.1)
    (m : List Host.Cell) : memRead (l.foldl (fun m c => memWrite (b + (c.1 - a)) c.2 m) m) (b + i) =
      sget (memRead m (b + i)) (a + i) l := by
  induction l generalizing lo m with
  | nil => rfl
  | cons c l ih =>
    obtain ⟨j, v⟩ := c
    simp only [swfFrom, Bool.and_eq_true, decide_eq_true_eq] at hl
    have hj : a ≤ j := ha _ List.mem_cons_self
    rw [List.foldl_cons, ih hl.2 fun c hc => ha c (List.mem_cons_of_mem _ hc), sget]
    split_ifs with hij
    · have hplace : b + i = b + (j - a) := by omega
      rw [hplace, memRead_memWrite_same, sget_of_not_listed]
      intro c hc
      have := swfFrom_le hl.2 c hc
      omega
    · rw [memRead_memWrite_other (by omega)]

/-- A copied page reads as the page that it was copied from. -/
theorem memRead_copyPage_inside {m : List Host.Cell} (hm : Memory.wf m = true) (src dst : Nat) {i : Nat} (hi : i < 65536) :
    memRead (copyPage src dst m) (dst * 65536 + i) = memRead m (src * 65536 + i) := by
  unfold copyPage
  rw [memRead_foldl_shifted (swfFrom_filter memDefault _ hm), memRead_memZero_inside (by omega) (by omega)]
  · refine sget_filter_all memDefault _ _ m fun v => ?_
    simp only [Bool.and_eq_true, decide_eq_true_eq]
    omega
  · intro c hc
    simp only [List.mem_filter, Bool.and_eq_true, decide_eq_true_eq] at hc
    exact hc.2.1

/-- A copy leaves every byte outside the page that it is made to. -/
theorem memRead_copyPage_outside (src dst : Nat) {a : Nat} (h : a < dst * 65536 ∨ (dst + 1) * 65536 ≤ a) (m : List Host.Cell) :
    memRead (copyPage src dst m) a = memRead m a := by
  unfold copyPage
  refine List.foldlRecOn (motive := fun m' => memRead m' a = memRead m a) _ _ (memRead_memZero_outside (by omega) m) ?_
  intro m' hm' c hc
  simp only [List.mem_filter, Bool.and_eq_true, decide_eq_true_eq] at hc
  rw [memRead_memWrite_other (by omega), hm']

/-- Several bytes read alike where each of them does. -/
theorem memReadN_shifted {m m' : List Host.Cell} {a b n : Nat} (h : ∀ i, i < n → memRead m' (b + i) = memRead m (a + i)) :
    memReadN m' b n = memReadN m a n := by
  induction n generalizing a b with
  | zero => rfl
  | succ n ih =>
    have h0 : memRead m' b = memRead m a := h 0 n.succ_pos
    rw [memReadN, memReadN, h0, ih fun i hi => ?_]
    have hi1 := h (i + 1) (by omega)
    rwa [Nat.add_comm i 1, ← Nat.add_assoc, ← Nat.add_assoc] at hi1

/-! ## Pages taken (R237, R290) -/

theorem takeReserve_eq {s s' : State} {half r : Nat} (h : s.takeReserve half = some (r, s')) :
    s' = { s with pool := { s.pool with resUsed := r :: s.pool.resUsed } } := by
  unfold State.takeReserve at h
  extract_lets t p at h
  split_ifs at h
  obtain ⟨rfl, rfl⟩ := Prod.mk.inj (Option.some.inj h)
  rfl

/-- A page taken changes the pages in use and, where it comes from the other half, the count of such pages (R238). -/
structure TakesPage (s t : State) : Prop where
  same : t = { s with obj := t.obj, pool := { s.pool with used := t.pool.used } }
  rd : ∀ {i u}, objKey i u 0 ≠ objKey 0x6001 0x04 0 → t.rd i u = s.rd i u

theorem takesPage_takeFrom {s s' : State} {half p : Nat} (h : s.takeFrom half = some (p, s')) : TakesPage s s' := by
  unfold State.takeFrom at h
  split_ifs at h
  obtain ⟨rfl, rfl⟩ := Prod.mk.inj (Option.some.inj h)
  exact ⟨rfl, fun _ => rfl⟩

theorem takesPage_takePage {s s' : State} {half p : Nat} (h : s.takePage half = some (p, s')) : TakesPage s s' := by
  unfold State.takePage at h
  split at h
  next hfrom =>
    obtain rfl := Option.some.inj h
    exact takesPage_takeFrom hfrom
  next =>
    split at h
    next p' t hfrom =>
      obtain ⟨rfl, rfl⟩ := Prod.mk.inj (Option.some.inj h)
      obtain ⟨hsame, hrd⟩ := takesPage_takeFrom hfrom
      refine ⟨?_, fun hkey => (rd_bump_other _ _ _ _ hkey).trans (hrd hkey)⟩
      rw [hsame]
      rfl
    next => exact absurd h nofun

/-! ## The record of an entry's page (R235, R290, R292) -/

theorem movePage_congr {s t : State} {q : Nat} (himg : t.img = s.img) (hpages : (t.entry q).pages = (s.entry q).pages)
    (hstates : (t.entry q).statePages = (s.entry q).statePages) (lane chunk : Nat) :
    t.movePage q lane chunk = s.movePage q lane chunk := by
  unfold State.movePage backedPage State.image
  dsimp only
  rw [himg, hpages, hstates]

theorem movePage_congr_table {s t : State} (himg : t.img = s.img) (htable : t.table = s.table) (q lane chunk : Nat) :
    t.movePage q lane chunk = s.movePage q lane chunk := by
  have hentry := entry_congr htable q
  exact movePage_congr himg (congrArg Entry.pages hentry) (congrArg Entry.statePages hentry) lane chunk

/-- A page's reference, in a lane and chunk, rewritten. -/
def PageRef.rehomed (lane chunk page : Nat) (x : PageRef) : PageRef :=
  if x.lane = lane && x.chunk = chunk then { x with page := page } else x

theorem backedPage_rehomed {e : Entry} {lane chunk p : Nat} (h : backedPage e lane chunk = some p) (page : Nat) :
    backedPage { e with pages := e.pages.map (PageRef.rehomed lane chunk page) } lane chunk = some page := by
  unfold backedPage at h ⊢
  obtain ⟨x, hx, -⟩ := Option.map_eq_some_iff.mp h
  have hnamed := List.find?_some hx
  have hkept : (fun y : PageRef => decide (y.lane = lane) && decide (y.chunk = chunk)) ∘ PageRef.rehomed lane chunk page =
      fun y => decide (y.lane = lane) && decide (y.chunk = chunk) := by
    funext y
    simp only [Function.comp_apply, PageRef.rehomed]
    split_ifs <;> rfl
  rw [List.find?_map, hkept, hx]
  simp only [Option.map_some, PageRef.rehomed, hnamed, if_true]

/-- A page's record rewritten names the new page. -/
theorem movePage_rehome {s : State} {q lane chunk p : Nat} (h : s.movePage q lane chunk = some p) (page : Nat) :
    (rehome q lane chunk page s).movePage q lane chunk = some page := by
  have himg : (rehome q lane chunk page s).image = s.image := rfl
  unfold State.movePage at h ⊢
  rw [himg]
  unfold rehome
  rw [entry_modEntry_same]
  by_cases hlane : lane < laneCount s.image
  · simp only [hlane, if_true] at h ⊢
    exact backedPage_rehomed h page
  · simp only [hlane, if_false] at h ⊢
    exact List.getElem?_set_self (List.getElem?_eq_some_iff.mp h).1

/-- The state after a page src, named for a lane and chunk of an entry, was copied to a page dst and its record rewritten. -/
def copiedTo (q lane chunk src dst : Nat) (s : State) : State :=
  rehome q lane chunk dst { s with mem := copyPage src dst s.mem }

section Copied
variable (q lane chunk src dst : Nat) (s : State)

@[simp] theorem copiedTo_pending : (copiedTo q lane chunk src dst s).pending = s.pending := rfl
@[simp] theorem copiedTo_mem : (copiedTo q lane chunk src dst s).mem = copyPage src dst s.mem := rfl
@[simp] theorem copiedTo_obj : (copiedTo q lane chunk src dst s).obj = s.obj := rfl
@[simp] theorem copiedTo_pool : (copiedTo q lane chunk src dst s).pool = s.pool := rfl

end Copied

section Returned
variable (ps : List Nat) (s : State)

@[simp] theorem returnPages_pending : (s.returnPages ps).pending = s.pending := rfl
@[simp] theorem returnPages_mem : (s.returnPages ps).mem = s.mem := rfl
@[simp] theorem returnPages_obj : (s.returnPages ps).obj = s.obj := rfl

theorem returnPages_pool : (s.returnPages ps).pool = { s.pool with
    used := s.pool.used.filter fun p => !ps.contains p
    zeroing := s.pool.zeroing ++ ps.filter fun p => s.pool.used.contains p && !s.pool.retired.contains p } := rfl

end Returned

theorem movePage_copiedTo {s : State} {q lane chunk src : Nat} (h : s.movePage q lane chunk = some src) (dst : Nat) :
    (copiedTo q lane chunk src dst s).movePage q lane chunk = some dst := by
  have hmem : State.movePage { s with mem := copyPage src dst s.mem } q lane chunk = some src := h
  exact movePage_rehome hmem dst

/-- A counter that stood as in s and advances is counted. -/
theorem counted_bump_same {s t : State} {i u : Nat} (h : t.rd i u = s.rd i u) (n : Nat) : Counted s (t.bump i u n) i u n := by
  rw [Counted, rd_bump_same, h]

/-! ## PAGE_ZERO (R239) -/

/-- The state after a page of the pool has been set to zero. -/
def zeroed (p : Nat) (s : State) : State :=
  State.bump { s with mem := memZero (p * 65536) 65536 s.mem, pool := { s.pool with zeroing := s.pool.zeroing.filter (· ≠ p) } }
    0x6001 0x06 1

theorem pageZero_waiting {s : State} {p : Nat} (h : s.pool.zeroing.contains p = true) : pageZero p s = zeroed p s := if_pos h

/-! ## RESERVE_MOVE (R290) -/

theorem reserveMove_moved {s s' : State} {q lane chunk p r : Nat} (hstate : (s.entry q).state = 4)
    (hpage : s.movePage q lane chunk = some p) (hp : p < 0x400000) (hreserve : s.takeReserve (s.laneHalf lane) = some (r, s')) :
    reserveMove q lane chunk s = ((copiedTo q lane chunk p r s').returnPages [p]).bump 0x6003 0x04 1 := by
  have hserved : ¬((s.entry q).state ≠ 4 || decide (0x400000 ≤ p)) = true := by simp [hstate, hp]
  unfold reserveMove
  rw [hpage]
  dsimp only
  rw [if_neg hserved, hreserve]
  rfl

/-! ## RESERVE_EXPIRY (R291) -/

/-- The expiry of a lease counted, in the Reserve tier and as a forfeiture (R291, R465). -/
def expiryCounted (due : Nat) (s : State) : State := ((s.late due).bump 0x6003 0x07 1).bump 0x7001 0x08 1

theorem reserveExpiry_due {s : State} {q : Nat} (hstate : (s.entry q).state = 4) (hdue : (s.entry q).ttlEnd ≤ s.beat) :
    reserveExpiry q s = finishEntry q 5 5 0 (releasePages q (expiryCounted (s.entry q).ttlEnd s)) := by
  have hserved : ¬((s.entry q).state ≠ 4 || decide (s.beat < (s.entry q).ttlEnd)) = true := by simp [hstate, hdue]
  unfold reserveExpiry
  dsimp only
  rw [if_neg hserved]
  rfl

theorem releasePages_obj (q : Nat) (s : State) : (releasePages q s).obj = s.obj := rfl

section Expiry
variable (due : Nat) (s : State)

theorem expiryCounted_table : (expiryCounted due s).table = s.table := by
  rw [expiryCounted, bump_table, bump_table, late_table]

theorem expiryCounted_power : (expiryCounted due s).power = s.power := by
  rw [expiryCounted, bump_power, bump_power, late_power]

theorem rd_expiryCounted {i u : Nat} (hlate : objKey i u 0 ≠ objKey 0x1201 0x05 0) (hexpired : objKey i u 0 ≠ objKey 0x6003 0x07 0)
    (hforfeit : objKey i u 0 ≠ objKey 0x7001 0x08 0) : (expiryCounted due s).rd i u = s.rd i u := by
  rw [expiryCounted, rd_bump_other _ _ _ _ hforfeit, rd_bump_other _ _ _ _ hexpired, rd_late hlate]

/-- The head and the tail stay what they are. -/
theorem keepsEntries_expiryCounted {s : State} (h : KeepsEntries s) : KeepsEntries (expiryCounted due s) := by
  have hreg := rd_expiryCounted due s (i := 0x3101) (u := 0x09) (by decide) (by decide) (by decide)
  have hhead := rd_expiryCounted due s (i := 0x3101) (u := 0x0A) (by decide) (by decide) (by decide)
  have htail := rd_expiryCounted due s (i := 0x3101) (u := 0x0B) (by decide) (by decide) (by decide)
  unfold KeepsEntries
  rwa [isHead_congr hreg hhead (expiryCounted_power due s), isTail_congr hreg htail (expiryCounted_power due s)]

theorem counted_expiryCounted_expired : Counted s (expiryCounted due s) 0x6003 0x07 1 := by
  unfold Counted expiryCounted
  rw [rd_bump_other _ _ _ _ (by decide), rd_bump_same, rd_late (by decide)]

theorem counted_expiryCounted_forfeit : Counted s (expiryCounted due s) 0x7001 0x08 1 := by
  unfold Counted expiryCounted
  rw [rd_bump_same, rd_bump_other _ _ _ _ (by decide), rd_late (by decide)]

end Expiry

/-! ## RESTORE_PAGE and RESTORE_REPORT (R292) -/

/-- A Reserve page leaves use and waits to be set to zero. -/
def giveUpReserve (r : Nat) (s : State) : State :=
  { s with pool := { s.pool with resUsed := s.pool.resUsed.filter (· ≠ r), resZeroing := s.pool.resZeroing ++ [r] } }

section GivenUp
variable (r : Nat) (s : State)

@[simp] theorem giveUpReserve_pending : (giveUpReserve r s).pending = s.pending := rfl
@[simp] theorem giveUpReserve_mem : (giveUpReserve r s).mem = s.mem := rfl
@[simp] theorem giveUpReserve_obj : (giveUpReserve r s).obj = s.obj := rfl

theorem giveUpReserve_pool : (giveUpReserve r s).pool = { s.pool with
    resUsed := s.pool.resUsed.filter (· ≠ r), resZeroing := s.pool.resZeroing ++ [r] } := rfl

end GivenUp

/-- The state after a Reserve page r of a resumed entry has come back to a pool page p, taken in s. -/
def restoredTo (q lane chunk r p : Nat) (s : State) : State := (giveUpReserve r (copiedTo q lane chunk r p s)).bump 0x6003 0x05 1

/-- A page whose header is its own comes back without an error (R265, R292). -/
theorem restorePage_restored {s s' : State} {q lane chunk r p : Nat} (hwf : Memory.wf s.mem = true)
    (hstate : (s.entry q).state = 2 ∨ (s.entry q).state = 3) (hpage : s.movePage q lane chunk = some r) (hr : 0x400000 ≤ r)
    (htake : s.takePage (s.laneHalf lane) = some (p, s')) (hheader : memReadN s.mem (r * 65536) 8 = pageHeader q lane chunk) :
    restorePage q lane chunk s = reportRestored q (restoredTo q lane chunk r p s') := by
  have hserved : ¬(!(decide ((s.entry q).state = 2) || decide ((s.entry q).state = 3)) || decide (r < 0x400000)) = true := by
    obtain h | h := hstate
    · simp [h, hr]
    · simp [h, hr]
  have hmem : s'.mem = s.mem := by rw [(takesPage_takePage htake).same]
  have hcopied : memReadN (restoredTo q lane chunk r p s').mem (p * 65536) 8 = pageHeader q lane chunk := by
    rw [← hheader, ← hmem]
    exact memReadN_shifted fun i hi => memRead_copyPage_inside (hmem ▸ hwf) r p (by omega)
  have hgood : (decide (lane < laneCount (restoredTo q lane chunk r p s').image) &&
      decide (memReadN (restoredTo q lane chunk r p s').mem (p * 65536) 8 ≠ pageHeader q lane chunk)) = false := by
    simp [hcopied]
  unfold restorePage
  rw [hpage]
  dsimp only
  rw [if_neg hserved, htake]
  exact congrArg (reportRestored q) (if_neg (ne_true_of_eq_false hgood))

/-- A member's word that an entry is restored touches no page, byte or object (R292). -/
theorem reportRestored_eq (q : Nat) (s : State) : ∃ l f o, reportRestored q s = { s with table := l, fab := f, out := o } := by
  unfold reportRestored
  split_ifs
  · exact ⟨s.table, s.fab, s.out, rfl⟩
  · exact ⟨_, s.fab, s.out, rfl⟩
  · exact ⟨s.table, _, _, rfl⟩

/-- Settles O16: a moved page by `movePage_rehome` and `copyPage`'s bytes, an expiry by what `finishEntry` keeps, a restored page by
`restorePage_restored`, and the head's list and the zeroed page by their branches. -/
theorem pagesMoveRestoreAndReturn : Obligations.PagesMoveRestoreAndReturn := by
  unfold Obligations.PagesMoveRestoreAndReturn
  refine ⟨?move, ?expiry, ?restore, ?report, ?zero⟩
  case move =>
    intro s q lane chunk p r s' hcanon hstate hpage hp hreserve hused hretired
    have hfreed : (s.pool.used.contains p && !s.pool.retired.contains p) = true := by rw [hused, hretired]; rfl
    have hs' := takeReserve_eq hreserve
    have hmove : s'.movePage q lane chunk = some p := by
      rw [← hpage]
      exact movePage_congr_table (by rw [hs']) (by rw [hs']) q lane chunk
    have hmem : s'.mem = s.mem := by rw [hs']
    have hpool : s'.pool = { s.pool with resUsed := r :: s.pool.resUsed } := by rw [hs']
    rw [exec_reserveMove, reserveMove_moved hstate hpage hp hreserve]
    refine ⟨_, done_eq ?_, ?_, ?_, ?_, ?_, ?_, fun i hi => ?_, fun a ha => ?_⟩
    · rw [bump_pending, returnPages_pending, copiedTo_pending, hs']
    · rw [movePage_congr_table (bump_img ..) (bump_table ..)]
      exact movePage_copiedTo hmove r
    · rw [bump_pool, returnPages_pool, copiedTo_pool, hpool]
      exact List.mem_cons_self
    · rw [bump_pool, returnPages_pool]
      simp
    · rw [bump_pool, returnPages_pool, copiedTo_pool, hpool]
      exact List.mem_append_right _ (List.mem_filter.mpr ⟨List.mem_singleton_self p, hfreed⟩)
    · refine counted_bump_same (rd_congr ?_ ..) 1
      rw [returnPages_obj, copiedTo_obj, hs']
    · rw [bump_mem, returnPages_mem, copiedTo_mem, hmem]
      exact memRead_copyPage_inside hcanon.1 p r hi
    · rw [bump_mem, returnPages_mem, copiedTo_mem, hmem]
      exact memRead_copyPage_outside p r ha s.mem
  case expiry =>
    intro s q hstate hdue hkeeps
    obtain ⟨t, he, ht⟩ := doneQuiet_requests s (reserveExpiry q s)
    rw [exec_reserveExpiry]
    rw [reserveExpiry_due hstate hdue] at ht
    have hkept := (resetKeeps_releasePages q _).keepsEntries (keepsEntries_expiryCounted (s.entry q).ttlEnd hkeeps)
    have hentry := entry_finishEntry_same hkept q 5 5 0
    rw [← entry_congr ht.table, entry_releasePages_same] at hentry
    have hcounted {i u : Nat} (hu : u < 256) (h9 : u ≠ 9) (h11 : u ≠ 11) (h12 : u ≠ 12) :
        t.rd i u = (expiryCounted (s.entry q).ttlEnd s).rd i u :=
      ((rd_congr ht.obj i u).trans (rd_finishEntry hkept q 5 5 0 hu h9 h11 h12)).trans (rd_congr (releasePages_obj ..) i u)
    refine ⟨t, he, congrArg Entry.state hentry, congrArg Entry.pages hentry, ?_, ?_, fun k hk => ?_, ht.mem⟩
    · rw [Counted, hcounted (by decide) (by decide) (by decide) (by decide)]
      exact counted_expiryCounted_expired ..
    · rw [Counted, hcounted (by decide) (by decide) (by decide) (by decide)]
      exact counted_expiryCounted_forfeit ..
    · rw [entry_congr ht.table, (entryEnds_finishEntry hkept q 5 5 0).others k hk, entry_releasePages_other hk,
        entry_congr (expiryCounted_table ..)]
  case restore =>
    intro s q lane chunk r p s' hcanon hstate hpage hr htake hheader
    obtain ⟨hsame, hrd⟩ := takesPage_takePage htake
    have hpending : s'.pending = s.pending := by rw [hsame]
    have hmem : s'.mem = s.mem := by rw [hsame]
    have hmove : s'.movePage q lane chunk = some r := by
      rw [← hpage]
      exact movePage_congr_table (by rw [hsame]) (by rw [hsame]) q lane chunk
    obtain ⟨l, f, o, hreport⟩ := reportRestored_eq q (restoredTo q lane chunk r p s')
    have hrestored : (reportRestored q (restoredTo q lane chunk r p s')).movePage q lane chunk = some p := by
      obtain ⟨hentry, -⟩ := reportRestored_entries q (restoredTo q lane chunk r p s')
      rw [movePage_congr (by rw [hreport]) hentry.pages hentry.statePages, restoredTo,
        movePage_congr_table (bump_img ..) (bump_table ..)]
      exact movePage_copiedTo hmove p
    rw [exec_restorePage, restorePage_restored hcanon.1 hstate hpage hr htake hheader]
    rw [hreport] at hrestored ⊢
    refine ⟨_, done_eq ?_, hrestored, ?_, ?_, ?_, fun i hi => ?_, fun a ha => ?_⟩
    · show (restoredTo q lane chunk r p s').pending = s.pending
      rw [restoredTo, bump_pending, giveUpReserve_pending, copiedTo_pending, hpending]
    · show r ∉ (restoredTo q lane chunk r p s').pool.resUsed
      rw [restoredTo, bump_pool, giveUpReserve_pool]
      simp
    · show r ∈ (restoredTo q lane chunk r p s').pool.resZeroing
      rw [restoredTo, bump_pool, giveUpReserve_pool]
      exact List.mem_append_right _ (List.mem_singleton_self r)
    · have hobj : (giveUpReserve r (copiedTo q lane chunk r p s')).rd 0x6003 0x05 = s.rd 0x6003 0x05 := by
        rw [rd_congr (giveUpReserve_obj ..), rd_congr (copiedTo_obj ..), hrd (by decide)]
      exact (rd_congr rfl _ _).trans (counted_bump_same hobj 1)
    · show memRead (restoredTo q lane chunk r p s').mem _ = _
      rw [restoredTo, bump_mem, giveUpReserve_mem, copiedTo_mem, hmem]
      exact memRead_copyPage_inside hcanon.1 r p hi
    · show memRead (restoredTo q lane chunk r p s').mem a = _
      rw [restoredTo, bump_mem, giveUpReserve_mem, copiedTo_mem, hmem]
      exact memRead_copyPage_outside r p ha s.mem
  case report =>
    intro s q member hhead hrestoring
    have heffect : restoreReport q member s =
        (takeMgmt s).modEntry q fun e => { e with awaiting := e.awaiting.filter (· ≠ member) } := by
      have hserved : ¬(!(takeMgmt s).isHead || !((takeMgmt s).entry q).restoring) = true := by
        change ¬(!s.isHead || !(s.entry q).restoring) = true
        simp [hhead, hrestoring]
      exact if_neg hserved
    obtain ⟨t, he, ht⟩ := doneQuiet_requests s (restoreReport q member s)
    rw [exec_restoreReport]
    rw [heffect] at ht
    refine ⟨t, he, ?_, fun k hk => ?_, ?_, ht.mem⟩
    · rw [entry_congr ht.table, entry_modEntry_same]
      rfl
    · rw [entry_congr ht.table, entry_modEntry_other _ _ _ hk]
      rfl
    · rw [ht.fab]
      rfl
  case zero =>
    intro s p hwaits
    rw [exec_pageZero, pageZero_waiting hwaits]
    refine ⟨zeroed p s, done_eq rfl, ?_, counted_bump_same rfl 1, fun a hlo hhi => ?_, fun a ha => ?_, rfl⟩
    · show p ∉ s.pool.zeroing.filter (· ≠ p)
      simp
    · exact memRead_memZero_inside hlo (by omega) s.mem
    · exact memRead_memZero_outside (by omega) s.mem

end Sys2Proof.Machine
end

section
/-! The commit of a step at a member: every line of its length table advances its entry, and no other entry changes (R270, R337). -/

namespace Sys2Proof.Machine
open Sys2Proof

theorem exec_commit (s : State) : exec .commit s = doneQuiet s (commit s) := rfl

theorem image_congr {s t : State} (h : t.img = s.img) : t.image = s.image := by
  unfold State.image
  rw [h]

/-! ## One line of the length table (R270) -/

/-- The tokens accepted for an entry by a DECISION. -/
def acceptedOf (d : DecMsg) (q : Nat) : Nat := ((d.recs.find? fun r => r.entry = q).map (·.accept)).getD 0

/-- How far a line's commit advances its entry: its accepted candidates and one more for GENERATE, its COUNT for a prefill. -/
def advanceOf (d : DecMsg) (l : LenEntry) : Nat := if l.kind = 0 then 1 + acceptedOf d l.req else l.count

/-- A commit that no command waits for and no entry is left out of, with no mark in its DECISION. -/
structure PlainCommit (st : Step) (d : DecMsg) : Prop where
  leftOut : st.leftOut = []
  deferred : st.deferred = []
  marks : ∀ r ∈ d.recs, r.mark = 0

/-- A line whose entry is in service, and whose last prefill begins generation. -/
structure LineReady (s : State) (l : LenEntry) : Prop where
  live : (s.entry l.req).state = 1 ∨ (s.entry l.req).state = 2 ∨ (s.entry l.req).state = 3
  generates : l.kind = 2 → hasEncoder s.image = false ∧ hasOutputHead s.image = true

/-- What a line's commit does: beside its entry only objects, rings and pages change. -/
structure LineCommits (d : DecMsg) (l : LenEntry) (s t : State) : Prop where
  same : SameButRequests s t
  committed : (t.entry l.req).committed = (s.entry l.req).committed + advanceOf d l
  state : (t.entry l.req).state = if l.kind = 1 then 2 else 3
  others : ∀ q, q ≠ l.req → t.entry q = s.entry q

theorem LineCommits.trans_table {d : DecMsg} {l : LenEntry} {s t u : State} (h : LineCommits d l s t) (k : SameButRequests t u)
    (htable : u.table = t.table) : LineCommits d l s u := by
  obtain ⟨hsame, hcommitted, hstate, hothers⟩ := h
  refine ⟨hsame.trans k, ?_, ?_, fun q hq => ?_⟩
  · rw [entry_congr htable, hcommitted]
  · rw [entry_congr htable, hstate]
  · rw [entry_congr htable, hothers q hq]

/-- The token store of an entry returns to the pool, and the entry is otherwise what it was (R272). -/
theorem lineCommits_releaseTokenStore {d : DecMsg} {l : LenEntry} {s t : State} (h : LineCommits d l s t) :
    LineCommits d l s (releaseTokenStore l.req t) := by
  obtain ⟨hsame, hcommitted, hstate, hothers⟩ := h
  have hentry : (releaseTokenStore l.req t).entry l.req = { t.entry l.req with tokPages := [] } := entry_modEntry_same ..
  refine ⟨hsame.trans rfl, ?_, ?_, fun q hq => ?_⟩
  · rw [hentry, hcommitted]
  · rw [hentry, hstate]
  · exact (entry_modEntry_other _ _ _ hq).trans (hothers q hq)

/-- A released DECISION without marks advances the entry of a line (R270). -/
theorem lineCommits_commitLine {st : Step} {d : DecMsg} (hplain : PlainCommit st d) {s : State} {l : LenEntry} (hready : LineReady s l) :
    LineCommits d l s (commitLine st d s l) := by
  obtain ⟨hleft, hdeferred, hmarks⟩ := hplain
  obtain ⟨hlive, hgenerates⟩ := hready
  unfold commitLine
  extract_lets e mark acc mine cancel dip disabled cancelled adv ends outs toks first firstTok given flags status fin fl s1 s2 s3 s4 s5 s6
  have hmark : mark = 0 := by
    unfold mark
    split
    next r hr => exact hmarks r (List.mem_of_find?_eq_some hr)
    next => rfl
  have hacc : acc = acceptedOf d l.req := by
    unfold acc acceptedOf
    split
    next r hr => rw [hr]; rfl
    next hr => rw [hr]; rfl
  have hserved : ¬(st.leftOut.contains l.req || bitOf mark 1 || e.state = 0 || e.state = 5 || e.state = 6) = true := by
    obtain h | h | h := hlive
    all_goals simp [hleft, hmark, e, h, bitOf]
  rw [if_neg hserved]
  have hwaits (p : SchedMsg → Bool) : mine p = none := by simp [mine, hdeferred]
  have hends : ends = false := by
    by_cases hkind : l.kind = 2
    · simp [ends, hmark, bitOf, hkind, hgenerates hkind]
    · simp [ends, hmark, bitOf, hkind]
  have hfin : fin = false := by simp [fin, cancelled, cancel, hends, hwaits, hmark, bitOf]
  have hdisabled : disabled = false := by simp [disabled, hwaits, hmark, bitOf]
  have hdip : dip = none := hwaits _
  have h1 : LineCommits d l s s1 := by
    have hentry : s1.entry l.req = _ := entry_putEntry_same ..
    refine ⟨rfl, ?_, ?_, fun q hq => entry_putEntry_other _ _ _ hq⟩
    · rw [hentry]
      simp only [adv, hacc, advanceOf]
      rfl
    · rw [hentry]
  have h2 : LineCommits d l s s2 := by
    unfold s2
    split_ifs
    · exact lineCommits_releaseTokenStore h1
    · exact h1
  have h3 : LineCommits d l s s3 := by
    unfold s3
    split_ifs
    · exact h2.trans_table (.ofObj (((SameButObj.refl s2).bump ..).bump ..)) (by rw [bump_table, bump_table])
    · exact h2
  have h4 : LineCommits d l s s4 := by
    unfold s4
    split_ifs
    · exact h3.trans_table (.trans (t := s3.modRing ..) rfl (.ofObj ((SameButObj.refl _).bump ..))) (bump_table ..)
    · exact h3
  have h5 : s5 = s4 := by
    have hcancel : cancel = none := hwaits _
    unfold s5
    rw [hcancel]
  rw [hfin, hdisabled, hdip, h5]
  exact h4

/-! ## The whole length table (R337) -/

/-- What the commit of lines does: each line's entry advances as its own commit says, and no entry without a line changes. -/
structure LinesCommit (d : DecMsg) (ls : List LenEntry) (s t : State) : Prop where
  same : SameButRequests s t
  committed : ∀ l ∈ ls, (t.entry l.req).committed = (s.entry l.req).committed + advanceOf d l
  state : ∀ l ∈ ls, (t.entry l.req).state = if l.kind = 1 then 2 else 3
  others : ∀ q, q ∉ ls.map (·.req) → t.entry q = s.entry q

theorem linesCommit_foldl {st : Step} {d : DecMsg} (hplain : PlainCommit st d) {ls : List LenEntry} {s : State}
    (hnodup : (ls.map (·.req)).Nodup) (hready : ∀ l ∈ ls, LineReady s l) : LinesCommit d ls s (ls.foldl (commitLine st d) s) := by
  induction ls generalizing s with
  | nil => exact ⟨.refl s, fun _ h => absurd h List.not_mem_nil, fun _ h => absurd h List.not_mem_nil, fun _ _ => rfl⟩
  | cons l ls ih =>
    obtain ⟨hnew, hrest⟩ := List.nodup_cons.mp hnodup
    obtain ⟨hsame, hcommitted, hstate, hothers⟩ := lineCommits_commitLine hplain (hready l List.mem_cons_self)
    have hapart {k : LenEntry} (hk : k ∈ ls) : (commitLine st d s l).entry k.req = s.entry k.req :=
      hothers _ fun h => hnew (h.symm ▸ List.mem_map_of_mem hk : l.req ∈ ls.map (·.req))
    have himage : (commitLine st d s l).image = s.image := image_congr hsame.img
    have hready' : ∀ k ∈ ls, LineReady (commitLine st d s l) k := fun k hk => by
      obtain ⟨hlive, hgenerates⟩ := hready k (List.mem_cons_of_mem _ hk)
      exact ⟨by rwa [hapart hk], by rwa [himage]⟩
    obtain ⟨hsame', hcommitted', hstate', hothers'⟩ := ih hrest hready'
    have hlast : ((l :: ls).foldl (commitLine st d) s).entry l.req = (commitLine st d s l).entry l.req := hothers' _ hnew
    refine ⟨hsame.trans hsame', fun k hk => ?_, fun k hk => ?_, fun q hq => ?_⟩
    · obtain rfl | hk := List.mem_cons.mp hk
      · rw [hlast, hcommitted]
      · rw [List.foldl_cons, hcommitted' k hk, hapart hk]
    · obtain rfl | hk := List.mem_cons.mp hk
      · rw [hlast, hstate]
      · exact hstate' k hk
    · rw [List.map_cons, List.mem_cons, not_or] at hq
      exact (hothers' q hq.2).trans (hothers q hq.1)

/-! ## The step's end (R239, R337) -/

/-- Where every entry of the step is in service no page waits for the step's resolution (R239). -/
theorem resolvePages_live {st : Step} {s : State} (h : ∀ l ∈ st.len, (s.entry l.req).state ≠ 0) : resolvePages st s = s := by
  unfold resolvePages
  refine List.foldlRecOn (motive := fun t => t = s) _ _ rfl fun t ht l hl => ?_
  rw [ht]
  exact if_neg (h l hl)

/-- What the end of a step leaves of the state t before it: the table and the count, with the step resolved. -/
structure StepEnds (t u : State) : Prop where
  table : u.table = t.table
  count : u.count = t.count
  step : u.fab.step = t.fab.step.map fun st => { st with resolved := true }

theorem stepEnds_endStep {st : Step} {s : State} (h : ∀ l ∈ st.len, (s.entry l.req).state ≠ 0) : StepEnds s (endStep st s) := by
  unfold endStep
  extract_lets t u x v
  have hv : resolvePages st v = v := resolvePages_live h
  rw [hv]
  exact ⟨rfl, rfl, rfl⟩

/-- What is kept of a state on the way to and from the commit of its lines: the table, the image, the count and the step. -/
structure KeepsLines (s t : State) : Prop where
  table : t.table = s.table
  img : t.img = s.img
  count : t.count = s.count
  step : t.fab.step = s.fab.step

namespace KeepsLines
variable {s t u : State}

theorem trans (h : KeepsLines s t) (k : KeepsLines t u) : KeepsLines s u :=
  ⟨k.table.trans h.table, k.img.trans h.img, k.count.trans h.count, k.step.trans h.step⟩

theorem ofObj (h : SameButObj s t) : KeepsLines s t := ⟨h.table, h.img, h.keepsRequests.count, by rw [h]⟩

theorem entry (h : KeepsLines s t) (q : Nat) : t.entry q = s.entry q := entry_congr h.table q

theorem lineReady (h : KeepsLines s t) {l : LenEntry} (hready : LineReady s l) : LineReady t l := by
  have himage : t.image = s.image := image_congr h.img
  obtain ⟨hlive, hgenerates⟩ := hready
  exact ⟨by rwa [h.entry], by rwa [himage]⟩

end KeepsLines

theorem keepsLines_late (due : Nat) (s : State) : KeepsLines s (s.late due) := by
  obtain h | h := late_eq s due
  · rw [h]
    exact .ofObj (.refl s)
  · rw [h]
    exact .ofObj ((SameButObj.refl s).bump ..)

/-- What was unclassified before a repeat that completes is transient (R454). -/
theorem keepsLines_classifyTransient (s : State) : KeepsLines s (classifyTransient s) := by
  unfold classifyTransient
  extract_lets n
  split_ifs
  · exact ⟨rfl, rfl, rfl, rfl⟩
  · exact ⟨rfl, rfl, rfl, rfl⟩

/-- A step that commits in full: the entries of its lines advance, others stay, and the step is resolved (R337). -/
structure StepCommits (st : Step) (d : DecMsg) (s t : State) : Prop where
  committed : ∀ l ∈ st.len, (t.entry l.req).committed = (s.entry l.req).committed + advanceOf d l
  state : ∀ l ∈ st.len, (t.entry l.req).state = if l.kind = 1 then 2 else 3
  others : ∀ q, q ∉ st.len.map (·.req) → t.entry q = s.entry q
  count : t.count = s.count
  step : t.fab.step = s.fab.step.map fun st => { st with resolved := true }

theorem stepCommits_commitStep {st : Step} {d : DecMsg} (hplain : PlainCommit st d) {s : State}
    (hnodup : (st.len.map (·.req)).Nodup) (hready : ∀ l ∈ st.len, LineReady s l) : StepCommits st d s (commitStep st d s) := by
  unfold commitStep
  extract_lets t u v w
  have ht : KeepsLines s t := by
    unfold t
    split_ifs
    · exact keepsLines_classifyTransient s
    · exact ⟨rfl, rfl, rfl, rfl⟩
  have hv : KeepsLines u v := .ofObj ((SameButObj.refl u).bump ..)
  have hw : KeepsLines u w := by
    unfold w
    split_ifs
    · exact hv.trans ⟨rfl, rfl, rfl, rfl⟩
    · exact hv
  obtain ⟨hsame, hcommitted, hstate, hothers⟩ := linesCommit_foldl hplain hnodup fun l hl => ht.lineReady (hready l hl)
  have hlive : ∀ l ∈ st.len, (w.entry l.req).state ≠ 0 := fun l hl => by
    rw [hw.entry, hstate l hl]
    split_ifs <;> decide
  obtain ⟨htable, hcount, hstep⟩ := stepEnds_endStep hlive
  have hentry (q : Nat) : (endStep st w).entry q = u.entry q := (entry_congr htable q).trans (hw.entry q)
  refine ⟨fun l hl => ?_, fun l hl => ?_, fun q hq => ?_, ?_, ?_⟩
  · rw [hentry, hcommitted l hl, ht.entry]
  · rw [hentry, hstate l hl]
  · rw [hentry, hothers q hq, ht.entry]
  · rw [hcount, hw.count, hsame.count, ht.count]
  · rw [hstep, hw.step, hsame.fab, ht.step]

/-! ## COMMIT (R337) -/

/-- At beat c a member commits the step of a released DECISION(COMMIT) that it is not in doubt about. -/
theorem commit_released {s : State} {st : Step} {d : DecMsg} (hopen : OpenStep s st) (hdoubt : s.fab.inDoubt = none)
    (hdecision : st.decision = some d) (hreleased : st.released = true) (hkept : st.withdrawn = false) (hcommit : d.outcome = 1)
    (hdue : d.commitBeat ≤ s.beat) : commit s = commitStep st d (s.late d.commitBeat) := by
  obtain ⟨hstep, hunresolved⟩ := hopen
  simp [commit, hstep, hunresolved, hdoubt, hdecision, hreleased, hkept, Nat.not_lt.mpr hdue, applyDecision, hcommit]

/-- Settles O8: COMMIT is `commitStep`, whose lines commit one after another by `linesCommit_foldl`. -/
theorem commitAdvancesEachEntryOfTheStep : Obligations.CommitAdvancesEachEntryOfTheStep := by
  unfold Obligations.CommitAdvancesEachEntryOfTheStep
  intro s st d hopen hdoubt hdecision hreleased hkept hcommit hdue hnodup hlive hleft hdeferred hmarks hgenerates
  have hlate := keepsLines_late d.commitBeat s
  obtain ⟨hcommitted, hstate, hothers, hcount, hstep⟩ := stepCommits_commitStep ⟨hleft, hdeferred, hmarks⟩ hnodup
    fun l hl => hlate.lineReady ⟨hlive l hl, hgenerates l hl⟩
  rw [hlate.step, hopen.1] at hstep
  obtain ⟨t, he, ht⟩ := doneQuiet_requests s (commit s)
  rw [exec_commit]
  rw [commit_released hopen hdoubt hdecision hreleased hkept hcommit hdue] at ht
  refine ⟨t, { st with resolved := true }, he, ?_, rfl, fun l hl => ⟨?_, ?_⟩, fun q hq => ?_, ?_, ht.mem⟩
  · rw [ht.fab, hstep]
    rfl
  · rw [entry_congr ht.table, hcommitted l hl, hlate.entry]
    rfl
  · rw [entry_congr ht.table, hstate l hl]
  · rw [entry_congr ht.table, hothers q hq, hlate.entry]
  · rw [ht.count, hcount, hlate.count]

end Sys2Proof.Machine
end

section
/-! Held multicasts at their sender and at a leaf: copies, MACKs, RELEASE, WITHDRAW and the deadlines (R331 to R334). -/

namespace Sys2Proof.Machine
open Sys2Proof

/-! ## Routes and trees (R327, R331) -/

/-- What routes and trees rest on is the same: the device's position, the rings, the region's box and the bypassed positions. -/
structure SameTorus (s t : State) : Prop where
  power : t.power = s.power
  rings : t.fab.rings = s.fab.rings
  corner : t.fab.corner = s.fab.corner
  extent : t.fab.extent = s.fab.extent
  bypassed : t.fab.bypassed = s.fab.bypassed

namespace SameTorus
variable {s t : State} (h : SameTorus s t)
include h

theorem pos : t.pos = s.pos := by
  unfold State.pos
  rw [h.power]

theorem ringLen (axis : Nat) : t.ringLen axis = s.ringLen axis := by
  unfold State.ringLen
  rw [h.rings]

theorem offset (p axis : Nat) : t.offset p axis = s.offset p axis := by
  unfold State.offset
  rw [h.ringLen, h.corner]

theorem extentOf (axis : Nat) : t.extent axis = s.extent axis := by
  unfold State.extent
  rw [h.extent]

theorem stepPos (axis : Nat) (plus : Bool) (fuel p : Nat) : t.stepPos axis plus fuel p = s.stepPos axis plus fuel p := by
  induction fuel generalizing p with
  | zero => rfl
  | succ fuel ih => simp only [State.stepPos, h.ringLen, h.bypassed, ih]

theorem axisHops (axis : Nat) (plus : Bool) (dst fuel p : Nat) :
    t.axisHops axis plus dst fuel p = s.axisHops axis plus dst fuel p := by
  induction fuel generalizing p with
  | zero => rfl
  | succ fuel ih => simp only [State.axisHops, h.stepPos, ih]

theorem axisRoute (axis : Nat) (plus : Bool) (dst fuel p : Nat) :
    t.axisRoute axis plus dst fuel p = s.axisRoute axis plus dst fuel p := by
  induction fuel generalizing p with
  | zero => rfl
  | succ fuel ih => simp only [State.axisRoute, h.stepPos, ih]

theorem routePlus (machine : Bool) (axis src dst : Nat) : t.routePlus machine axis src dst = s.routePlus machine axis src dst := by
  unfold State.routePlus State.fullRing
  rw [h.extentOf, h.ringLen, h.axisHops, h.axisHops, h.offset, h.offset]

theorem route (machine : Bool) (src dst : Nat) : t.route machine src dst = s.route machine src dst := by
  simp only [State.route, h.axisRoute, h.routePlus]

theorem treeParent (sender p : Nat) : t.treeParent sender p = s.treeParent sender p := by
  simp only [State.treeParent, h.route]

theorem members : t.members = s.members := by
  have hpos (i : Nat) : t.memberPos i = s.memberPos i := by simp only [State.memberPos, h.extentOf, h.corner, h.ringLen]
  simp only [State.members, State.memberCount, h.extentOf, funext hpos]

theorem otherMembers : t.otherMembers = s.otherMembers := by
  unfold State.otherMembers
  rw [h.members, h.pos]

theorem treeChildren (sender : Nat) (targets : List Nat) : t.treeChildren sender targets = s.treeChildren sender targets := by
  simp only [State.treeChildren, h.route, h.pos]

theorem copyChildren (src mode : Nat) (targets : List Nat) : copyChildren src mode targets t = copyChildren src mode targets s := by
  unfold Machine.copyChildren
  rw [h.treeChildren, h.members, h.pos]

/-- RELEASE or WITHDRAW goes to the children of the tree (R332). -/
theorem forwardDown_out (ptype sender mcnum : Nat) : (forwardDown ptype sender mcnum t).out =
    t.out ++ (s.treeChildren sender s.otherMembers).map fun c => .packet 0 ptype c mcnum [mcnum] := by
  unfold forwardDown
  rw [sendAll_out, h.treeChildren, h.otherMembers]

end SameTorus

theorem sameTorus_late (due : Nat) (s : State) : SameTorus s (s.late due) := by
  obtain ⟨o, h⟩ := late_eq_obj s due
  rw [h]
  exact ⟨rfl, rfl, rfl, rfl, rfl⟩

@[simp] theorem forwardDown_fab (ptype sender mcnum : Nat) (s : State) : (forwardDown ptype sender mcnum s).fab = s.fab := rfl

/-! ## A DECISION released (R332, R337) -/

/-- The step that a released DECISION names is decided by it. -/
def Step.releasedBy (d : DecMsg) (st : Step) : Step :=
  if st.num = d.step then { st with decided := true, decision := some d, released := true } else st

/-- A released DECISION changes the fabric record alone: its step, and on the tail the decisions kept for queries. -/
theorem makeVisible_decision (d : DecMsg) (s : State) : ∃ f, makeVisible (.decision d) s = { s with fab := f } ∧
    f.outs = s.fab.outs ∧ f.ins = s.fab.ins ∧ f.step = s.fab.step.map (Step.releasedBy d) := by
  unfold makeVisible
  dsimp only
  split_ifs
  · exact ⟨_, rfl, rfl, rfl, rfl⟩
  · exact ⟨_, rfl, rfl, rfl, rfl⟩

/-! ## The meanings of the commands -/

theorem exec_multicastCopy (c : McCopy) (s : State) : exec (.multicastCopy c) s = doneQuiet s (multicastCopy c s) := rfl

theorem exec_mack (mcnum acked child : Nat) (s : State) : exec (.mack mcnum acked child) s = done s (mack mcnum acked child s) := rfl

theorem exec_release (mcnum src : Nat) (s : State) : exec (.release mcnum src) s = done s (release mcnum src s) := rfl

theorem exec_withdraw (mcnum src : Nat) (s : State) : exec (.withdraw mcnum src) s = doneQuiet s (withdraw mcnum src s) := rfl

theorem exec_multicastDeadline (mcnum : Nat) (s : State) :
    exec (.multicastDeadline mcnum) s = doneQuiet s (multicastDeadline mcnum s) := rfl

theorem exec_pendingCopyTimeout (mcnum src : Nat) (s : State) :
    exec (.pendingCopyTimeout mcnum src) s = doneQuiet s (pendingCopyTimeout mcnum src s) := rfl

theorem exec_schedCopy (m : SchedMsg) (s : State) : exec (.schedCopy m) s = doneQuiet s (schedCopy m s) := rfl

/-! ## At the sender (R332) -/

section Sender
variable {s : State} {o : McOut} (houts : s.fab.outs = [o]) (hopen : o.closed = false)
include houts hopen

/-- The MACKs counted for the one multicast that the sender holds. -/
theorem mack_last {acked child : Nat} (hlast : o.expected ≤ (sput child acked o.acked).foldl (fun n x => n + x.2) 0) :
    mack o.mcnum acked child s =
      releaseOwn o.mcnum (s.modFab fun f => { f with outs := [{ o with acked := sput child acked o.acked }] }) := by
  simp [mack, houts, hopen, hlast, State.modFab]

/-- A multicast of a BATCH whose MACKs are missing at its deadline is withdrawn and counted. -/
theorem multicastDeadline_batch {b : BatchMsg} (hbody : o.body = .batch b) (hdue : o.deadline ≤ s.beat) :
    multicastDeadline o.mcnum s =
      ((forwardDown 0x07 s.pos o.mcnum (s.late o.deadline)).modFab fun f => { f with outs := [] }).bump 0x3103 0x02 1 := by
  simp [multicastDeadline, houts, hopen, hbody, Nat.not_lt.mpr hdue, withdrawBody, State.modFab]

end Sender

/-! ## At a receiver (R332, R333) -/

/-- A copy under a number of a sender as its acknowledgement leaves it. -/
def McIn.acknowledged (mcnum src : Nat) (x : McIn) : McIn :=
  if x.mcnum = mcnum && x.src = src then { x with ackSent := true } else x

/-- A member without children on a copy's tree acknowledges it to its parent as soon as it holds it whole. -/
theorem tryMack_leaf {s : State} {i : McIn} (hfind : s.fab.ins.find? (fun x => x.mcnum = i.mcnum && x.src = i.src) = some i)
    (hleaf : copyChildren i.src i.mode i.targets s = []) (hmode : i.mode = 0) (hwhole : i.parts.length = i.total)
    (hfirst : i.ackSent = false) (hacks : i.childAcks = []) :
    tryMack i.mcnum i.src s = (s.modFab fun f => { f with ins := f.ins.map (McIn.acknowledged i.mcnum i.src) }).send
      (.packet 1 0x10 (s.treeParent i.src s.pos) i.mcnum [i.mcnum, 1]) := by
  have htorus : SameTorus s (s.modFab fun f => { f with ins := f.ins.map (McIn.acknowledged i.mcnum i.src) }) :=
    ⟨rfl, rfl, rfl, rfl, rfl⟩
  unfold tryMack
  rw [hfind]
  simp only [hleaf, hwhole, hfirst, hacks, decide_true, List.all_nil, Bool.not_true, Bool.or_false, Bool.false_eq_true, if_false]
  rw [← htorus.treeParent, ← htorus.pos, hmode]
  rfl

/-- The copy as a leaf of its tree first holds it, pending. -/
def pendingCopy (c : McCopy) : McIn :=
  ⟨c.mcnum, c.src, c.link, c.mode, c.targets, c.deadline, [c.part], c.parts, false, [], c.body⟩

section Leaf
variable {s : State} {c : McCopy} (hregion : s.hasRegion = true) (hin : s.inBox s.pos = true)
  (hleaf : copyChildren c.src c.mode c.targets s = []) (hnew : ∀ i ∈ s.fab.ins, ¬(i.mcnum = c.mcnum ∧ i.src = c.src))
  (hbody : ∀ d, c.body ≠ .decision d)
include hregion hin hleaf hnew hbody

/-- A copy that is new at a leaf is held as pending, and its acknowledgement is due. -/
theorem multicastCopy_new :
    multicastCopy c s = tryMack c.mcnum c.src (s.modFab fun f => { f with ins := f.ins ++ [pendingCopy c] }) := by
  have hknown : (s.fab.ins.any fun i => i.mcnum = c.mcnum && i.src = c.src) = false := by simpa using hnew
  have hgo : (!s.hasRegion || !s.inBox s.pos) = false := by rw [hregion, hin]; rfl
  unfold multicastCopy
  simp only [hgo, hleaf, hknown, List.isEmpty_nil, Bool.false_eq_true, if_false, if_true]
  cases hc : c.body with
  | decision d => exact absurd hc (hbody d)
  | batch b => simp only [pendingCopy, hc]
  | mcdata m => simp only [pendingCopy, hc]

/-- A copy in one part that is new at a leaf is pending and acknowledged to the parent at once (R332). -/
theorem multicastCopy_leaf (hmode : c.mode = 0) (hparts : c.parts = 1) :
    multicastCopy c s = (s.modFab fun f => { f with ins := f.ins ++ [{ pendingCopy c with ackSent := true }] }).send
      (.packet 1 0x10 (s.treeParent c.src s.pos) c.mcnum [c.mcnum, 1]) := by
  let held : State := s.modFab fun f => { f with ins := f.ins ++ [pendingCopy c] }
  have htorus : SameTorus s held := ⟨rfl, rfl, rfl, rfl, rfl⟩
  have hothers : s.fab.ins.find? (fun i => i.mcnum = c.mcnum && i.src = c.src) = none := by simpa using hnew
  have hfind : held.fab.ins.find? (fun x => x.mcnum = c.mcnum && x.src = c.src) = some (pendingCopy c) := by
    simp [held, hothers, pendingCopy]
  have hack := tryMack_leaf (i := pendingCopy c) hfind (by rw [htorus.copyChildren]; exact hleaf) hmode hparts.symm rfl rfl
  have hkept : s.fab.ins.map (McIn.acknowledged c.mcnum c.src) = s.fab.ins :=
    (List.map_congr_left fun x hx => if_neg (by simpa using hnew x hx)).trans (List.map_id _)
  have hmark : (s.fab.ins ++ [pendingCopy c]).map (McIn.acknowledged c.mcnum c.src) =
      s.fab.ins ++ [{ pendingCopy c with ackSent := true }] := by
    rw [List.map_append, hkept]
    simp [McIn.acknowledged, pendingCopy]
  rw [multicastCopy_new hregion hin hleaf hnew hbody]
  refine hack.trans ?_
  rw [htorus.treeParent, htorus.pos]
  exact congrArg (fun l => (s.modFab fun f => { f with ins := l }).send
    (.packet 1 0x10 (s.treeParent c.src s.pos) c.mcnum [c.mcnum, 1])) hmark

end Leaf

section Receiver
variable {s : State} {i : McIn} (hins : s.fab.ins = [i])
include hins

/-- The RELEASE of the one copy that is pending, held whole, makes it visible to its region. -/
theorem release_single (hmode : i.mode = 0) (hwhole : i.parts.length = i.total) : release i.mcnum i.src s =
    makeVisible i.body ((forwardDown 0x06 i.src i.mcnum s).modFab fun f => { f with ins := [] }) := by
  simp [release, hins, hmode, hwhole, State.modFab]

/-- The WITHDRAW of the one copy that is pending takes it away. -/
theorem withdraw_single : withdraw i.mcnum i.src s =
    withdrawBody i.body ((forwardDown 0x07 i.src i.mcnum s).modFab fun f => { f with ins := [] }) := by
  simp [withdraw, hins, State.modFab]

end Receiver

/-- The time of a pending copy that is no DECISION ends at its deadline plus L1 (R333). -/
theorem pendingCopyTimeout_due {s : State} {i : McIn}
    (hfind : s.fab.ins.find? (fun x => x.mcnum = i.mcnum && x.src = i.src) = some i) (hbody : ∀ d, i.body ≠ .decision d)
    (hdue : i.deadline + s.rd 0x3102 0x02 ≤ s.beat) : pendingCopyTimeout i.mcnum i.src s =
      s.modFab fun f => { f with ins := f.ins.filter fun x => !(x.mcnum = i.mcnum && x.src = i.src) } := by
  have hnow : ¬s.beat < i.deadline + s.legBeats := Nat.not_lt.mpr hdue
  unfold pendingCopyTimeout
  rw [hfind]
  cases hc : i.body with
  | decision d => exact absurd hc (hbody d)
  | batch b => simp [hnow]
  | mcdata m => simp [hnow]

/-- A pending DECISION stays past it (R333, R338). -/
theorem pendingCopyTimeout_decision {s : State} {i : McIn} {d : DecMsg}
    (hfind : s.fab.ins.find? (fun x => x.mcnum = i.mcnum && x.src = i.src) = some i) (hbody : i.body = .decision d) :
    pendingCopyTimeout i.mcnum i.src s = s := by
  unfold pendingCopyTimeout
  rw [hfind]
  simp [hbody]

/-- Settles O58: a DECISION stays by `pendingCopyTimeout_decision`, and every other copy goes by `pendingCopyTimeout_due`. -/
theorem aPendingCopyIsDiscardedAtItsTimeout : Obligations.APendingCopyIsDiscardedAtItsTimeout := by
  unfold Obligations.APendingCopyIsDiscardedAtItsTimeout
  intro s i hfind hone hdue
  rw [exec_pendingCopyTimeout]
  by_cases hdec : ∃ d, i.body = .decision d
  case pos =>
    obtain ⟨d, hd⟩ := hdec
    rw [pendingCopyTimeout_decision hfind hd]
    exact ⟨s, doneQuiet_eq rfl rfl rfl rfl rfl, rfl, rfl, rfl, rfl,
      fun x => ⟨fun hx => ⟨hx, .inr ⟨d, hd⟩⟩, fun hx => hx.1⟩⟩
  case neg =>
    rw [pendingCopyTimeout_due hfind (not_exists.mp hdec) hdue]
    refine ⟨_, doneQuiet_eq rfl rfl rfl rfl rfl, rfl, rfl, rfl, rfl, fun x => ?_⟩
    have hsame : x ∈ s.fab.ins → ((x.mcnum = i.mcnum ∧ x.src = i.src) ↔ x = i) := fun hx =>
      ⟨fun h => hone x hx h.1 h.2, fun h => h ▸ ⟨rfl, rfl⟩⟩
    have hout : x ∈ s.fab.ins.filter (fun x => !(x.mcnum = i.mcnum && x.src = i.src)) ↔
        x ∈ s.fab.ins ∧ ¬(x.mcnum = i.mcnum ∧ x.src = i.src) := by simp [List.mem_filter, imp_iff_not_or]
    rw [modFab_fab, hout, or_iff_left hdec]
    exact and_congr_right fun hx => not_congr (hsame hx)

/-- Settles O12: a copy at a leaf by `multicastCopy_leaf`, the last MACK by `mack_last`, and the end of a pending copy by
`release_single` and `withdraw_single`. -/
theorem aHeldMulticastIsAcknowledgedAndReleased : Obligations.AHeldMulticastIsAcknowledgedAndReleased := by
  unfold Obligations.AHeldMulticastIsAcknowledgedAndReleased
  refine ⟨?copy, ?mack, ?release, ?withdraw⟩
  case copy =>
    intro s c hregion hin hleaf hmode hparts hnew hbody
    rw [exec_multicastCopy, multicastCopy_leaf hregion hin hleaf hnew hbody hmode hparts]
    refine ⟨_, doneQuiet_eq rfl rfl rfl rfl rfl, ?_, rfl, rfl, rfl⟩
    rw [← hmode, ← hparts]
    rfl
  case mack =>
    intro s o d acked child houts hopen hbody hlast
    let counted : State := s.modFab fun f => { f with outs := [{ o with acked := sput child acked o.acked }] }
    have htorus : SameTorus s counted := ⟨rfl, rfl, rfl, rfl, rfl⟩
    have hrelease := releaseOwn_single (s := counted) (o := { o with acked := sput child acked o.acked }) rfl hopen
    have hdown := htorus.forwardDown_out 0x06 s.pos o.mcnum
    obtain ⟨f, hvisible, hfouts, -, -⟩ := makeVisible_decision d ((forwardDown 0x06 counted.pos o.mcnum counted).modFab fun f =>
      { f with outs := f.outs.filter fun x => x.mcnum ≠ o.mcnum })
    rw [exec_mack, mack_last houts hopen hlast]
    change releaseOwn o.mcnum counted = makeVisible o.body _ at hrelease
    rw [hrelease, hbody, hvisible]
    refine ⟨_, done_eq rfl, ?_, ?_, rfl, rfl⟩
    · simp [hfouts, counted]
    · exact hdown
  case release =>
    intro s i st d hins hmode hwhole hbody hopen hnum
    obtain ⟨hstep, -⟩ := hopen
    obtain ⟨f, hvisible, -, hfins, hfstep⟩ := makeVisible_decision d ((forwardDown 0x06 i.src i.mcnum s).modFab fun f =>
      { f with ins := [] })
    rw [exec_release, release_single hins hmode hwhole, hbody, hvisible]
    refine ⟨_, Step.releasedBy d st, done_eq rfl, hfins, ?_, ?_, ?_, rfl, rfl⟩
    · rw [hfstep]
      simp [hstep]
    · simp [Step.releasedBy, hnum]
    · simp [Step.releasedBy, hnum]
  case withdraw =>
    intro s i b hins hbody
    have hdown := SameTorus.forwardDown_out (s := s) (t := s) ⟨rfl, rfl, rfl, rfl, rfl⟩ 0x07 i.src i.mcnum
    rw [exec_withdraw, withdraw_single hins, hbody]
    exact ⟨_, doneQuiet_eq rfl rfl rfl rfl rfl, rfl, rfl, hdown, rfl, rfl⟩

/-- Settles O13: the sender's deadline by `multicastDeadline_batch`, the receiver's by `pendingCopyTimeout_due`, and a scheduled
copy by the branches of `schedCopy`. -/
theorem multicastsEndAtTheirDeadlines : Obligations.MulticastsEndAtTheirDeadlines := by
  unfold Obligations.MulticastsEndAtTheirDeadlines
  refine ⟨?missed, ?timeout, ?held, ?late⟩
  case missed =>
    intro s o b houts hopen hbody hdue
    have hdown := (sameTorus_late o.deadline s).forwardDown_out 0x07 s.pos o.mcnum
    obtain ⟨x, hlate⟩ := late_eq_obj s o.deadline
    have hcount : (s.late o.deadline).rd 0x3103 0x02 = s.rd 0x3103 0x02 := rd_late (by decide) ..
    rw [exec_multicastDeadline, multicastDeadline_batch houts hopen hbody hdue]
    rw [hlate] at hdown hcount ⊢
    refine ⟨_, doneQuiet_eq rfl rfl rfl rfl rfl, rfl, hdown, ?_, rfl, rfl⟩
    exact (rd_bump_same ..).trans (congrArg (fun n => (n + 1) % objModulus 0x3103 0x02) hcount)
  case timeout =>
    intro s i b hins hbody hdue
    have hdue' := pendingCopyTimeout_due (s := s) (i := i) (by simp [hins]) (by simp [hbody]) hdue
    rw [exec_pendingCopyTimeout, hdue']
    have hgone : (s.modFab fun f => { f with ins := f.ins.filter fun x => !(x.mcnum = i.mcnum && x.src = i.src) }) =
        s.modFab fun f => { f with ins := [] } := by simp [State.modFab, hins]
    rw [hgone]
    exact doneQuiet_eq rfl rfl rfl rfl rfl
  case held =>
    intro s m hearly hnew hunheld
    have hhold : schedCopy m s = s.modFab fun f => { f with scheds := f.scheds ++ [m] } := by
      simp [schedCopy, Nat.not_lt.mpr hearly, hnew, hunheld]
    rw [exec_schedCopy, hhold]
    exact doneQuiet_eq rfl rfl rfl rfl rfl
  case late =>
    intro s m hlate
    have hcount : schedCopy m s = s.bump 0x3103 0x08 1 := if_pos hlate
    rw [exec_schedCopy, hcount]
    exact doneQuiet_eq rfl rfl rfl rfl rfl

end Sys2Proof.Machine
end

section
/-! Acknowledgements and discards on the tail's tree, and the tail's decision at the deadline (R311, R335, R336, R545). -/

namespace Sys2Proof.Machine
open Sys2Proof

theorem exec_stepWorkDone (s : State) : exec .stepWorkDone s = done s (stepWorkDone s) := rfl

theorem exec_stepAck (step run count child : Nat) (s : State) :
    exec (.stepAck step run count child) s = done s (stepAck step run count child s) := rfl

theorem exec_stepDiscard (step run reason : Nat) (entries : List Nat) (s : State) :
    exec (.stepDiscard step run reason entries) s = done s (stepDiscard step run reason entries s) := rfl

theorem exec_commitDeadline (s : State) : exec .commitDeadline s = done s (commitDeadline s) := rfl

theorem sameTorus_modStep (f : Step → Step) (s : State) : SameTorus s (s.modStep f) := ⟨rfl, rfl, rfl, rfl, rfl⟩

/-! ## A member's acknowledgement (R311, R335) -/

/-- A member other than the tail acknowledges, with the members it speaks for, once its own work and its children's are done. -/
theorem tryAck_member {s : State} {st : Step} (hopen : OpenStep s st) (hdone : st.workDone = true) (hsent : st.ackSent = false)
    (hkept : st.discardSent = false) (hkids : ∀ c ∈ s.tailChildren, ∃ a ∈ st.childAcks, a.1 = c) (htail : s.isTail = false)
    (hdoubt : s.fab.inDoubt = none) (hservice : s.inService = true) (hrefetch : s.load.refetch = none)
    (hstrip : s.stripLost = false) :
    tryAck s = (s.modStep fun st => { st with ackSent := true }).send
      (.packet 0 0x02 s.tailParent st.num [st.num, st.run, ackedCount st]) := by
  obtain ⟨hstep, hunresolved⟩ := hopen
  have hall : (s.tailChildren.all fun c => st.childAcks.any fun a => a.1 = c) = true := by simpa using hkids
  have htail' : (s.modStep fun st => { st with ackSent := true }).isTail = false := htail
  have hparent : (s.modStep fun st => { st with ackSent := true }).tailParent = s.tailParent :=
    (sameTorus_modStep _ s).treeParent ..
  unfold tryAck
  simp [hstep, hdone, hall, hsent, hkept, hunresolved, hdoubt, hservice, hrefetch, hstrip, htail', hparent]

/-- A member whose own work goes on acknowledges nothing. -/
theorem tryAck_working {s : State} {st : Step} (hstep : s.fab.step = some st) (hwork : st.workDone = false) : tryAck s = s := by
  simp [tryAck, hstep, hwork]

/-- The work of a started step is complete, with the output tokens of its lines, once every read is done (R335). -/
theorem stepWorkDone_complete {s : State} {st : Step} (hopen : OpenStep s st) (hstarted : st.started = true)
    (hwork : st.workDone = false) (hkept : st.discardSent = false) (hservice : s.inService = true)
    (hreads : ∀ r ∈ s.work.reads, r.phase = .done) :
    ∃ toks, stepWorkDone s = tryAck (s.modStep fun st => { st with workDone := true, tokens := toks }) := by
  obtain ⟨hstep, hunresolved⟩ := hopen
  have hidle : (s.work.reads.any fun r => r.phase ≠ .done) = false := by simpa using hreads
  have hgo : (!st.started || st.workDone || st.discardSent || st.resolved || !s.inService ||
      s.work.reads.any fun r => r.phase ≠ .done) = false := by
    rw [hstarted, hwork, hkept, hunresolved, hservice, hidle]
    rfl
  unfold stepWorkDone
  rw [hstep]
  simp only [hgo]
  exact ⟨_, rfl⟩

/-- A child's acknowledgement is held under its number while the member's own work goes on (R311). -/
theorem stepAck_working {s : State} {st : Step} (hopen : OpenStep s st) (hwork : st.workDone = false) (count child : Nat) :
    stepAck st.num st.run count child s = s.modStep fun x => { x with childAcks := sput child count x.childAcks } := by
  obtain ⟨hstep, hunresolved⟩ := hopen
  have hack := tryAck_working (s := s.modStep fun x => { x with childAcks := sput child count x.childAcks })
    (st := { st with childAcks := sput child count st.childAcks }) (by rw [modStep_step, hstep]; rfl) hwork
  unfold stepAck
  rw [hstep]
  simp [hunresolved, hwork, hack]

/-! ## The tail's decision (R336, R545) -/

/-- A held multicast as its sender first keeps it, under its next number. -/
def outOf (body : McBody) (deadline : Nat) (targets : List Nat) (s : State) : McOut :=
  ⟨s.fab.mcNext, deadline, (targets.filter (· ≠ s.pos)).length, [], false, body⟩

/-- It goes out or, without another target, is released at once (R331, R332). -/
theorem sendHeld_eq (body : McBody) (deadline : Nat) (targets : List Nat) (s : State) : sendHeld body deadline targets s =
    if (targets.filter (· ≠ s.pos)).isEmpty then releaseOwn s.fab.mcNext (holdOut (outOf body deadline targets s) s)
    else (holdOut (outOf body deadline targets s) s).send
      (.multicast s.fab.mcNext deadline (targets.filter (· ≠ s.pos)) body) := rfl

/-- The multicast that a sender has just held, under a number that no other has, is the one that its release finds. -/
theorem releaseOwn_holdOut {s : State} {o : McOut} (hopen : o.closed = false) (hnew : ∀ x ∈ s.fab.outs, x.mcnum ≠ o.mcnum) :
    releaseOwn o.mcnum (holdOut o s) = makeVisible o.body ((forwardDown 0x06 (holdOut o s).pos o.mcnum (holdOut o s)).modFab fun f =>
      { f with outs := f.outs.filter fun x => x.mcnum ≠ o.mcnum }) := by
  have houts : (holdOut o s).fab.outs = s.fab.outs ++ [o] := rfl
  have hothers : s.fab.outs.find? (fun x => x.mcnum = o.mcnum && !x.closed) = none := by
    simpa using fun x hx h => absurd h (hnew x hx)
  have hfind : (holdOut o s).fab.outs.find? (fun x => x.mcnum = o.mcnum && !x.closed) = some o := by
    simp [houts, hothers, hopen]
  unfold releaseOwn
  rw [hfind]

/-- What a DECISION sent leaves of the state s that holds its step: the step decided by it, the request table and the count. -/
structure DecisionSent (d : DecMsg) (s t : State) : Prop where
  step : ∃ u, t.fab.step = some u ∧ u.decided = true ∧ u.decision = some d
  table : t.table = s.table
  count : t.count = s.count
  pending : t.pending = s.pending

/-- A DECISION sent under a number that no held multicast has leaves the step that it decides decided by it. -/
theorem decisionSent_sendHeld {s : State} {st : Step} {d : DecMsg} (hstep : s.fab.step = some st) (hdecided : st.decided = true)
    (hdecision : st.decision = some d) (hnew : ∀ x ∈ s.fab.outs, x.mcnum ≠ s.fab.mcNext) (deadline : Nat) (targets : List Nat) :
    DecisionSent d s (sendHeld (.decision d) deadline targets s) := by
  rw [sendHeld_eq]
  split_ifs
  case pos =>
    let o := outOf (.decision d) deadline targets s
    obtain ⟨f, hvisible, -, -, hfstep⟩ := makeVisible_decision d
      ((forwardDown 0x06 (holdOut o s).pos o.mcnum (holdOut o s)).modFab fun f =>
        { f with outs := f.outs.filter fun x => x.mcnum ≠ o.mcnum })
    have hheld : (holdOut o s).fab.step = some st := hstep
    have hrelease := (releaseOwn_holdOut (s := s) (o := o) rfl hnew).trans hvisible
    change releaseOwn s.fab.mcNext (holdOut o s) = _ at hrelease
    rw [hrelease]
    refine ⟨⟨Step.releasedBy d st, ?_, ?_, ?_⟩, rfl, rfl, rfl⟩
    · rw [hfstep]
      simp [hheld]
    · unfold Step.releasedBy
      split_ifs
      · rfl
      · exact hdecided
    · unfold Step.releasedBy
      split_ifs
      · rfl
      · exact hdecision
  case neg =>
    exact ⟨⟨st, hstep, hdecided, hdecision⟩, rfl, rfl, rfl⟩

/-- The outcome of a discard is none of commit: without a STEP_DISCARD it is that of a missed deadline (R545). -/
theorem discardOutcome_ne_one (st : Step) : discardOutcome st ≠ 1 := by
  unfold discardOutcome
  split_ifs <;> decide

theorem discardOutcome_nil {st : Step} (h : st.discards = []) : discardOutcome st = 0 := by
  simp [discardOutcome, h]

/-- The DISCARD that the tail decides at C_n − CL (R336, R545). -/
def deadlineDecision (s : State) (st : Step) : DecMsg :=
  ⟨st.num, st.run, discardOutcome st, s.commitDeadlineOf st.frame, poolRecs st⟩

/-- At C_n − CL the tail without a decision sends that DISCARD (R336). -/
theorem decisionSent_commitDeadline {s : State} {st : Step} (hopen : OpenStep s st) (htail : s.isTail = true)
    (hundecided : st.decided = false) (hnew : ∀ o ∈ s.fab.outs, o.mcnum ≠ s.fab.mcNext)
    (hdue : s.commitDeadlineOf st.frame ≤ s.beat + s.commitLead) : DecisionSent (deadlineDecision s st) s (commitDeadline s) := by
  obtain ⟨hstep, hunresolved⟩ := hopen
  let t : State := s.late (s.commitDeadlineOf st.frame - s.commitLead)
  let d := deadlineDecision s st
  let u : State := t.modStep fun st => { st with decided := true, decision := some d }
  have hfab : t.fab = s.fab := late_fab ..
  have hsend : commitDeadline s = sendHeld (.decision d) (s.commitDeadlineOf st.frame - u.legBeats) u.members u := by
    have htstep : t.fab.step = some st := by rw [hfab, hstep]
    have hgo : (!s.isTail || st.decided || st.resolved || decide (s.beat + s.commitLead < s.commitDeadlineOf st.frame)) = false := by
      simp [htail, hundecided, hunresolved, hdue]
    unfold commitDeadline
    rw [hstep]
    simp only [hgo, Bool.false_eq_true, if_false]
    unfold sendDecision
    rw [htstep]
    rfl
  have hustep : u.fab.step = some { st with decided := true, decision := some d } := by
    rw [modStep_step, hfab, hstep]
    rfl
  have hunew : ∀ o ∈ u.fab.outs, o.mcnum ≠ u.fab.mcNext := by
    change ∀ o ∈ t.fab.outs, o.mcnum ≠ t.fab.mcNext
    rwa [hfab]
  obtain ⟨hdecided, htable, hcount, hpending⟩ := decisionSent_sendHeld hustep rfl rfl hunew
    (s.commitDeadlineOf st.frame - u.legBeats) u.members
  obtain ⟨o, hlate⟩ := late_eq_obj s (s.commitDeadlineOf st.frame - s.commitLead)
  have hkept : u.table = s.table ∧ u.count = s.count ∧ u.pending = s.pending := by
    simp only [u, t, hlate]
    exact ⟨rfl, rfl, rfl⟩
  obtain ⟨hutable, hucount, hupending⟩ := hkept
  rw [hsend]
  exact ⟨hdecided, htable.trans hutable, hcount.trans hucount, hpending.trans hupending⟩

/-- Settles O7: the member's acknowledgement by `stepWorkDone_complete` and `tryAck_member`, a child's by `stepAck_working`, and the
tail's DISCARD by `decisionSent_commitDeadline`. -/
theorem acknowledgementsClimbTheTailsTree : Obligations.AcknowledgementsClimbTheTailsTree := by
  unfold Obligations.AcknowledgementsClimbTheTailsTree
  refine ⟨?done, ?ack, ?discard, ?deadline⟩
  case done =>
    intro s st hopen hstarted hwork hkept hsent hservice hreads htail hkids hdoubt hrefetch hstrip
    obtain ⟨toks, hcomplete⟩ := stepWorkDone_complete hopen hstarted hwork hkept hservice hreads
    let t : State := s.modStep fun st => { st with workDone := true, tokens := toks }
    have htorus : SameTorus s t := sameTorus_modStep ..
    have htstep : t.fab.step = some { st with workDone := true, tokens := toks } := by
      rw [modStep_step, hopen.1]
      rfl
    have htkids : t.tailChildren = s.tailChildren := by
      unfold State.tailChildren
      rw [htorus.otherMembers]
      exact htorus.treeChildren ..
    have htparent : t.tailParent = s.tailParent := htorus.treeParent ..
    have hack := tryAck_member ⟨htstep, hopen.2⟩ rfl hsent hkept (by rwa [htkids]) htail hdoubt hservice hrefetch hstrip
    rw [exec_stepWorkDone, hcomplete, hack, htparent]
    refine ⟨_, { st with workDone := true, tokens := toks, ackSent := true }, done_eq rfl, rfl, ?_, rfl, rfl, rfl, rfl, rfl⟩
    change t.fab.step.map _ = _
    rw [htstep]
    rfl
  case ack =>
    intro s st count child hopen hwork
    rw [exec_stepAck, stepAck_working hopen hwork]
    exact done_eq rfl
  case discard =>
    intro s step run reason entries hregion htail
    have hon : stepDiscard step run reason entries s =
        s.send (.packet 0 0x03 s.tailPos step ([step, run, reason, entries.length] ++ entries)) := by
      simp [stepDiscard, hregion, htail]
    rw [exec_stepDiscard, hon]
    exact done_eq rfl
  case deadline =>
    intro s st hopen htail hundecided hnew hdue
    obtain ⟨⟨u, hstep, hdecided, hdecision⟩, htable, hcount, hpending⟩ :=
      decisionSent_commitDeadline hopen htail hundecided hnew hdue
    rw [exec_commitDeadline]
    exact ⟨_, u, deadlineDecision s st, done_eq hpending, hstep, hdecided, hdecision, rfl, rfl, discardOutcome_ne_one st, rfl,
      discardOutcome_nil, htable, hcount⟩

end Sys2Proof.Machine
end

section
/-! Torus links: what their operations change and leave, and their commands (R300 to R304, R318, R465). -/

namespace Sys2Proof.Machine
open Sys2Proof

/-! ## Keys and records of links -/

/-- Objects under different subindices have different keys. -/
theorem objKey_ne_of_sub {i j u w n m : Nat} (hu : u < 256) (hw : w < 256) (h : u ≠ w) : objKey i u n ≠ objKey j w m := by
  unfold objKey
  omega

/-- Objects of different indices have different keys. -/
theorem objKey_ne_of_index {i j u w : Nat} (hu : u < 256) (hw : w < 256) (h : i ≠ j) : objKey i u 0 ≠ objKey j w 0 := by
  unfold objKey
  omega

theorem link_setLink_same {s : State} {k : Nat} (h : k < s.links.length) (f : Link → Link) :
    (s.setLink k f).link k = f (s.link k) := by
  simp [State.link, State.setLink, List.getD, h]

theorem link_setLink_other {j k : Nat} (h : j ≠ k) (s : State) (f : Link → Link) : (s.setLink k f).link j = s.link j := by
  simp [State.link, State.setLink, List.getD, h.symm]

theorem link_congr {s t : State} (h : t.links = s.links) (k : Nat) : t.link k = s.link k := by
  unfold State.link
  rw [h]

/-! ## What the operations of links leave alone -/

/-- Nothing but objects, the fabric and time records, links, Masthead's record and what was sent differs. -/
def SameButLinks (s t : State) : Prop :=
  t = { s with obj := t.obj, fab := t.fab, links := t.links, time := t.time, masthead := t.masthead, out := t.out }

namespace SameButLinks
variable {s t u : State}

theorem refl (s : State) : SameButLinks s s := rfl

theorem trans (h : SameButLinks s t) (k : SameButLinks t u) : SameButLinks s u := by
  unfold SameButLinks at h k ⊢
  rw [h] at k
  exact k

theorem ofObj (h : SameButObj s t) : SameButLinks s t := by
  unfold SameButObj at h
  rw [h]
  rfl

theorem ofTime (h : SameButTime s t) : SameButLinks s t := by
  rw [h.eq]
  rfl

theorem table (h : SameButLinks s t) : t.table = s.table := by rw [h]

theorem mem (h : SameButLinks s t) : t.mem = s.mem := by rw [h]

/-- A quiet command that changes nothing else answers what it did. -/
theorem doneQuiet_eq (h : SameButLinks s t) : doneQuiet s t = .next t :=
  Machine.doneQuiet_eq (by rw [h]) (by rw [h]) (by rw [h]) (by rw [h]) (by rw [h])

end SameButLinks

/-- An object that the fall of link k leaves: none of the link's own, of the counts of changes and drops, or of the discipline of
time. -/
structure OffLink (k i u : Nat) : Prop where
  own : ∀ w < 256, objKey i u 0 ≠ objKey (0x3010 + k) w 0
  changes : objKey i u 0 ≠ objKey 0x3000 0x03 0
  drops : objKey i u 0 ≠ objKey 0x3103 0x04 0
  time : OffElection i u

/-- The state of another link is such an object. -/
theorem offLink_linkState {j k : Nat} (h : j ≠ k) : OffLink k (0x3010 + j) 0x01 where
  own := fun w hw => objKey_ne_of_index (by decide) hw (by omega)
  changes := objKey_ne_of_sub (by decide) (by decide) (by decide)
  drops := objKey_ne_of_sub (by decide) (by decide) (by decide)
  time := ⟨fun w hw => objKey_ne_of_index (by decide) (by omega) (by omega),
    objKey_ne_of_sub (by decide) (by decide) (by decide)⟩

/-- What a step of a link's fall keeps. -/
structure LinkKeeps (k : Nat) (s t : State) : Prop where
  same : SameButLinks s t
  rd : ∀ {i u}, OffLink k i u → t.rd i u = s.rd i u

namespace LinkKeeps
variable {k : Nat} {s t u : State}

theorem refl (k : Nat) (s : State) : LinkKeeps k s s := ⟨.refl s, fun _ => rfl⟩

theorem trans (h : LinkKeeps k s t) (g : LinkKeeps k t u) : LinkKeeps k s u :=
  ⟨h.same.trans g.same, fun ho => (g.rd ho).trans (h.rd ho)⟩

theorem linkState (h : LinkKeeps k s t) {j : Nat} (hj : j ≠ k) : t.linkState j = s.linkState j := h.rd (offLink_linkState hj)

end LinkKeeps

/-- An object of the link written. -/
theorem linkKeeps_wr (k : Nat) {w : Nat} (hw : w < 256) (v : Nat) (s : State) : LinkKeeps k s (s.wr (0x3010 + k) w v) :=
  ⟨rfl, fun ho => rd_wr_other _ _ _ _ (ho.own w hw)⟩

/-- The link's record changed. -/
theorem linkKeeps_setLink (k j : Nat) (f : Link → Link) (s : State) : LinkKeeps k s (s.setLink j f) := ⟨rfl, fun _ => rfl⟩

/-- A link's state as it is set (R300). -/
theorem linkKeeps_setLinkState (k v : Nat) (s : State) : LinkKeeps k s (setLinkState k v s) := by
  unfold setLinkState
  split_ifs
  · exact .refl k s
  · refine (linkKeeps_wr k (w := 0x01) (by decide) v s).trans ⟨rfl, fun ho => ?_⟩
    exact rd_bump_other (s.wr (0x3010 + k) 0x01 v) _ _ _ ho.changes

@[simp] theorem linkState_setLinkState (k v : Nat) (s : State) : (setLinkState k v s).linkState k = v := by
  unfold setLinkState
  split_ifs with h
  · exact h
  · exact (rd_bump_other (s.wr (0x3010 + k) 0x01 v) _ _ _ (objKey_ne_of_sub (by decide) (by decide) (by decide))).trans
      (rd_wr_same ..)

/-- The objects of a link under other subindices are not its state. -/
theorem rd_setLinkState {i u : Nat} (hu : u < 256) (hstate : u ≠ 0x01) (hchanges : u ≠ 0x03) (k v : Nat) (s : State) :
    (setLinkState k v s).rd i u = s.rd i u := by
  unfold setLinkState
  split_ifs
  · rfl
  · exact (rd_bump_other (s.wr (0x3010 + k) 0x01 v) _ _ _ (objKey_ne_of_sub hu (by decide) hchanges)).trans
      (rd_wr_other _ _ _ _ (objKey_ne_of_sub hu (by decide) hstate))

@[simp] theorem setLinkState_links (k v : Nat) (s : State) : (setLinkState k v s).links = s.links := by
  unfold setLinkState
  split_ifs <;> rfl

/-- A report of the links is sent on VC7 and kept for a resend, and nothing else (R343, R346). -/
theorem reportLinks_eq (s : State) : ∃ f o, reportLinks s = { s with fab := f, out := o } := by
  unfold reportLinks
  split_ifs
  · exact ⟨_, _, rfl⟩
  · exact ⟨s.fab, s.out, rfl⟩

@[simp] theorem reportLinks_links (s : State) : (reportLinks s).links = s.links := by
  obtain ⟨f, o, h⟩ := reportLinks_eq s
  rw [h]

@[simp] theorem reportLinks_rd (s : State) (i u : Nat) : (reportLinks s).rd i u = s.rd i u := by
  obtain ⟨f, o, h⟩ := reportLinks_eq s
  rw [h]
  rfl

theorem linkKeeps_reportLinks (k : Nat) (s : State) : LinkKeeps k s (reportLinks s) := by
  obtain ⟨f, o, h⟩ := reportLinks_eq s
  rw [h]
  exact ⟨rfl, fun _ => rfl⟩

/-- The loss of a link to the parent is holdover's (R44). -/
theorem loseParentLink_keepsPtp (k : Nat) (s : State) : KeepsPtp s (loseParentLink k s) := by
  unfold loseParentLink
  split_ifs
  · exact enterHoldover_keepsPtp s
  · exact .refl s

/-! ## A link that goes DOWN (R300) -/

/-- A link's record as its fall leaves it. -/
def Link.fallen (l : Link) : Link :=
  { l with replay := [], waiting := [], creditsUsed := [], txSeq := 0, rxSeq := 0, converged := false, nbSync := 0,
           nbRootPos := 0xFFFFFFFF, nbParent := 0xFFFFFFFF, rxAt := [], sentAt := [] }

/-- The fall of a link leaves other links, the requests and the memories. -/
theorem linkKeeps_linkDown (k : Nat) (s : State) : LinkKeeps k s (linkDown k s) := by
  unfold linkDown
  extract_lets l s1 s2 s3 s4
  have h1 : LinkKeeps k s s1 := linkKeeps_wr k (by decide) _ s
  have h2 : LinkKeeps k s1 s2 := ⟨rfl, fun ho => rd_bump_other _ _ _ _ ho.drops⟩
  have h3 : LinkKeeps k s2 s3 := linkKeeps_setLink ..
  have h4 : LinkKeeps k s3 s4 := by
    have hstate := (linkKeeps_wr k (w := 0x02) (by decide) 0 s3).trans (linkKeeps_setLinkState k 0 _)
    have hparent := loseParentLink_keepsPtp k (setLinkState k 0 (s3.wr (0x3010 + k) 0x02 0))
    exact hstate.trans ⟨.ofTime hparent.same, fun ho => hparent.rd ho.time⟩
  split_ifs
  · exact .refl k s
  · exact (((h1.trans h2).trans h3).trans h4).trans (linkKeeps_reportLinks k s4)

@[simp] theorem linkState_linkDown (k : Nat) (s : State) : (linkDown k s).linkState k = 0 := by
  unfold linkDown
  extract_lets l s1 s2 s3 s4
  split_ifs with h
  · exact h
  · have hparent := loseParentLink_keepsPtp k (setLinkState k 0 (s3.wr (0x3010 + k) 0x02 0))
    have hoff : OffElection (0x3010 + k) 0x01 :=
      ⟨fun w hw => objKey_ne_of_index (by decide) (by omega) (by omega), objKey_ne_of_sub (by decide) (by decide) (by decide)⟩
    exact (reportLinks_rd ..).trans ((hparent.rd hoff).trans (linkState_setLinkState ..))

/-- A link that was not DOWN has its buffers dropped (R300). -/
theorem linkDown_links {k : Nat} {s : State} (h : s.linkState k ≠ 0) : (linkDown k s).links = s.links.modify k Link.fallen := by
  unfold linkDown
  extract_lets l s1 s2 s3 s4
  have hparent : SameButTime (setLinkState k 0 (s3.wr (0x3010 + k) 0x02 0)) s4 := (loseParentLink_keepsPtp k _).same
  rw [if_neg h, reportLinks_links, hparent.eq]
  exact setLinkState_links ..

theorem link_linkDown {k : Nat} {s : State} (h : s.linkState k ≠ 0) (hk : k < s.links.length) :
    (linkDown k s).link k = (s.link k).fallen :=
  (link_congr (s := s.setLink k Link.fallen) (linkDown_links h) k).trans (link_setLink_same hk _)

/-! ## The meanings of the commands -/

theorem exec_linkTraining (k : Nat) (s : State) : exec (.linkTraining k) s = doneQuiet s (linkTraining k s) := rfl

theorem exec_trainingConverged (k : Nat) (s : State) : exec (.trainingConverged k) s = doneQuiet s (trainingConverged k s) := rfl

theorem exec_trainingTimeout (k : Nat) (s : State) : exec (.trainingTimeout k) s = doneQuiet s (trainingTimeout k s) := rfl

theorem exec_trainingRetry (k : Nat) (s : State) : exec (.trainingRetry k) s = doneQuiet s (trainingRetry k s) := rfl

theorem exec_infoFlit (k : Nat) (p : InfoPayload) (s : State) : exec (.infoFlit k p) s = doneQuiet s (infoFlit k p s) := rfl

theorem exec_flitReceive (k : Nat) (f : Flit) (s : State) : exec (.flitReceive k f) s = doneQuiet s (flitReceive k f s) := rfl

theorem exec_replay (k lack : Nat) (s : State) : exec (.replay k lack) s = doneQuiet s (replay k lack s) := rfl

theorem exec_lossOfSignal (k lane : Nat) (s : State) : exec (.lossOfSignal k lane) s = doneQuiet s (lossOfSignal k lane s) := rfl

theorem exec_codewordLockLoss (k : Nat) (s : State) : exec (.codewordLockLoss k) s = doneQuiet s (codewordLockLoss k s) := rfl

theorem exec_creditLeaseExpiry (k : Nat) (s : State) : exec (.creditLeaseExpiry k) s = doneQuiet s (creditLeaseExpiry k s) := rfl

/-! ## Training (R302) -/

theorem canTrain_lt {s : State} {k : Nat} (h : s.canTrain k = true) : k < 6 := by
  simp only [State.canTrain, Bool.and_eq_true, decide_eq_true_eq] at h
  exact h.1.1.1.1.1

/-- A link's record as training at the full rate starts. -/
def Link.training (now : Nat) (l : Link) : Link := { l with trainStart := now, attempt := 0, retryAt := none, converged := false }

theorem linkKeeps_startTraining (k : Nat) (s : State) : LinkKeeps k s (startTraining k s) :=
  ((linkKeeps_setLink k k _ s).trans (linkKeeps_setLinkState k 1 _)).trans (linkKeeps_wr k (by decide) _ _)

theorem linkState_startTraining (k : Nat) (s : State) : (startTraining k s).linkState k = 1 :=
  (rd_bump_other _ _ _ _ (objKey_ne_of_sub (by decide) (by decide) (by decide))).trans (linkState_setLinkState ..)

theorem startTraining_links (k : Nat) (s : State) : (startTraining k s).links = s.links.modify k (Link.training s.count.toNat) :=
  setLinkState_links ..

theorem link_startTraining {k : Nat} {s : State} (hk : k < s.links.length) :
    (startTraining k s).link k = (s.link k).training s.count.toNat :=
  (link_congr (s := s.setLink k _) (startTraining_links k s) k).trans (link_setLink_same hk _)

theorem counted_startTraining (k : Nat) (s : State) : Counted s (startTraining k s) (0x3010 + k) 0x09 1 :=
  (rd_bump_same ..).trans (congrArg (fun n => (n + 1) % objModulus (0x3010 + k) 0x09)
    (rd_setLinkState (s := s.setLink k _) (by decide) (by decide) (by decide) k 1))

/-- Training that has converged has a rate, and its INFO flit goes out (R302). -/
theorem trainingConverged_first {s : State} {k : Nat} (htraining : s.linkState k = 1) (hfirst : (s.link k).converged = false) :
    trainingConverged k s = ((s.setLink k fun l => { l with converged := true }).wr (0x3010 + k) 0x02 ((s.link k).attempt + 1)).send
      (.info k (s.infoOf k ((s.link k).attempt + 1))) := by
  have hgo : (decide (s.linkState k ≠ 1) || (s.link k).converged) = false := by simp [htraining, hfirst]
  unfold trainingConverged
  simp only [hgo, Bool.false_eq_true, if_false]
  rfl

section Timeout
variable {s : State} {k : Nat} (htraining : s.linkState k = 1) (hopen : (s.link k).converged = false)
  (hdue : (s.link k).trainStart + 100000000 ≤ s.count.toNat)
include htraining hopen hdue

/-- 100 ms at the full rate are followed by the fallback rate (R302). -/
theorem trainingTimeout_full (hfull : (s.link k).attempt = 0) :
    trainingTimeout k s = s.setLink k fun l => { l with attempt := 1, trainStart := s.count.toNat } := by
  simp [trainingTimeout, htraining, hopen, Nat.not_lt.mpr hdue, hfull]

/-- 100 ms more at the fallback rate put the link DOWN for 1 s (R302). -/
theorem trainingTimeout_fallback (hfallback : (s.link k).attempt = 1) :
    trainingTimeout k s = (linkDown k s).setLink k fun l => { l with retryAt := some (s.count.toNat + 1000000000) } := by
  simp [trainingTimeout, htraining, hopen, Nat.not_lt.mpr hdue, hfallback]

end Timeout

/-! ## The neighbour's INFO flit (R303, R342) -/

/-- What a neighbour's INFO flit makes of its link. -/
structure InfoTaken (k : Nat) (p : InfoPayload) (s t : State) : Prop where
  same : SameButLinks s t
  state : t.linkState k = if s.cabledRight k p then 2 else 3
  neighbour : t.rd (0x3010 + k) 0x04 = p.pos
  between : t.rd (0x3010 + k) 0x0D = if s.cabledRight k p then s.alongLink k p.pos - 1 else 0
  others : ∀ j, j ≠ k → t.linkState j = s.linkState j

/-- A status bit set under a condition leaves objects under other subindices. -/
theorem rd_ite_flag {i u w : Nat} (hu : u < 256) (hw : w < 256) (h : u ≠ w) (p : Prop) [Decidable p] (j b : Nat) (s : State) :
    (if p then s else s.flag j w b).rd i u = s.rd i u := by
  split_ifs
  · rfl
  · exact rd_flag_other _ _ _ _ (objKey_ne_of_sub hu hw h)

theorem sameButObj_ite_flag (p : Prop) [Decidable p] (j w b : Nat) (s : State) : SameButObj s (if p then s else s.flag j w b) := by
  split_ifs
  · exact .refl s
  · rfl

theorem infoTaken_infoFlit {s : State} {k : Nat} (p : InfoPayload) (htraining : s.linkState k = 1)
    (hconverged : (s.link k).converged = true) : InfoTaken k p s (infoFlit k p s) := by
  have hgo : (decide (s.linkState k ≠ 1) || !(s.link k).converged) = false := by simp [htraining, hconverged]
  unfold infoFlit
  rw [if_neg (by rw [hgo]; decide)]
  extract_lets good n s1 s2 s3 s4 s5
  have h1 : SameButObj s s1 := sameButObj_ite_flag ..
  have h2 : SameButObj s1 s2 := sameButObj_ite_flag ..
  have h3 : SameButObj s2 s3 := (((SameButObj.refl s2).wr ..).wr ..).wr ..
  have h4 : SameButObj s3 s4 := (SameButObj.refl s3).wr ..
  have h5 : SameButLinks s s5 := ((((SameButLinks.ofObj h1).trans (.ofObj h2)).trans (.ofObj h3)).trans (.ofObj h4)).trans
    (linkKeeps_setLink k k _ s4).same
  have hlast := (linkKeeps_setLinkState k (if good then 2 else 3) s5).trans (linkKeeps_reportLinks k _)
  have hrecord (i u : Nat) : s5.rd i u = s4.rd i u := rd_congr (setLink_obj ..) i u
  have hother (j : Nat) : s5.linkState j = s.linkState j := by
    have hwritten : s4.linkState j = s2.linkState j := by
      have hsub {w : Nat} (hw : w < 256) (hne : 1 ≠ w) : objKey (0x3010 + j) 0x01 0 ≠ objKey (0x3010 + k) w 0 :=
        objKey_ne_of_sub (by decide) hw hne
      unfold s4 s3 State.linkState
      rw [rd_wr_other _ _ _ _ (hsub (by decide) (by decide)), rd_wr_other _ _ _ _ (hsub (by decide) (by decide)),
        rd_wr_other _ _ _ _ (hsub (by decide) (by decide)), rd_wr_other _ _ _ _ (hsub (by decide) (by decide))]
    exact (hrecord ..).trans <| hwritten.trans ((rd_ite_flag (by decide) (by decide) (by decide) ..).trans
      (rd_ite_flag (by decide) (by decide) (by decide) ..))
  have hrd {u : Nat} (hu : u < 256) (hstate : u ≠ 0x01) (hchanges : u ≠ 0x03) (hlat : u ≠ 0x0A) :
      (reportLinks (setLinkState k (if good then 2 else 3) s5)).rd (0x3010 + k) u = s3.rd (0x3010 + k) u := by
    rw [reportLinks_rd, rd_setLinkState hu hstate hchanges, hrecord]
    exact rd_wr_other s3 _ _ _ (objKey_ne_of_sub hu (by decide) hlat)
  refine ⟨h5.trans hlast.same, ?_, ?_, ?_, fun j hj => (hlast.linkState hj).trans (hother j)⟩
  · exact (reportLinks_rd ..).trans (linkState_setLinkState ..)
  · rw [hrd (by decide) (by decide) (by decide) (by decide)]
    unfold s3
    rw [rd_wr_other _ _ _ _ (objKey_ne_of_sub (by decide) (by decide) (by decide)),
      rd_wr_other _ _ _ _ (objKey_ne_of_sub (by decide) (by decide) (by decide)), rd_wr_same]
  · rw [hrd (by decide) (by decide) (by decide) (by decide)]
    exact rd_wr_same ..

/-! ## Flits (R300, R304, R318) -/

/-- The codewords of a flit are counted (R345). -/
def flitCounted (k : Nat) (f : Flit) (s : State) : State :=
  (s.bump (0x3010 + k) 0x06 f.corrected).bump (0x3010 + k) 0x07 f.uncorrectable

/-- They are counted under the subindices 6 and 7. -/
theorem rd_flitCounted {i u : Nat} (hu : u < 256) (h6 : u ≠ 0x06) (h7 : u ≠ 0x07) (k : Nat) (f : Flit) (s : State) :
    (flitCounted k f s).rd i u = s.rd i u := by
  unfold flitCounted
  rw [rd_bump_other _ _ _ _ (objKey_ne_of_sub hu (by decide) h7), rd_bump_other _ _ _ _ (objKey_ne_of_sub hu (by decide) h6)]

section Receive
variable {s : State} {k : Nat} {f : Flit} (htrained : s.trained k = true) (hloop : s.rd (0x7F10 + k) 0x01 = 0)
include htrained hloop

/-- A flit in error asks for a replay (R300). -/
theorem flitReceive_bad (hbad : f.good = false) : flitReceive k f s = sendAck k true 0 0 (flitCounted k f s) := by
  simp [flitReceive, htrained, hloop, hbad, flitCounted]

/-- A good DATA flit that is the next in order is accepted. -/
theorem flitReceive_inOrder (hgood : f.good = true) (hdata : f.ltype = 1)
    (horder : f.lseq = ((linkFields k f (flitCounted k f s)).link k).rxSeq) :
    flitReceive k f s = acceptFlit k f (linkFields k f (flitCounted k f s)) := by
  have hgo : (!s.trained k || decide (s.rd (0x7F10 + k) 0x01 ≠ 0)) = false := by simp [htrained, hloop]
  unfold flitReceive
  simp only [hgo, hgood, hdata, Bool.not_true, Bool.false_eq_true, if_false, ne_eq, not_true_eq_false]
  exact if_neg (not_not.mpr horder)

/-- A replay that no flit has had 15 times before sends the flits after LACK again (R300). -/
theorem replay_resent {lack : Nat} (hfew : ∀ x ∈ (s.link k).replay, x.2 < 15) : ∃ g n, replay k lack s =
    ((s.setLink k g).bump (0x3010 + k) 0x08 n).sendAll
      ((if (s.link k).replay.findIdx (fun x => x.1.lseq = lack) < (s.link k).replay.length then
        (s.link k).replay.drop ((s.link k).replay.findIdx (fun x => x.1.lseq = lack) + 1) else (s.link k).replay).map
          fun x => .forward k x.1) := by
  have hgo : (!s.trained k || decide (s.rd (0x7F10 + k) 0x01 ≠ 0)) = false := by simp [htrained, hloop]
  unfold replay
  extract_lets l n rest t
  have hpart : ∀ x ∈ (if n < l.replay.length then l.replay.drop (n + 1) else l.replay), x.2 < 15 := fun x hx => by
    split_ifs at hx
    · exact hfew x (List.mem_of_mem_drop hx)
    · exact hfew x hx
  have hlimit : (rest.any fun r => decide (16 ≤ r.2)) = false := by
    simp only [rest, List.any_map, List.any_eq_false, Function.comp_apply, decide_eq_true_eq]
    intro x hx
    have := hpart x hx
    omega
  simp only [hgo, hlimit, Bool.false_eq_true, if_false]
  refine ⟨_, rest.length, congrArg _ ?_⟩
  exact List.map_map

end Receive

/-- With no flit waiting, the link fields of a flit change its link's record alone, and not the flit expected next (R304). -/
theorem linkFields_idle {s : State} {k : Nat} (f : Flit) (hidle : (s.link k).waiting = []) :
    ∃ g : Link → Link, (∀ l, (g l).rxSeq = l.rxSeq) ∧ linkFields k f s = s.setLink k g := by
  unfold linkFields
  extract_lets l n w t
  have hw : w = [] := hidle
  rw [hw]
  refine ⟨_, ?_, rfl⟩
  exact fun _ => rfl

/-- A link's record once a DATA flit was received in order. -/
def Link.received (l : Link) : Link := { l with rxSeq := (l.rxSeq + 1) % 4096 }

/-- The last flit of a VC6 packet to this device is consumed: discarded and counted, and its credit given back (R318, R321). -/
theorem acceptFlit_vc6 {s : State} {k : Nat} {f : Flit} (hup : s.linkState k = 2) (hptype : f.ptype = 0x60) (hvc : f.vc = 6)
    (hmc : f.mc = false) (hdst : f.dst = s.pos) (hlast : f.last = true) : acceptFlit k f s =
      sendAck k false f.pool 1 (((s.setLink k Link.received).bump (0x3010 + k) 0x0C 1).bump 0x3103 0x09 1) := by
  have hstate : ((s.setLink k Link.received).bump (0x3010 + k) 0x0C 1).linkState k = 2 :=
    (rd_bump_other _ _ _ _ (objKey_ne_of_sub (by decide) (by decide) (by decide))).trans hup
  have hpos : f.dst = ((s.setLink k Link.received).bump (0x3010 + k) 0x0C 1).pos := hdst
  unfold acceptFlit
  extract_lets t u
  have hu : u = (s.setLink k Link.received).bump (0x3010 + k) 0x0C 1 := if_neg (by rw [hptype]; decide)
  rw [hu]
  simp [typeVcs, hptype, hvc, hmc, hstate, ← hpos, consumeFlit, hlast]

/-- What the last flit of a VC6 packet to this device leaves before its packet is counted and its credit given back. -/
structure Consumes (k : Nat) (f : Flit) (s u : State) : Prop where
  receives : flitReceive k f s = sendAck k false f.pool 1 (u.bump 0x3103 0x09 1)
  same : SameButLinks s u
  rxSeq : (u.link k).rxSeq = ((s.link k).rxSeq + 1) % 4096
  discarded : u.rd 0x3103 0x09 = s.rd 0x3103 0x09

theorem consumes_flitReceive {s : State} {k : Nat} {f : Flit} (hup : s.linkState k = 2) (hk : k < s.links.length)
    (hloop : s.rd (0x7F10 + k) 0x01 = 0) (hgood : f.good = true) (hdata : f.ltype = 1) (horder : f.lseq = (s.link k).rxSeq)
    (hmc : f.mc = false) (hptype : f.ptype = 0x60) (hvc : f.vc = 6) (hdst : f.dst = s.pos) (hlast : f.last = true)
    (hidle : (s.link k).waiting = []) : ∃ u, Consumes k f s u := by
  obtain ⟨g, hg, hfields⟩ := linkFields_idle (s := flitCounted k f s) (k := k) f hidle
  let t : State := (flitCounted k f s).setLink k g
  have hlen : k < (flitCounted k f s).links.length := hk
  have hlen' : k < t.links.length := (List.length_modify ..).symm ▸ hlen
  have hlink : t.link k = g (s.link k) := link_setLink_same hlen g
  have hrx : (t.link k).rxSeq = (s.link k).rxSeq := by rw [hlink, hg]
  have hrd {i u : Nat} (hu : u < 256) (h6 : u ≠ 0x06) (h7 : u ≠ 0x07) : t.rd i u = s.rd i u :=
    (rd_congr (setLink_obj ..) i u).trans (rd_flitCounted hu h6 h7 k f s)
  have hnext : f.lseq = ((linkFields k f (flitCounted k f s)).link k).rxSeq := by
    rw [hfields]
    exact horder.trans hrx.symm
  have htup : t.linkState k = 2 := (hrd (by decide) (by decide) (by decide)).trans hup
  have hreceive : flitReceive k f s = acceptFlit k f t := by
    rw [flitReceive_inOrder (by simp [State.trained, hup]) hloop hgood hdata hnext, hfields]
  refine ⟨(t.setLink k Link.received).bump (0x3010 + k) 0x0C 1, hreceive.trans (acceptFlit_vc6 htup hptype hvc hmc hdst hlast),
    rfl, ?_, ?_⟩
  · rw [link_congr (bump_links ..), link_setLink_same hlen', Link.received, hrx]
  · exact (rd_bump_other (t.setLink k Link.received) _ _ _ (objKey_ne_of_sub (by decide) (by decide) (by decide))).trans
      ((rd_congr (setLink_obj ..) _ _).trans (hrd (by decide) (by decide) (by decide)))

/-! ## A credit that is not returned (R465) -/

theorem sameButLinks_forfeit (logged : Bool) (context : Nat) (s : State) : SameButLinks s (forfeit logged context s) := by
  unfold forfeit
  extract_lets t
  have hlog (r : FaultRec) : SameButLinks t (t.log r) := by
    unfold State.log
    split_ifs
    · rfl
    · rfl
  split_ifs
  · exact SameButLinks.trans (t := t) rfl (hlog _)
  · rfl

theorem counted_forfeit (logged : Bool) (context : Nat) (s : State) : Counted s (forfeit logged context s) 0x7001 0x08 1 := by
  unfold forfeit
  extract_lets t
  split_ifs
  · exact (rd_log (by decide) ..).trans (rd_bump_same ..)
  · exact rd_bump_same ..

/-- The count of forfeitures is no object of a link's fall. -/
theorem offLink_forfeits {k : Nat} (hk : k < 6) : OffLink k 0x7001 0x08 where
  own := fun w hw => objKey_ne_of_index (by decide) hw (by omega)
  changes := by decide
  drops := by decide
  time := by unfold OffElection; decide

end Sys2Proof.Machine
end

section
/-! The commands of a torus link, from its training to its fall (R300 to R304, R318, R465). -/

namespace Sys2Proof.Machine
open Sys2Proof

theorem trained_ne_down {s : State} {k : Nat} (h : s.trained k = true) : s.linkState k ≠ 0 := by
  have hup : s.linkState k = 2 ∨ s.linkState k = 3 := by simpa [State.trained] using h
  omega

/-- What a command that makes a link fall leaves: the link DOWN with its buffers empty, other links, the requests and memory. -/
structure LinkFalls (k : Nat) (s t : State) : Prop where
  state : t.linkState k = 0
  replay : (t.link k).replay = []
  credits : (t.link k).creditsUsed = []
  others : ∀ j, j ≠ k → j < 6 → t.linkState j = s.linkState j
  table : t.table = s.table
  mem : t.mem = s.mem

theorem linkFalls_linkDown {k : Nat} {s : State} (h : s.linkState k ≠ 0) (hk : k < s.links.length) :
    LinkFalls k s (linkDown k s) := by
  have hkeeps := linkKeeps_linkDown k s
  refine ⟨linkState_linkDown k s, ?_, ?_, fun j hj _ => hkeeps.linkState hj, hkeeps.same.table, hkeeps.same.mem⟩
  · rw [link_linkDown h hk]
    rfl
  · rw [link_linkDown h hk]
    rfl

/-- Settles O47: training by `startTraining` and its lemmas, the INFO flit by `infoTaken_infoFlit`, flits by `flitReceive_bad`,
`acceptFlit_vc6` and `replay_resent`, and every fall by `linkDown`. -/
theorem linksTrainReplayAndGoDown : Obligations.LinksTrainReplayAndGoDown := by
  unfold Obligations.LinksTrainReplayAndGoDown
  refine ⟨?training, ?converged, ?full, ?fallback, ?retry, ?info, ?bad, ?good, ?replay, ?signal, ?lock, ?lease⟩
  case training =>
    intro s k hdown hcan hretry hloop hlen
    have hk : k < s.links.length := hlen ▸ canTrain_lt hcan
    have hstart : linkTraining k s = startTraining k s := by simp [linkTraining, hdown, hcan, hretry, hloop]
    have hkeeps := linkKeeps_startTraining k s
    rw [exec_linkTraining, hstart]
    refine ⟨_, hkeeps.same.doneQuiet_eq, linkState_startTraining k s, ?_, ?_, counted_startTraining k s, fun j hj =>
      ⟨hkeeps.linkState hj, ?_⟩, hkeeps.same.table, hkeeps.same.mem⟩
    · rw [link_startTraining hk]
      rfl
    · rw [link_startTraining hk]
      rfl
    · exact (link_congr (s := s.setLink k _) (startTraining_links k s) j).trans (link_setLink_other hj ..)
  case converged =>
    intro s k htraining hfirst hk hlen
    have hrecord : ((s.setLink k fun l => { l with converged := true }).link k).converged = true := by
      rw [link_setLink_same (hlen ▸ hk)]
    rw [exec_trainingConverged, trainingConverged_first htraining hfirst]
    refine ⟨_, doneQuiet_eq rfl rfl rfl rfl rfl, hrecord, ?_, rfl, ?_, rfl, rfl⟩
    · exact rd_wr_same (s.setLink k _) _ _ _
    · exact (rd_wr_other (s.setLink k _) _ _ _ (objKey_ne_of_sub (by decide) (by decide) (by decide))).trans htraining
  case full =>
    intro s k htraining hopen hfull hdue
    rw [exec_trainingTimeout, trainingTimeout_full htraining hopen hdue hfull]
    exact doneQuiet_eq rfl rfl rfl rfl rfl
  case fallback =>
    intro s k htraining hopen hfallback hk hlen hdue
    have hkeeps := (linkKeeps_linkDown k s).trans
      (linkKeeps_setLink k k (fun l => { l with retryAt := some (s.count.toNat + 1000000000) }) (linkDown k s))
    have hlinks : k < (linkDown k s).links.length := by
      rw [linkDown_links (by rw [htraining]; decide), List.length_modify, hlen]
      exact hk
    rw [exec_trainingTimeout, trainingTimeout_fallback htraining hopen hdue hfallback]
    refine ⟨_, hkeeps.same.doneQuiet_eq, linkState_linkDown k s, ?_, hkeeps.same.table, hkeeps.same.mem⟩
    rw [link_setLink_same hlinks]
  case retry =>
    intro s k at_ hretry hdown hcan hdue hlen
    have hk : k < s.links.length := hlen ▸ canTrain_lt hcan
    have hstart : trainingRetry k s = startTraining k s := by simp [trainingRetry, hretry, hdown, hcan, hdue]
    have hkeeps := linkKeeps_startTraining k s
    rw [exec_trainingRetry, hstart]
    refine ⟨_, hkeeps.same.doneQuiet_eq, linkState_startTraining k s, ?_, hkeeps.same.table, hkeeps.same.mem⟩
    rw [link_startTraining hk]
    rfl
  case info =>
    intro s k p htraining hconverged _
    obtain ⟨hsame, hstate, hneighbour, hbetween, hothers⟩ := infoTaken_infoFlit p htraining hconverged
    rw [exec_infoFlit]
    exact ⟨_, hsame.doneQuiet_eq, hstate, hneighbour, hbetween, fun j hj _ => hothers j hj, hsame.table, hsame.mem⟩
  case bad =>
    intro s k f htrained hloop hbad
    rw [exec_flitReceive, flitReceive_bad htrained hloop hbad]
    exact ⟨_, doneQuiet_eq rfl rfl rfl rfl rfl, rfl, rfl, rfl, rfl, rfl⟩
  case good =>
    intro s k f hup hk hloop hlen hgood hdata horder hmc hptype hvc hdst hlast hidle
    obtain ⟨u, hreceives, hsame, hrx, hdiscarded⟩ := consumes_flitReceive hup (hlen ▸ hk) hloop hgood hdata horder hmc hptype
      hvc hdst hlast hidle
    have hafter : SameButLinks s (sendAck k false f.pool 1 (u.bump 0x3103 0x09 1)) := hsame.trans rfl
    rw [exec_flitReceive, hreceives]
    refine ⟨_, hafter.doneQuiet_eq, hrx, ?_, ?_, hafter.table, hafter.mem⟩
    · exact (rd_bump_same u _ _ _).trans (congrArg (fun n => (n + 1) % objModulus 0x3103 0x09) hdiscarded)
    · rw [← hrx]
      exact List.getLast?_concat
  case replay =>
    intro s k lack htrained hloop hfew
    obtain ⟨g, n, hresent⟩ := replay_resent htrained hloop (lack := lack) hfew
    rw [exec_replay, hresent]
    refine ⟨_, doneQuiet_eq rfl rfl rfl rfl rfl, ?_, rfl, rfl, rfl⟩
    exact rd_bump_other (s.setLink k g) _ _ _ (objKey_ne_of_sub (by decide) (by decide) (by decide))
  case signal =>
    intro s k lane htrained hk hlane hlen
    have hdown : lossOfSignal k lane s = linkDown k s := by simp [lossOfSignal, htrained, hlane]
    obtain ⟨hstate, hreplay, hcredits, hothers, htable, hmem⟩ := linkFalls_linkDown (trained_ne_down htrained) (hlen ▸ hk)
    rw [exec_lossOfSignal, hdown]
    exact ⟨_, (linkKeeps_linkDown k s).same.doneQuiet_eq, hstate, hreplay, hcredits, hothers, htable, hmem⟩
  case lock =>
    intro s k htrained hk hlen
    have hdown : codewordLockLoss k s = linkDown k s := if_pos htrained
    obtain ⟨hstate, hreplay, hcredits, hothers, htable, hmem⟩ := linkFalls_linkDown (trained_ne_down htrained) (hlen ▸ hk)
    rw [exec_codewordLockLoss, hdown]
    exact ⟨_, (linkKeeps_linkDown k s).same.doneQuiet_eq, hstate, hreplay, hcredits, hothers, htable, hmem⟩
  case lease =>
    intro s k c hheld hdue hk
    have hexpired : creditLeaseExpiry k s = linkDown k (forfeit true 0xFFFF s) :=
      if_pos (List.any_eq_true.mpr ⟨c, hheld, decide_eq_true hdue⟩)
    have hkeeps := linkKeeps_linkDown k (forfeit true 0xFFFF s)
    have hsame := (sameButLinks_forfeit true 0xFFFF s).trans hkeeps.same
    rw [exec_creditLeaseExpiry, hexpired]
    exact ⟨_, hsame.doneQuiet_eq, linkState_linkDown .., (hkeeps.rd (offLink_forfeits hk)).trans (counted_forfeit ..),
      hsame.table, hsame.mem⟩

end Sys2Proof.Machine
end

section
/-! Regions, bypasses and the management channel (R224, R324, R340, R343, R345, R346). -/

namespace Sys2Proof.Machine
open Sys2Proof

/-! ## The meanings of the commands -/

theorem exec_linkStateReport (member : Nat) (byp : List Nat) (s : State) :
    exec (.linkStateReport member byp) s = doneQuiet s (linkStateReport member byp s) := rfl

theorem exec_refuse7 (id : Nat) (s : State) : exec (.refuse7 id) s = doneQuiet s (refuse7 id s) := rfl

theorem exec_vc7Resend (id : Nat) (s : State) : exec (.vc7Resend id) s = doneQuiet s (vc7Resend id s) := rfl

theorem exec_regionChange (s : State) : exec .regionChange s = doneQuiet s (regionChange s) := rfl

theorem exec_regionChangeArm (r : DictReq) (data : Bytes) (s : State) : exec (.regionChangeArm r data) s = doneQuiet s
    (dictWriteElse r 0x3101 0x07 data regionArmOk (fun row c s =>
      (storeWrite row 0x3101 0x07 c s).modFab fun f => { f with armed := some (c.value, s.nextBox.1, s.nextBox.2) })
      (fun _ s => s) s) := rfl

theorem exec_linkEnable (r : DictReq) (data : Bytes) (s : State) : exec (.linkEnable r data) s = doneQuiet s
    (dictWriteElse r 0x3000 0x02 data (fun c _ => decide (c.value ≤ 0x3F))
      (fun row c s => storeWrite row 0x3000 0x02 c (applyEnables c.value s)) (fun _ s => s) s) := rfl

theorem exec_bypassRelease (r : DictReq) (data : Bytes) (s : State) :
    exec (.bypassRelease r data) s = doneQuiet s (bypassCommand 1 r data s) := rfl

theorem exec_bypassDrive (r : DictReq) (data : Bytes) (s : State) :
    exec (.bypassDrive r data) s = doneQuiet s (bypassCommand 2 r data s) := rfl

/-! ## The management channel (R343, R346) -/

/-- A member's report of bypassed positions is held for the routes of the next boundary (R343). -/
theorem linkStateReport_member {s : State} {member : Nat} (hregion : s.hasRegion = true) (hin : s.inBox member = true)
    (byp : List Nat) : linkStateReport member byp s =
      (takeMgmt s).modFab fun f => { f with bypReports := sput member byp f.bypReports, linkChanged := true } := by
  have hregion' : (takeMgmt s).hasRegion = true := hregion
  have hin' : (takeMgmt s).inBox member = true := hin
  simp [linkStateReport, hregion', hin']

/-- The one refused packet is sent again once it is due (R346). -/
theorem vc7Resend_due {s : State} {id dst due : Nat} {fields : List Nat} (hone : s.fab.vc7Resend = [(id, due)])
    (hdue : due ≤ s.beat) (hkept : s.fab.vc7.find? (fun p => p.1 = id) = some (id, dst, fields)) :
    vc7Resend id s = ((s.late due).modFab fun f => { f with vc7Resend := f.vc7Resend.erase (id, due) }).send
      (.packet 7 0x70 dst id fields) := by
  have hfind : s.fab.vc7Resend.find? (fun p => p.1 = id && decide (p.2 ≤ s.beat)) = some (id, due) := by simp [hone, hdue]
  unfold vc7Resend
  rw [hfind, hkept]

/-! ## What a response keeps -/

@[simp] theorem respond_power (r : DictReq) (status : Nat) (last : Bool) (value : Bytes) (s : State) :
    (respond r status last value s).power = s.power := by
  obtain ⟨o, x, h⟩ := respond_eq r status last value s; rw [h]

/-- A session selects rings, contexts and entries alone. -/
theorem instOf_single {index : Nat} (hring : index ≠ 0x1111) (hctx : index ≠ 0x5021) (hentry : index ≠ 0x5010) (s : State)
    (session : Option Nat) (sub : Nat) : instOf s session index sub = 0 := by
  unfold instOf
  split
  · rfl
  · simp [hring, hctx, hentry]

/-! ## An accepted region change (R324) -/

/-- The row of the region change's object (R346). -/
def regionArmRow : ObjRow := ⟨0x3101, 0x3101, 0x07, 0x07, .uint, 8, .rw, 0, 0, 18446744073709551615⟩

theorem writable_regionArm {data : Bytes} (h : data.length = 8) : Writable 0x3101 0x07 regionArmRow data where
  sub_ne := by decide
  row_eq := by decide +kernel
  admits := rfl
  right := fun _ _ _ => by simp [rights]
  type := by simp [typeBad, regionArmRow, h]
  range := rangeBad_full rfl rfl (by rw [h]; decide)
  mailbox := rfl

/-- The state that an accepted region change leaves: its beat stored, and its box armed for it. -/
def regionArmed (beat : Nat) (s : State) : State :=
  (s.wr 0x3101 0x07 beat).modFab fun f => { f with armed := some (beat, s.nextBox.1, s.nextBox.2) }

theorem regionChangeArm_accepted {r : DictReq} {data : Bytes} {s : State} (h : ByOperator r s) (hfree : NotBusy r s 0x3101 0x07)
    (hlen : data.length = 8) (hok : regionArmOk (operatorCtx r s 0x3101 0x07 data) s = true) :
    ∃ m, exec (.regionChangeArm r data) s =
      .next (respond r 0 false [] { regionArmed (beNat data) s.enqueueRequest with masthead := m }) := by
  obtain ⟨m, hwake⟩ := raiseWake_eq (regionArmed (beNat data) s.enqueueRequest)
  have hinst : (operatorCtx r s 0x3101 0x07 data).inst = 0 := instOf_single (by decide) (by decide) (by decide) ..
  have heffect : (storeWrite regionArmRow 0x3101 0x07 (operatorCtx r s 0x3101 0x07 data) s.enqueueRequest).modFab (fun f =>
      { f with armed := some ((operatorCtx r s 0x3101 0x07 data).value, s.enqueueRequest.nextBox.1, s.enqueueRequest.nextBox.2) }) =
      regionArmed (beNat data) s.enqueueRequest := by
    rw [storeWrite_uint_rw rfl rfl, hinst]
    rfl
  refine ⟨m, ?_⟩
  rw [exec_regionChangeArm, dictWriteElse_accepted h hfree (writable_regionArm hlen) hok, if_pos (by decide), heffect, hwake]
  exact doneQuiet_respond _ _ _ _ _ rfl rfl rfl rfl rfl

/-! ## A region that takes effect (R224, R324) -/

/-- Closes change the windows alone. -/
theorem foldl_closeWin_eq (slots : List Nat) (s : State) : ∃ l, slots.foldl (fun s w => closeWin w s) s = { s with wins := l } := by
  refine List.foldlRecOn (motive := fun t : State => ∃ l, t = { s with wins := l }) _ _ ⟨s.wins, rfl⟩ ?_
  rintro t ⟨l, rfl⟩ w -
  exact closeWin_eq w { s with wins := l }

/-- The fabric's bounds are objects (R325). -/
theorem sameButObj_computeBounds (s : State) : SameButObj s (computeBounds s) :=
  (((((SameButObj.refl s).wr ..).wr ..).wr ..).wr ..).wr ..

theorem rd_computeBounds {i u : Nat} (hu : u < 256) (hafter : 3 < u) (s : State) : (computeBounds s).rd i u = s.rd i u := by
  have hkey {j w : Nat} (hw : w ≤ 3) : objKey i u 0 ≠ objKey j w 0 := objKey_ne_of_sub hu (by omega) (by omega)
  unfold computeBounds
  dsimp only
  rw [rd_wr_other _ _ _ _ (hkey (by decide)), rd_wr_other _ _ _ _ (hkey (by decide)), rd_wr_other _ _ _ _ (hkey (by decide)),
    rd_wr_other _ _ _ _ (hkey (by decide)), rd_wr_other _ _ _ _ (hkey (by decide))]

/-- The fabric record with a new box in effect. -/
def Fabric.withBox (corner extent : List Nat) (f : Fabric) : Fabric :=
  { f with corner := corner, extent := extent, armed := none, bypReports := [] }

/-- A region that takes effect changes its box and objects, and is in effect (R323 to R326). -/
structure RegionSet (corner extent : List Nat) (s t : State) : Prop where
  same : SameButObj (s.modFab (Fabric.withBox corner extent)) t
  inEffect : t.rd 0x3101 0x09 = 1

theorem regionSet_setRegion (corner extent : List Nat) (s : State) : RegionSet corner extent s (setRegion corner extent s) := by
  unfold setRegion
  extract_lets t u v w
  have hu : SameButObj t u := ((SameButObj.refl t).wr ..).wr ..
  have hv : SameButObj u v := ((SameButObj.refl u).wr ..).wr ..
  have hw : SameButObj v w := .ite ((SameButObj.refl v).wr ..) (.refl v)
  have hrdv : v.rd 0x3101 0x09 = 1 := by
    unfold v u
    rw [rd_wr_other _ _ _ _ (by decide), rd_wr_other _ _ _ _ (by decide), rd_wr_same]
  have hrdw : w.rd 0x3101 0x09 = v.rd 0x3101 0x09 := by
    unfold w
    split_ifs
    · exact rd_wr_other _ _ _ _ (by decide)
    · rfl
  refine ⟨(((hu.trans hv).trans hw).trans (sameButObj_computeBounds w)).trans (syncPairs_sameButObj _), ?_⟩
  rw [rd_syncPairs fun r => objKey_ne_of_sub (by decide) (by decide) (by decide), rd_computeBounds (by decide) (by decide),
    hrdw, hrdv]

/-- The slots of the windows that are OPEN. -/
def allOpenSlots (s : State) : List Nat := (s.wins.filter fun w => w.2.state = 1).map (·.1)

theorem mem_allOpenSlots {s : State} {w : Nat} (h : (s.win w).state = 1) : w ∈ allOpenSlots s := by
  have hne : s.win w ≠ Win.free := fun hfree => by simp [hfree, Win.free] at h
  exact List.mem_map.mpr ⟨(w, s.win w), List.mem_filter.mpr ⟨mem_of_sget rfl hne, by simpa using h⟩, rfl⟩

/-- Nothing but objects, the fabric record and the windows differs. -/
def SameButRegion (s t : State) : Prop := t = { s with obj := t.obj, fab := t.fab, wins := t.wins }

namespace SameButRegion
variable {s t : State} (h : SameButRegion s t)
include h

theorem table : t.table = s.table := by rw [h]

theorem mem : t.mem = s.mem := by rw [h]

/-- A quiet command that changes nothing else answers what it did. -/
theorem doneQuiet_eq : doneQuiet s t = .next t :=
  Machine.doneQuiet_eq (by rw [h]) (by rw [h]) (by rw [h]) (by rw [h]) (by rw [h])

end SameButRegion

namespace RegionSet
variable {corner extent : List Nat} {s t : State} (h : RegionSet corner extent s t)
include h

theorem fab : t.fab = s.fab.withBox corner extent := by
  rw [h.same]
  rfl

theorem wins : t.wins = s.wins := by
  rw [h.same]
  rfl

theorem sameButRegion {r : State} (hs : SameButRegion r s) : SameButRegion r t := by
  obtain ⟨hsame, -⟩ := h
  unfold SameButRegion SameButObj at *
  rw [hs] at hsame
  rw [hsame]
  rfl

end RegionSet

/-- At its beat the armed box takes effect, after every OPEN window has closed (R224, R324). -/
theorem regionChange_due {s : State} {b : Nat} {corner extent : List Nat} (harmed : s.fab.armed = some (b, corner, extent))
    (hdue : b ≤ s.beat) : regionChange s =
      setRegion corner extent ((allOpenSlots (s.late b)).foldl (fun s w => closeWin w s) (s.late b)) := by
  unfold regionChange
  rw [harmed]
  exact if_neg (Nat.not_lt.mpr hdue)

/-! ## The link enables (R345) -/

/-- The row of the link enables (R345). -/
def linkEnableRow : ObjRow := ⟨0x3000, 0x3000, 0x02, 0x02, .uint, 1, .rw, 63, 0, 63⟩

theorem writable_linkEnable {b : Byte} (h : b.toNat ≤ 63) : Writable 0x3000 0x02 linkEnableRow [b] where
  sub_ne := by decide
  row_eq := by decide +kernel
  admits := rfl
  right := fun _ _ _ => by simp [rights]
  type := rfl
  range := by simp [rangeBad, linkEnableRow, beNat_singleton, h]
  mailbox := rfl

/-- What a write of the enables makes of one link. -/
def enableOne (v : Nat) (s : State) (k : Nat) : State :=
  if bitOf v k then (if bitOf (s.rd 0x3000 0x02) k then s else s.wr (0x7F10 + k) 0x01 0) else linkDown k s

theorem applyEnables_eq (v : Nat) (s : State) : applyEnables v s = (List.range 6).foldl (enableOne v) s := rfl

theorem sameButLinks_enableOne (v : Nat) (s : State) (k : Nat) : SameButLinks s (enableOne v s k) := by
  unfold enableOne
  split_ifs
  · exact .refl s
  · rfl
  · exact (linkKeeps_linkDown k s).same

/-- A link whose enable is cleared goes DOWN, and no other link's state changes. -/
theorem linkState_enableOne {j k : Nat} (hj : j < 6) (hk : k < 6) (v : Nat) (s : State) :
    (enableOne v s k).linkState j = if j = k ∧ bitOf v k = false then 0 else s.linkState j := by
  unfold enableOne
  cases hbit : bitOf v k with
  | true =>
    have hloop : (s.wr (0x7F10 + k) 0x01 0).linkState j = s.linkState j :=
      rd_wr_other _ _ _ _ (objKey_ne_of_index (by decide) (by decide) (by omega))
    simp only [if_true, Bool.true_eq_false, and_false, if_false]
    split_ifs
    · rfl
    · exact hloop
  | false =>
    by_cases hjk : j = k
    · subst hjk
      simp
    · simp [hjk, (linkKeeps_linkDown k s).linkState hjk]

/-- Every link of a list whose enable is cleared goes DOWN, and every other link's state stays (R345). -/
theorem linkState_foldl_enableOne {j : Nat} (hj : j < 6) (v : Nat) {ks : List Nat} (hks : ∀ k ∈ ks, k < 6) (s : State) :
    (ks.foldl (enableOne v) s).linkState j = if j ∈ ks ∧ bitOf v j = false then 0 else s.linkState j := by
  induction ks generalizing s with
  | nil => simp
  | cons k ks ih =>
    rw [List.foldl_cons, ih (fun i hi => hks i (List.mem_cons_of_mem _ hi)), linkState_enableOne hj (hks k List.mem_cons_self)]
    by_cases hjk : j = k
    · subst hjk
      cases bitOf v j <;> simp
    · simp [hjk]

theorem linkState_applyEnables {j : Nat} (hj : j < 6) (v : Nat) (s : State) :
    (applyEnables v s).linkState j = if bitOf v j then s.linkState j else 0 := by
  rw [applyEnables_eq, linkState_foldl_enableOne hj v fun k hk => List.mem_range.mp hk]
  cases bitOf v j <;> simp [hj]

theorem sameButLinks_applyEnables (v : Nat) (s : State) : SameButLinks s (applyEnables v s) := by
  rw [applyEnables_eq]
  exact List.foldlRecOn (motive := fun t => SameButLinks s t) _ _ (.refl s) fun t ht k _ => ht.trans (sameButLinks_enableOne v t k)

theorem linkEnable_accepted {r : DictReq} {b : Byte} {s : State} (h : ByOperator r s) (hfree : NotBusy r s 0x3000 0x02)
    (hb : b.toNat ≤ 63) : exec (.linkEnable r [b]) s =
      .next (respond r 0 false [] ((applyEnables b.toNat s.enqueueRequest).wr 0x3000 0x02 b.toNat)) := by
  have hinst : (operatorCtx r s 0x3000 0x02 [b]).inst = 0 := instOf_single (by decide) (by decide) (by decide) ..
  have hvalue : (operatorCtx r s 0x3000 0x02 [b]).value = b.toNat := beNat_singleton b
  have hsame := sameButLinks_applyEnables b.toNat s.enqueueRequest
  have hok : decide ((operatorCtx r s 0x3000 0x02 [b]).value ≤ 0x3F) = true := by
    rw [hvalue]
    exact decide_eq_true hb
  rw [exec_linkEnable, dictWriteElse_accepted h hfree (writable_linkEnable hb) hok, if_neg (by decide),
    storeWrite_uint_rw rfl rfl, hinst, hvalue]
  exact doneQuiet_respond _ _ _ _ _ (by rw [hsame]; rfl) (by rw [hsame]; rfl) (by rw [hsame]; rfl) (by rw [hsame]; rfl)
    (by rw [hsame]; rfl)

/-! ## The bypass commands (R340) -/

/-- The row of the bypass commands (R345). -/
def bypassRow : ObjRow := ⟨0x3000, 0x3000, 0x04, 0x04, .uint, 1, .wo, 0, 1, 2⟩

theorem writable_bypass {b : Byte} (hleast : 1 ≤ b.toNat) (hmost : b.toNat ≤ 2) : Writable 0x3000 0x04 bypassRow [b] where
  sub_ne := by decide
  row_eq := by decide +kernel
  admits := rfl
  right := fun _ _ _ => by simp [rights]
  type := rfl
  range := by
    have hsome : b.toNat ≠ 0 := by omega
    simp [rangeBad, bypassRow, beNat_singleton, hsome, hmost]
  mailbox := rfl

/-- A bypass command is requested for the next boundary, and BYP_HOLD stays as it is until then (R340). -/
structure BypassRequested (r : DictReq) (release : Bool) (s t : State) : Prop where
  answers : Answers r 0 [] t
  request : t.power.bypRequest = some release
  hold : t.power.bypHold = s.power.bypHold
  table : t.table = s.table
  mem : t.mem = s.mem

theorem bypassRequested_bypassCommand {r : DictReq} {b : Byte} {s : State} (h : ByOperator r s) (hfree : NotBusy r s 0x3000 0x04)
    (hleast : 1 ≤ b.toNat) (hmost : b.toNat ≤ 2) :
    ∃ t, doneQuiet s (bypassCommand b.toNat r [b] s) = .next t ∧ BypassRequested r (decide (b.toNat = 1)) s t := by
  have hok : decide ((operatorCtx r s 0x3000 0x04 [b]).value = b.toNat) = true := decide_eq_true (beNat_singleton b)
  have hcommand := dictWriteElse_accepted h hfree (writable_bypass hleast hmost) (reject := fun _ s => s)
    (accept := fun c _ => decide (c.value = b.toNat))
    (effect := fun _ _ s => { s with power := { s.power with bypRequest := some (decide (b.toNat = 1)) } }) hok
  rw [if_neg (by decide)] at hcommand
  unfold bypassCommand dictWrite
  rw [hcommand]
  exact ⟨_, doneQuiet_respond _ _ _ _ _ rfl rfl rfl rfl rfl, answers_respond .., by rw [respond_power], by rw [respond_power]; rfl,
    respond_table .., respond_mem ..⟩

/-- Settles O48: the management channel by `linkStateReport_member` and `vc7Resend_due`, a region change by
`regionChangeArm_accepted` and `regionChange_due`, the enables by `linkState_applyEnables`, and the bypass commands by
`bypassRequested_bypassCommand`. -/
theorem regionsBypassesAndTheManagementChannel : Obligations.RegionsBypassesAndTheManagementChannel := by
  unfold Obligations.RegionsBypassesAndTheManagementChannel
  refine ⟨?report, ?refuse, ?resend, ?arm, ?change, ?enable, ?release, ?drive⟩
  case report =>
    intro s member byp hregion hin
    rw [exec_linkStateReport, linkStateReport_member hregion hin]
    exact ⟨_, doneQuiet_eq rfl rfl rfl rfl rfl, sget_sput_same .., rfl, rfl, rfl, rfl, rfl⟩
  case refuse =>
    intro s id dst fields hmem
    have hrefuse : refuse7 id s = s.modFab fun f => { f with vc7Resend := f.vc7Resend ++ [(id, s.beat + 64)] } :=
      if_pos (List.any_eq_true.mpr ⟨_, hmem, decide_eq_true rfl⟩)
    rw [exec_refuse7, hrefuse]
    exact doneQuiet_eq rfl rfl rfl rfl rfl
  case resend =>
    intro s id dst due fields hone hdue hkept
    obtain ⟨o, hlate⟩ := late_eq_obj s due
    rw [exec_vc7Resend, vc7Resend_due hone hdue hkept, hlate]
    refine ⟨_, doneQuiet_eq rfl rfl rfl rfl rfl, rfl, ?_, rfl, rfl⟩
    change s.fab.vc7Resend.erase (id, due) = []
    simp [hone]
  case arm =>
    intro r data s hop hfree hlen hboundary hahead hbox hload hall
    have hok : regionArmOk (operatorCtx r s 0x3101 0x07 data) s = true := by
      simp [regionArmOk, operatorCtx, hboundary, hahead, hbox, hload, hall]
    obtain ⟨m, he⟩ := regionChangeArm_accepted hop hfree hlen hok
    refine ⟨_, he, answers_respond .., ?_, ?_, ?_, respond_table .., respond_mem ..⟩
    · rw [respond_fab]
      rfl
    · rw [rd_respond _ _ _ _ _ (by decide) (by decide) (by decide)]
      exact rd_wr_same ..
    · rw [respond_fab]
      rfl
  case change =>
    intro s b corner extent harmed hdue
    let u : State := (allOpenSlots (s.late b)).foldl (fun s w => closeWin w s) (s.late b)
    obtain ⟨l, hclosed⟩ := foldl_closeWin_eq (allOpenSlots (s.late b)) (s.late b)
    obtain ⟨o, hlate⟩ := late_eq_obj s b
    have hu : u = { s with obj := o, wins := l } := hclosed.trans (by rw [hlate])
    have hregion := regionSet_setRegion corner extent u
    have hmoved : SameButRegion s (setRegion corner extent u) := hregion.sameButRegion (by rw [hu]; rfl)
    have hbox : (setRegion corner extent u).fab = s.fab.withBox corner extent := hregion.fab.trans (by rw [hu])
    rw [exec_regionChange, regionChange_due harmed hdue]
    refine ⟨_, hmoved.doneQuiet_eq, ?_, ?_, ?_, hregion.inEffect, fun w hw => ?_, hmoved.table, hmoved.mem⟩
    · exact congrArg Fabric.corner hbox
    · exact congrArg Fabric.extent hbox
    · exact congrArg Fabric.armed hbox
    · have hopen : ((s.late b).win w).state = 1 := (congrArg Win.state (win_congr (late_wins b s) w)).trans hw
      have hslot := win_foldl_closeWin (allOpenSlots (s.late b)) (mem_allOpenSlots hopen) hopen
      have hwin := (win_congr hregion.wins w).trans hslot
      exact ⟨congrArg Win.state hwin, (congrArg Win.close hwin).trans (late_beat b s)⟩
  case enable =>
    intro r b s hop hfree hb
    have hsame := sameButLinks_applyEnables b.toNat s.enqueueRequest
    have hstate {k : Nat} (hk : k < 6) : (respond r 0 false [] ((applyEnables b.toNat s.enqueueRequest).wr 0x3000 0x02
        b.toNat)).linkState k = if bitOf b.toNat k then s.linkState k else 0 := by
      have hkey {j w : Nat} (hw : w < 256) (hne : 0x3010 + k ≠ j) : objKey (0x3010 + k) 0x01 0 ≠ objKey j w 0 :=
        objKey_ne_of_index (by decide) hw hne
      refine (rd_respond _ _ _ _ _ (hkey (by decide) (by omega)) (hkey (by decide) (by omega)) (hkey (by decide) (by omega))).trans ?_
      refine (rd_wr_other _ _ _ _ (hkey (by decide) (by omega))).trans ?_
      exact linkState_applyEnables hk b.toNat s.enqueueRequest
    refine ⟨_, linkEnable_accepted hop hfree hb, answers_respond .., ?_, fun k hk hbit => ?_, fun k hk hbit => ?_, ?_, ?_⟩
    · rw [rd_respond _ _ _ _ _ (by decide) (by decide) (by decide), rd_wr_same]
    · rw [hstate hk, hbit]
      rfl
    · rw [hstate hk, hbit]
      rfl
    · exact (respond_table ..).trans hsame.table
    · exact (respond_mem ..).trans hsame.mem
  case release =>
    intro r b s hop hfree hb
    obtain ⟨t, he, ha, hreq, hhold, htable, hmem⟩ :=
      bypassRequested_bypassCommand hop hfree (b := b) (by simp [hb]) (by simp [hb])
    rw [exec_bypassRelease]
    subst hb
    exact ⟨t, he, ha, hreq, hhold, htable, hmem⟩
  case drive =>
    intro r b s hop hfree hb
    obtain ⟨t, he, ha, hreq, hhold, htable, hmem⟩ :=
      bypassRequested_bypassCommand hop hfree (b := b) (by simp [hb]) (by simp [hb])
    rw [exec_bypassDrive]
    subst hb
    exact ⟨t, he, ha, hreq, hhold, htable, hmem⟩

end Sys2Proof.Machine
end

section
/-! The Ethernet port: training, received frames, neighbours, echoes, path MTU and status frames (R54, R348 to R350, R369). -/

namespace Sys2Proof.Machine
open Sys2Proof

theorem exec_ethPortTraining (converged : Bool) (s : State) :
    exec (.ethPortTraining converged) s = doneQuiet s (ethPortTraining converged s) := rfl

theorem exec_ethPortDown (s : State) : exec .ethPortDown s = doneQuiet s (ethPortDown s) := rfl

theorem exec_ethFrameReceive (f : EthFrame) (s : State) :
    exec (.ethFrameReceive f) s = doneQuiet s (ethFrameReceive f s) := rfl

theorem exec_neighborSolicitation (target source : Bytes) (s : State) :
    exec (.neighborSolicitation target source) s = doneQuiet s (neighborSolicitation target source s) := rfl

theorem exec_echoRequest (source dest data : Bytes) (s : State) :
    exec (.echoRequest source dest data) s = doneQuiet s (echoRequest source dest data s) := rfl

theorem exec_packetTooBig (dest : Bytes) (mtu : Nat) (s : State) :
    exec (.packetTooBig dest mtu) s = doneQuiet s (packetTooBig dest mtu s) := rfl

theorem exec_statusFrame (s : State) : exec .statusFrame s = doneQuiet s (statusFrame s) := rfl

/-- A quiet command that changes objects alone answers what it did. -/
theorem SameButObj.doneQuiet_eq {s t : State} (h : SameButObj s t) : doneQuiet s t = .next t := by
  rw [h]
  exact Machine.doneQuiet_eq rfl rfl rfl rfl rfl

/-! ## The port (R348) -/

/-- Training that converges brings the port up, and beside it changes objects alone. -/
theorem ethPortTraining_converged {s : State} (hdown : s.portUp = false) (hmay : s.portMay = true) :
    SameButObj s (ethPortTraining true s) ∧ (ethPortTraining true s).portUp = true := by
  have hup : (s.wr 0x1100 0x03 2).portUp = true := decide_eq_true (rd_wr_same ..)
  have hkeeps : ((s.wr 0x1100 0x03 2).wr 0x1104 0x02 1).portUp = (s.wr 0x1100 0x03 2).portUp := by
    unfold State.portUp
    rw [rd_wr_other _ _ _ _ (by decide)]
  unfold ethPortTraining
  rw [hdown, hmay, if_neg (by decide : ¬(false || !true) = true), if_neg (by decide : ¬(!true) = true)]
  refine ⟨.ite (((SameButObj.refl s).wr ..).wr ..) ((SameButObj.refl s).wr ..), ?_⟩
  dsimp only
  split_ifs
  · exact hkeeps.trans hup
  · exact hup

/-- Training that does not converge leaves the port in TRAINING. -/
theorem ethPortTraining_unconverged {s : State} (hdown : s.portUp = false) (hmay : s.portMay = true) :
    ethPortTraining false s = s.wr 0x1100 0x03 1 := by
  simp [ethPortTraining, hdown, hmay]

/-- A port that is up goes down with its partner. -/
theorem ethPortDown_up {s : State} (hup : s.portUp = true) : ethPortDown s = s.wr 0x1100 0x03 0 := if_pos hup

/-! ## Received frames (R349) -/

/-- A frame counted, with the codewords that were corrected and those that were not. -/
def frameCounted (f : EthFrame) (s : State) : State :=
  ((s.bump 0x1100 0x06 1).bump 0x1100 0x08 f.corrected).bump 0x1100 0x09 f.uncorrectable

/-- The counters touch no other object. -/
theorem rd_frameCounted {i u : Nat} (h6 : objKey i u 0 ≠ objKey 0x1100 0x06 0) (h8 : objKey i u 0 ≠ objKey 0x1100 0x08 0)
    (h9 : objKey i u 0 ≠ objKey 0x1100 0x09 0) (f : EthFrame) (s : State) : (frameCounted f s).rd i u = s.rd i u := by
  unfold frameCounted
  rw [rd_bump_other _ _ _ _ h9, rd_bump_other _ _ _ _ h8, rd_bump_other _ _ _ _ h6]

/-- Whether a frame is dropped does not depend on the counters. -/
theorem frameDropped_frameCounted (s : State) (f g : EthFrame) : frameDropped (frameCounted g s) f = frameDropped s f := by
  unfold frameDropped
  rw [rd_frameCounted (by decide) (by decide) (by decide), rd_frameCounted (by decide) (by decide) (by decide)]

theorem counted_frames (f : EthFrame) (s : State) : Counted s (frameCounted f s) 0x1100 0x06 1 :=
  counted_bump_other (counted_bump_other (rd_bump_same ..) (by decide) _) (by decide) _

theorem counted_corrected (f : EthFrame) (s : State) : Counted s (frameCounted f s) 0x1100 0x08 f.corrected := by
  refine counted_bump_other ?_ (by decide) _
  unfold Counted
  rw [rd_bump_same, rd_bump_other _ _ _ _ (by decide)]

theorem counted_uncorrectable (f : EthFrame) (s : State) : Counted s (frameCounted f s) 0x1100 0x09 f.uncorrectable := by
  unfold Counted frameCounted
  rw [rd_bump_same, rd_bump_other _ _ _ _ (by decide), rd_bump_other _ _ _ _ (by decide)]

/-- A frame on a port that is up and not looped is counted, and handed to its protocol unless it pauses or is dropped. -/
theorem ethFrameReceive_up {s : State} (hup : s.portUp = true) (hloop : s.rd 0x7F00 0x01 = 0) (f : EthFrame) :
    ethFrameReceive f s = { frameCounted f s with eth := { s.eth with
      handed := if f.pause || frameDropped s f then none else some (f.proto, f.port) } } := by
  rw [← frameDropped_frameCounted s f f]
  simp only [ethFrameReceive, hup, hloop, Bool.not_true, ne_eq, not_true_eq_false, decide_false, Bool.or_self,
    Bool.false_eq_true, if_false]
  rfl

/-! ## Neighbours, echoes and the path MTU (R350) -/

theorem neighborSolicitation_own {s : State} {target : Bytes} (hup : s.portUp = true) (hown : s.ownAddress target = true)
    (source : Bytes) : neighborSolicitation target source s = ethSend "neighbor advertisement" source target s := by
  simp [neighborSolicitation, hup, hown]

theorem echoRequest_own {s : State} {dest : Bytes} (hup : s.portUp = true) (hown : s.ownAddress dest = true)
    (source data : Bytes) : echoRequest source dest data s = ethSend "echo reply" source data s := by
  simp [echoRequest, hup, hown]

/-- A packet sent stores nothing. -/
theorem doneQuiet_ethSend (what : String) (dest data : Bytes) (s : State) :
    doneQuiet s (ethSend what dest data s) = .next ((s.bump 0x1100 0x07 1).send (.eth what dest data)) :=
  doneQuiet_eq rfl rfl rfl rfl rfl

theorem packetTooBig_up {s : State} (hup : s.portUp = true) (dest : Bytes) (mtu : Nat) : packetTooBig dest mtu s =
    { s with eth := { s.eth with mtu := (dest, max 1280 mtu) :: s.eth.mtu.filter fun x => x.1 ≠ dest } } := by
  simp [packetTooBig, hup]

/-- An association list with a key's entries taken away finds every other key as before. -/
theorem find?_filter_key_ne {α β : Type} [DecidableEq α] {a b : α} (h : b ≠ a) (l : List (α × β)) :
    (l.filter fun x => x.1 ≠ a).find? (fun x => x.1 = b) = l.find? fun x => x.1 = b := by
  rw [List.find?_filter]
  congr 1
  funext x
  by_cases hx : x.1 = b
  · simp [hx, h]
  · simp [hx]

/-! ## Status frames (R54, R369) -/

/-- At its beat a frame of the state's fields leaves through a port that is up, and SEQ rises. -/
theorem statusFrame_sent {s : State} (hbeat : s.statusBeat = true) (hready : s.boot.ready = true) (hon : s.rd 0x1102 0x03 = 1)
    (hup : s.portUp = true) (hloop : s.rd 0x7F00 0x01 = 0) : statusFrame s =
      ((s.bump 0x1100 0x07 1).send (.statusFrame s.statusFields)).modTime fun t =>
        { t with statusSeq := (t.statusSeq + 1) % 0x100000000 } := by
  simp only [statusFrame, hbeat, hready, hon, hup, hloop, Bool.not_true, Bool.or_self, Bool.false_eq_true, if_false,
    decide_true, Bool.and_self, if_true]
  rfl

/-- Settles O49: each clause is the branch of its command that the port's state selects. -/
theorem theEthernetPortAnswers : Obligations.TheEthernetPortAnswers := by
  refine ⟨?comesUp, ?trains, ?goesDown, ?frame, ?solicited, ?echoed, ?tooBig, ?status⟩
  case comesUp =>
    intro s hdown hmay
    obtain ⟨hsame, hup⟩ := ethPortTraining_converged hdown hmay
    exact ⟨_, hsame.doneQuiet_eq, hup, hsame.table, hsame.mem⟩
  case trains =>
    intro s hdown hmay
    rw [exec_ethPortTraining, ethPortTraining_unconverged hdown hmay]
    exact ((SameButObj.refl s).wr ..).doneQuiet_eq
  case goesDown =>
    intro s hup
    rw [exec_ethPortDown, ethPortDown_up hup]
    exact ((SameButObj.refl s).wr ..).doneQuiet_eq
  case frame =>
    intro s f hup hloop
    rw [exec_ethFrameReceive, ethFrameReceive_up hup hloop]
    exact ⟨_, doneQuiet_eq rfl rfl rfl rfl rfl, counted_frames f s, counted_corrected f s, counted_uncorrectable f s,
      rfl, rfl, rfl, rfl⟩
  case solicited =>
    intro s target source hup hown
    rw [exec_neighborSolicitation, neighborSolicitation_own hup hown]
    exact doneQuiet_ethSend ..
  case echoed =>
    intro s source dest data hup hown
    rw [exec_echoRequest, echoRequest_own hup hown]
    exact doneQuiet_ethSend ..
  case tooBig =>
    intro s dest mtu hup
    rw [exec_packetTooBig, packetTooBig_up hup]
    refine ⟨_, doneQuiet_eq rfl rfl rfl rfl rfl, List.find?_cons_of_pos (decide_eq_true rfl), fun d hd => ?_, rfl, rfl⟩
    exact (List.find?_cons_of_neg (by simpa using hd.symm)).trans (find?_filter_key_ne hd s.eth.mtu)
  case status =>
    intro s hbeat hready hon hup hloop
    rw [exec_statusFrame, statusFrame_sent hbeat hready hon hup hloop]
    exact ⟨_, s.statusFields, doneQuiet_eq rfl rfl rfl rfl rfl, rfl, rfl, rfl, rd_bump_same .., rfl, rfl⟩

end Sys2Proof.Machine
end

section
/-! What a response of the dictionary leaves to be read: every object but its counters, and its count (R364, R370). -/

namespace Sys2Proof.Machine
open Sys2Proof

/-- A counter advanced leaves every other object, under every ring and context. -/
theorem rdI_bump_other {i u n j w : Nat} (h : objKey i u n ≠ objKey j w 0) (s : State) (k : Nat) :
    (s.bump j w k).rdI i u n = s.rdI i u n := rdI_wrI_other _ _ _ _ _ h

/-- What both of two states hold, the one that is chosen holds. -/
theorem rdI_ite {p : Prop} [Decidable p] {s t : State} {i u n v : Nat} (hs : s.rdI i u n = v) (ht : t.rdI i u n = v) :
    (if p then s else t).rdI i u n = v := by
  split_ifs
  · exact hs
  · exact ht

/-- A response counts itself among the responses, perhaps among the refusals, and touches no other object. -/
theorem respond_rdI {i u n : Nat} (h2 : objKey i u n ≠ objKey 0x1105 0x02 0) (h7 : objKey i u n ≠ objKey 0x7800 0x07 0)
    (r : DictReq) (status : Nat) (last : Bool) (value : Bytes) (s : State) :
    (respond r status last value s).rdI i u n = (s.bump 0x1105 0x01 1).rdI i u n := by
  unfold respond
  extract_lets s1 s2 s3 s4
  have hcounted : s2.rdI i u n = (s.bump 0x1105 0x01 1).rdI i u n := rfl
  have hrefused : s3.rdI i u n = (s.bump 0x1105 0x01 1).rdI i u n := rdI_ite hcounted ((rdI_bump_other h2 s2 1).trans hcounted)
  have hobjects : s4.rdI i u n = (s.bump 0x1105 0x01 1).rdI i u n := rdI_ite ((rdI_bump_other h7 s3 1).trans hrefused) hrefused
  cases r.session with
  | none => exact hobjects
  | some k => exact hobjects

/-- Every object but the response's counters reads as before, under every ring and context. -/
theorem rdI_respond {i u n : Nat} (h1 : objKey i u n ≠ objKey 0x1105 0x01 0) (h2 : objKey i u n ≠ objKey 0x1105 0x02 0)
    (h7 : objKey i u n ≠ objKey 0x7800 0x07 0) (r : DictReq) (status : Nat) (last : Bool) (value : Bytes) (s : State) :
    (respond r status last value s).rdI i u n = s.rdI i u n :=
  (respond_rdI h2 h7 ..).trans (rdI_bump_other h1 s 1)

/-- Every response is counted once. -/
theorem counted_respond (r : DictReq) (status : Nat) (last : Bool) (value : Bytes) (s : State) :
    Counted s (respond r status last value s) 0x1105 0x01 1 :=
  (respond_rdI (by decide) (by decide) ..).trans (rd_bump_same ..)

end Sys2Proof.Machine
end

section
/-! RoCEv2 and the ring pairs: a host's write, congestion, retries, and the switch of a ring pair (R352 to R355). -/

namespace Sys2Proof.Machine
open Sys2Proof

theorem exec_rdmaWrite (ring offset : Nat) (data : Bytes) (ecn : Bool) (s : State) :
    exec (.rdmaWrite ring offset data ecn) s = doneQuiet s (rdmaWrite ring offset data ecn s) := rfl

theorem exec_cnp (ring : Nat) (s : State) : exec (.cnp ring) s = doneQuiet s (cnp ring s) := rfl

theorem exec_cnpRateHalvingEnd (ring : Nat) (s : State) :
    exec (.cnpRateHalvingEnd ring) s = doneQuiet s (cnpRateHalvingEnd ring s) := rfl

theorem exec_localAckTimeout (ring : Nat) (acked : Bool) (s : State) :
    exec (.localAckTimeout ring acked) s = doneQuiet s (localAckTimeout ring acked s) := rfl

/-! ## A host's writes and its congestion (R352, R355) -/

section Host
variable {s : State} {ring : Nat} (hup : s.portUp = true) (hready : s.ringReady ring = true)
include hup hready

theorem rdmaWrite_inside (hring : ring < 256) {offset : Nat} {data : Bytes} (hfits : offset + data.length ≤ s.ringBytes ring) :
    rdmaWrite ring offset data false s = { s with landed := s.landed ++ [(s.beat, ringBase ring + offset, data)] } := by
  simp [rdmaWrite, hup, hready, Nat.not_le.mpr hring, Nat.not_lt.mpr hfits]

theorem rdmaWrite_outside (hring : ring < 256) {offset : Nat} {data : Bytes} (hpast : s.ringBytes ring < offset + data.length) :
    rdmaWrite ring offset data false s = ethSend "remote access error" (leBytes 2 ring) [] s := by
  simp [rdmaWrite, hup, hready, Nat.not_le.mpr hring, hpast]

theorem cnp_ready : cnp ring s = s.modRing ring fun r => { r with rateHalf := some (s.beat + 64) } := by
  simp [cnp, hup, hready]

end Host

theorem cnpRateHalvingEnd_due {s : State} {ring e : Nat} (hhalf : (s.ring ring).rateHalf = some e) (hdue : e ≤ s.beat) :
    cnpRateHalvingEnd ring s = (s.late e).modRing ring fun r => { r with rateHalf := none } := by
  unfold cnpRateHalvingEnd
  rw [hhalf]
  exact if_neg (Nat.not_lt.mpr hdue)

@[simp] theorem late_rings (due : Nat) (s : State) : (s.late due).rings = s.rings := by
  obtain ⟨o, h⟩ := late_eq_obj s due
  rw [h]

/-! ## Retries (R352, R353) -/

/-- Retries of the queue pair's oldest write after one more timeout. -/
def retriesAfter (s : State) (ring : Nat) (acked : Bool) : Nat := if acked then 1 else (s.ring ring).retries + 1

/-- The retries of a ring counted. -/
def countRetries (ring n : Nat) (s : State) : State := s.modRing ring fun r => { r with retries := n }

/-- A timeout counts a retry, and the eighth puts the queue pair in ERROR. -/
theorem localAckTimeout_ready {s : State} {ring : Nat} (hready : s.ringReady ring = true) (acked : Bool) :
    localAckTimeout ring acked s = if 7 < retriesAfter s ring acked then
      (countRetries ring (retriesAfter s ring acked) s).wrI 0x1111 0x0D ring 2 else countRetries ring (retriesAfter s ring acked) s := by
  unfold localAckTimeout
  rw [hready]
  rfl

/-- Beside the retries a timeout changes objects alone. -/
theorem sameButObj_localAckTimeout {s : State} {ring : Nat} (hready : s.ringReady ring = true) (acked : Bool) :
    SameButObj (countRetries ring (retriesAfter s ring acked) s) (localAckTimeout ring acked s) := by
  rw [localAckTimeout_ready hready]
  exact .ite ((SameButObj.refl _).wrI ..) (.refl _)

/-- The queue pair of a ready ring is in ERROR after the eighth attempt, and ready before. -/
theorem rdI_localAckTimeout {s : State} {ring : Nat} (hready : s.ringReady ring = true) (acked : Bool) :
    (localAckTimeout ring acked s).rdI 0x1111 0x0D ring = if 7 < retriesAfter s ring acked then 2 else 1 := by
  obtain ⟨-, hpair⟩ : s.rdI 0x1111 0x09 ring = 1 ∧ s.rdI 0x1111 0x0D ring = 1 := by simpa [State.ringReady] using hready
  rw [localAckTimeout_ready hready]
  by_cases herror : 7 < retriesAfter s ring acked
  · rw [if_pos herror, if_pos herror, rdI_wrI_same]
  · rw [if_neg herror, if_neg herror]
    exact hpair

/-! ## The switch of a ring pair (R353, R354) -/

/-- The row of the switch in the dictionary (R370). -/
def ringSwitchRow : ObjRow := ⟨0x1111, 0x1111, 0x09, 0x09, .bool, 1, .rw, 0, 0, 1⟩

theorem writable_ringSwitch {b : Byte} (h : b.toNat ≤ 1) : Writable 0x1111 0x09 ringSwitchRow [b] where
  sub_ne := by decide
  row_eq := by decide +kernel
  admits := rfl
  right := fun _ _ _ => by simp [rights]
  type := rfl
  range := by simpa [rangeBad, ringSwitchRow, beNat_singleton] using h
  mailbox := rfl

/-- An accepted write of the switch takes effect and is answered. -/
theorem dictWrite_ringSwitch {r : DictReq} {b : Byte} {s : State} (hop : ByOperator r s) (hfree : NotBusy r s 0x1111 0x09)
    (hb : b.toNat ≤ 1) {accept : WriteCtx → State → Bool} (hok : accept (operatorCtx r s 0x1111 0x09 [b]) s.enqueueRequest = true) :
    dictWrite r 0x1111 0x09 [b] accept (fun _ c s => switchRing c s) s =
      respond r 0 false [] (switchRing (operatorCtx r s 0x1111 0x09 [b]) s.enqueueRequest) := by
  rw [dictWrite, dictWriteElse_accepted hop hfree (writable_ringSwitch hb) hok, if_neg (by decide)]

/-- The switch of a ring pair changes objects and the record of its ring alone. -/
theorem switchRing_eq (c : WriteCtx) (s : State) : ∃ o l, switchRing c s = { s with obj := o, rings := l } := ⟨_, _, rfl⟩

/-- The switch holds the value written, and its queue pair is ready on the head and the tail of an enabled one. -/
theorem rdI_switchRing (c : WriteCtx) (s : State) : (switchRing c s).rdI 0x1111 0x09 c.inst = c.value ∧
    (switchRing c s).rdI 0x1111 0x0D c.inst = if c.value = 1 ∧ (s.isHead || s.isTail) = true then 1 else 0 := by
  unfold switchRing
  extract_lets t
  have hrd {u : Nat} (hu : u < 256) : t.rd 0x3101 u = s.rd 0x3101 u := rdI_wrI_other s _ _ _ _ (by unfold objKey; omega)
  have hhead : t.isHead = s.isHead := isHead_congr (hrd (by decide)) (hrd (by decide)) rfl
  have htail : t.isTail = s.isTail := isTail_congr (hrd (by decide)) (hrd (by decide)) rfl
  constructor
  · rw [rdI_wrI_other _ _ _ _ _ (objKey_ne_of_sub (by decide) (by decide) (by decide))]
    exact rdI_wrI_same s ..
  · rw [rdI_wrI_same, hhead, htail]
    simp

/-- A ring pair that is off, owned and addressed may be enabled (R353). -/
theorem ringSwitchOk_of_set {c : WriteCtx} {s : State} (hburgee : s.rdI 0x1111 0x01 c.inst ≠ 0xFFFF)
    (hingress : ringSizeOk (s.rdI 0x1111 0x02 c.inst) = true) (hcompletion : ringSizeOk (s.rdI 0x1111 0x03 c.inst) = true)
    (hhost : s.oct? 0x1111 0x06 c.inst (zeros 16) ≠ zeros 16) (hoff : s.rdI 0x1111 0x09 c.inst = 0) :
    ringSwitchOk c s = true := by
  simp [ringSwitchOk, hburgee, hingress, hcompletion, hhost, hoff]

/-- What an operator's accepted write of the switch leaves behind. -/
structure Switched (r : DictReq) (v : Nat) (s t : State) : Prop where
  answers : Answers r 0 [] t
  enabled : t.rdI 0x1111 0x09 (instOf s r.session 0x1111 0x09) = v
  pair : t.rdI 0x1111 0x0D (instOf s r.session 0x1111 0x09) = if v = 1 ∧ (s.isHead || s.isTail) = true then 1 else 0
  table : t.table = s.table
  mem : t.mem = s.mem

theorem switched_dictWrite {r : DictReq} {b : Byte} {s : State} (hop : ByOperator r s) (hfree : NotBusy r s 0x1111 0x09)
    (hb : b.toNat ≤ 1) {accept : WriteCtx → State → Bool} (hok : accept (operatorCtx r s 0x1111 0x09 [b]) s.enqueueRequest = true) :
    ∃ t, doneQuiet s (dictWrite r 0x1111 0x09 [b] accept (fun _ c s => switchRing c s) s) = .next t ∧
      Switched r b.toNat s t := by
  let c := operatorCtx r s 0x1111 0x09 [b]
  obtain ⟨o, l, hswitch⟩ := switchRing_eq c s.enqueueRequest
  obtain ⟨henabled, hpair⟩ := rdI_switchRing c s.enqueueRequest
  have hvalue : c.value = b.toNat := beNat_singleton b
  have hrespond {u : Nat} (hu : u < 256) : (respond r 0 false [] (switchRing c s.enqueueRequest)).rdI 0x1111 u c.inst =
      (switchRing c s.enqueueRequest).rdI 0x1111 u c.inst :=
    rdI_respond (by unfold objKey; omega) (by unfold objKey; omega) (by unfold objKey; omega) ..
  have hsecond : (switchRing c s.enqueueRequest).table = s.table ∧ (switchRing c s.enqueueRequest).mem = s.mem := by
    rw [hswitch]
    exact ⟨rfl, rfl⟩
  have hquiet : doneQuiet s (respond r 0 false [] (switchRing c s.enqueueRequest)) =
      .next (respond r 0 false [] (switchRing c s.enqueueRequest)) := by
    rw [hswitch]
    exact doneQuiet_respond _ _ _ _ _ rfl rfl rfl rfl rfl
  rw [dictWrite_ringSwitch hop hfree hb hok]
  refine ⟨_, hquiet, answers_respond .., ?enabled, ?pair, (respond_table ..).trans hsecond.1, (respond_mem ..).trans hsecond.2⟩
  case enabled => exact (hrespond (by decide)).trans (henabled.trans hvalue)
  case pair => exact (hrespond (by decide)).trans (hpair.trans (by rw [hvalue]; rfl))

theorem exec_ringEnable (r : DictReq) (data : Bytes) (s : State) : exec (.ringEnable r data) s = doneQuiet s
    (dictWrite r 0x1111 0x09 data (fun c s => c.value = 1 && ringSwitchOk c s) (fun _ c s => switchRing c s) s) := rfl

theorem exec_ringDisable (r : DictReq) (data : Bytes) (s : State) : exec (.ringDisable r data) s = doneQuiet s
    (dictWrite r 0x1111 0x09 data (fun c _ => c.value = 0) (fun _ c s => switchRing c s) s) := rfl

/-- Settles O50: a host's write and a CNP by the branch that their ring selects, a timeout by `localAckTimeout_ready`, and the
switch by `switched_dictWrite`. -/
theorem ringPairsServeTheHost : Obligations.RingPairsServeTheHost := by
  refine ⟨?lands, ?refused, ?halves, ?ends, ?retries, ?enable, ?disable⟩
  case lands =>
    intro s ring offset data hup hready hring hfits
    rw [exec_rdmaWrite, rdmaWrite_inside hup hready hring hfits]
    exact doneQuiet_eq rfl rfl rfl rfl rfl
  case refused =>
    intro s ring offset data hup hready hring hpast
    rw [exec_rdmaWrite, rdmaWrite_outside hup hready hring hpast]
    exact ⟨_, doneQuiet_ethSend .., rfl, rfl, rfl⟩
  case halves =>
    intro s ring hup hready
    rw [exec_cnp, cnp_ready hup hready]
    exact ⟨_, doneQuiet_eq rfl rfl rfl rfl rfl, congrArg Ring.rateHalf (ring_modRing_same ..),
      fun r hr => ring_modRing_other _ _ _ hr, rfl, rfl⟩
  case ends =>
    intro s ring e hhalf hdue
    rw [exec_cnpRateHalvingEnd, cnpRateHalvingEnd_due hhalf hdue]
    obtain ⟨u, hu, hq⟩ := doneQuiet_requests s ((s.late e).modRing ring fun r => { r with rateHalf := none })
    have hring (r : Nat) : (s.late e).ring r = s.ring r := ring_congr (late_rings e s) r
    refine ⟨u, hu, ?_, ?_, fun r hr => ?_, hq.table.trans (late_table ..)⟩
    · rw [ring_congr hq.rings, ring_modRing_same]
    · rw [ring_congr hq.rings, ring_modRing_same, hring]
    · rw [ring_congr hq.rings, ring_modRing_other _ _ _ hr, hring]
  case retries =>
    intro s ring acked hready
    have hsame := sameButObj_localAckTimeout hready acked
    obtain ⟨t, ht, hq⟩ := doneQuiet_requests s (localAckTimeout ring acked s)
    have hring (k : Nat) : t.ring k = (countRetries ring (retriesAfter s ring acked) s).ring k :=
      ring_congr (hq.rings.trans hsame.rings) k
    refine ⟨t, ht, ?_, (rdI_congr hq.obj ..).trans (rdI_localAckTimeout hready acked), fun k hk => ?_,
      hq.table.trans hsame.table⟩
    · exact congrArg Ring.retries ((hring ring).trans (ring_modRing_same ..))
    · exact (hring k).trans (ring_modRing_other _ _ _ hk)
  case enable =>
    intro r b s hop hfree hb hburgee hingress hcompletion hhost hoff
    have hok : ringSwitchOk (operatorCtx r s 0x1111 0x09 [b]) s.enqueueRequest = true :=
      ringSwitchOk_of_set hburgee hingress hcompletion hhost hoff
    subst hb
    obtain ⟨t, ht, hswitched⟩ := switched_dictWrite hop hfree (b := 1#8)
      (accept := fun c s => c.value = 1 && ringSwitchOk c s) (by decide)
      (Bool.and_eq_true_iff.mpr ⟨decide_eq_true (beNat_singleton 1#8), hok⟩)
    exact ⟨t, ht, hswitched.answers, hswitched.enabled, by simpa using hswitched.pair, hswitched.table, hswitched.mem⟩
  case disable =>
    intro r b s hop hfree hb
    subst hb
    obtain ⟨t, ht, hswitched⟩ := switched_dictWrite hop hfree (b := 0#8)
      (accept := fun c _ => c.value = 0) (by decide) (decide_eq_true (beNat_singleton 0#8))
    exact ⟨t, ht, hswitched.answers, hswitched.enabled, by simpa using hswitched.pair, hswitched.table, hswitched.mem⟩

end Sys2Proof.Machine
end

section
/-! Reads and writes of the dictionary by an operator, block transfers, and secured messages (R365, R367, R375 to R378). -/

namespace Sys2Proof.Machine
open Sys2Proof

theorem exec_read (r : DictReq) (index sub : Nat) (s : State) :
    exec (.read r index sub) s = doneQuiet s (readObject r index sub s) := rfl

theorem exec_readBlock (r : DictReq) (index sub offset : Nat) (s : State) :
    exec (.readBlock r index sub offset) s = doneQuiet s (readSegment r index sub offset s) := rfl

theorem exec_write (r : DictReq) (index sub : Nat) (data : Bytes) (s : State) :
    exec (.write r index sub data) s = done s (writeObject r index sub data s) := rfl

theorem exec_writeBlock (r : DictReq) (index sub offset : Nat) (last : Bool) (data : Bytes) (s : State) :
    exec (.writeBlock r index sub offset last data) s = done s (dictServe r (segmentWrite r index sub offset last data) s) := rfl

theorem exec_blockTransferTimeout (index sub : Nat) (s : State) :
    exec (.blockTransferTimeout index sub) s = doneQuiet s (blockTransferTimeout index sub s) := rfl

theorem exec_secured (session xid : Nat) (intact : Bool) (s : State) :
    exec (.secured session xid intact) s = doneQuiet s (secured session xid intact s) := rfl

/-! ## The response (R364, R370) -/

section Respond
variable (r : DictReq) (status : Nat) (last : Bool) (value : Bytes) (s : State)

@[simp] theorem respond_pend : (respond r status last value s).pend = s.pend := by
  obtain ⟨o, x, h⟩ := respond_eq r status last value s
  rw [h]

@[simp] theorem respond_eth : (respond r status last value s).eth = s.eth := by
  obtain ⟨o, x, h⟩ := respond_eq r status last value s
  rw [h]

/-- A response OK counts itself and touches no other object. -/
theorem rdI_respond_ok {i u n : Nat} (h : objKey i u n ≠ objKey 0x1105 0x01 0) :
    (respond r 0 last value s).rdI i u n = s.rdI i u n := by
  unfold respond
  extract_lets s1 s2 s3 s4
  have h4 : s4.rdI i u n = s.rdI i u n := rdI_bump_other h s1 1
  cases r.session with
  | none => exact h4
  | some k => exact h4

/-- A command that keeps the queue and then answers its request answers with what it did. -/
theorem done_respond {u : State} (h : u.pending = s.pending) :
    done s (respond r status last value u) = .next (respond r status last value u) := done_eq ((respond_pending ..).trans h)

end Respond

/-- A request that is taken up and repeats no XID is judged by its body, and answered with the body's LAST bit. -/
theorem dictServeLast_of_served {r : DictReq} {s : State} (h : Served r s) (body : State → Nat × Bool × Bytes × State) :
    dictServeLast r body s = respond r (body s.enqueueRequest).1 (body s.enqueueRequest).2.1 (body s.enqueueRequest).2.2.1
      (body s.enqueueRequest).2.2.2 := by
  obtain ⟨hup, hmagic, hversion, hroom, hnew⟩ := h
  have hnew' : repeated s.enqueueRequest r = none := hnew
  simp [dictServeLast, hup, hmagic, hversion, Nat.not_le.mpr hroom, hnew']

/-! ## An operator's access (R378, R381) -/

/-- The operator's rights are a matter of the object alone. -/
theorem rights_operator (s t : State) (index sub i j v w : Nat) :
    rights s .operator index sub i v = rights t .operator index sub j w := by
  simp [rights]

/-- An operator's request for an object that is not there is answered NO_OBJECT. -/
theorem judgeAccess_absent {r : DictReq} {s : State} {index sub : Nat} (h : ByOperator r s) (habsent : presentRow s index sub = none)
    (value : Nat) (write : Bool) : judgeAccess s.enqueueRequest r index sub value write = .inl 1 := by
  obtain ⟨-, hrole, hop, -⟩ := h
  rw [judgeAccess_enqueueRequest]
  simp [judgeAccess, hrole, hop, habsent]

/-- An operator's read of a present object that it may read passes the tests. -/
theorem judgeAccess_read {r : DictReq} {s : State} {index sub : Nat} {row : ObjRow} (h : ByOperator r s)
    (hrow : presentRow s index sub = some row) (hread : mayRead s .operator index sub (instOf s r.session index sub) = true)
    (value : Nat) : judgeAccess s.enqueueRequest r index sub value false = .inr (.operator, row) := by
  obtain ⟨-, hrole, hop, -⟩ := h
  rw [judgeAccess_enqueueRequest]
  simp [judgeAccess, hrole, hop, hrow, visible, hread]

/-! ## READ and READ_BLOCK (R365, R376) -/

/-- A free value drawn changes the number of draws alone. -/
theorem drawRead_eq (index : Nat) (s : State) : ∃ n, drawRead index s = { s with draws := n } := by
  unfold drawRead
  split_ifs
  · exact ⟨_, rfl⟩
  · exact ⟨s.draws, rfl⟩

section Reads
variable {r : DictReq} {s : State} {index sub : Nat} {row : ObjRow} (h : ByOperator r s) (hnow : s.entryWaits index sub = false)
include h hnow

theorem readObject_present (hrow : presentRow s index sub = some row) (htype : row.type ≠ .domain)
    (hread : mayRead s .operator index sub (instOf s r.session index sub) = true) : readObject r index sub s = respond r 0 false
      (s.enqueueRequest.readValue r.session row index sub (instOf s r.session index sub)) (drawRead index s.enqueueRequest) := by
  rw [readObject, hnow, if_neg (by decide), dictServe_of_served h.1, judgeAccess_read h hrow hread]
  dsimp only
  rw [if_neg htype]
  rfl

theorem readObject_absent (habsent : presentRow s index sub = none) :
    readObject r index sub s = respond r 1 false [] s.enqueueRequest := by
  rw [readObject, hnow, if_neg (by decide), dictServe_of_served h.1, judgeAccess_absent h habsent]

theorem readSegment_present {offset : Nat} {v : Bytes} (hrow : presentRow s index sub = some row) (htype : blockType row = true)
    (hread : mayRead s .operator index sub (instOf s r.session index sub) = true)
    (hv : v = s.enqueueRequest.readValue r.session row index sub (instOf s r.session index sub)) (hin : offset ≤ v.length) :
    readSegment r index sub offset s =
      respond r 0 (decide (v.length ≤ offset + 1024)) ((v.drop offset).take 1024) s.enqueueRequest := by
  have hinst : instOf s.enqueueRequest r.session index sub = instOf s r.session index sub := rfl
  rw [readSegment, hnow, if_neg (by decide), dictServeLast_of_served h.1, judgeAccess_read h hrow hread]
  dsimp only
  rw [htype, if_neg (by decide), hinst, ← hv, if_neg (Nat.not_lt.mpr hin)]

end Reads

/-! ## WRITE (R7, R8, R375, R378) -/

/-- An accepted write of a numeric RWF object is kept pending (R8). -/
theorem storeWrite_uint_rwf {row : ObjRow} (ht : row.type = .uint) (ha : row.access = .rwf) (index sub : Nat) (c : WriteCtx)
    (s : State) : storeWrite row index sub c s = { s with pend := sput (objKey index sub c.inst) c.value s.pend } := by
  simp [storeWrite, ht, ha]

/-- A numeric object with a right of the operator's takes every value of its length and range. -/
theorem writable_uint {index sub inst : Nat} {row : ObjRow} {data : Bytes} {s : State} (hsub : sub ≠ 0)
    (hrow : objRow index sub = some row) (hacc : row.access = .rw ∨ row.access = .rwf) (htype : row.type = .uint)
    (hlen : data.length = row.len) (hleast : row.least ≤ beNat data) (hmost : beNat data ≤ row.most)
    (hright : (rights s .operator index sub inst (beNat data)).2 = true) (hmailbox : isHostMailbox index sub = false) :
    Writable index sub row data where
  sub_ne := hsub
  row_eq := hrow
  admits := by rcases hacc with ha | ha <;> rw [ha] <;> rfl
  right := fun t i v => (congrArg Prod.snd (rights_operator ..)).trans hright
  type := by simp [typeBad, htype, hlen]
  range := by simp [rangeBad, htype, Nat.not_lt.mpr hleast, Nat.not_lt.mpr hmost]
  mailbox := hmailbox

/-- A value of the wrong length is answered TYPE before its value is looked at. -/
theorem judgeWrite_typeBad {r : DictReq} {s : State} {index sub : Nat} {row : ObjRow} {data : Bytes} {block : Bool} {role : Role}
    (hacc : judgeAccess s r index sub (beNat data) true = .inr (role, row)) (htype : typeBad row block data.length = true)
    (accept : WriteCtx → State → Bool) (effect : ObjRow → WriteCtx → State → State) (reject : WriteCtx → State → State) :
    judgeWrite r index sub block data accept effect reject s = (4, [], s) := by
  simp [judgeWrite, hacc, htype]

/-- A value out of its object's range is answered RANGE before the object's own rule is asked. -/
theorem judgeWrite_rangeBad {r : DictReq} {s : State} {index sub : Nat} {row : ObjRow} {data : Bytes} {block : Bool} {role : Role}
    (hacc : judgeAccess s r index sub (beNat data) true = .inr (role, row)) (htype : typeBad row block data.length = false)
    (hrange : rangeBad row data = true) (accept : WriteCtx → State → Bool) (effect : ObjRow → WriteCtx → State → State)
    (reject : WriteCtx → State → State) : judgeWrite r index sub block data accept effect reject s = (3, [], s) := by
  simp [judgeWrite, hacc, htype, hrange]

/-- An object without behaviour of its own stores an accepted write, and Masthead may be woken by it. -/
theorem writeObject_stored {r : DictReq} {s : State} {index sub : Nat} {row : ObjRow} {data : Bytes} (h : ByOperator r s)
    (hfree : NotBusy r s index sub) (hw : Writable index sub row data)
    (heffect : ∀ c u, effectOf index sub row c u = storeWrite row index sub c u)
    (hok : acceptOf index sub (operatorCtx r s index sub data) s.enqueueRequest = true) : ∃ m, writeObject r index sub data s =
      respond r 0 false [] { storeWrite row index sub (operatorCtx r s index sub data) s.enqueueRequest with masthead := m } := by
  let u := storeWrite row index sub (operatorCtx r s index sub data) s.enqueueRequest
  obtain ⟨m, hwake⟩ := raiseWake_eq u
  rw [writeObject, hw.mailbox, if_neg (by decide), dictWriteElse_accepted h hfree hw hok, heffect]
  split_ifs
  · exact ⟨m, congrArg (respond r 0 false []) hwake⟩
  · exact ⟨u.masthead, rfl⟩

/-- The row of the watchdog's period (R55). -/
def watchdogRow : ObjRow := ⟨0x1203, 0x1203, 0x01, 0x01, .uint, 4, .rw, 4096, 0, 4294967295⟩

theorem objRow_watchdog : objRow 0x1203 0x01 = some watchdogRow := by decide +kernel

/-- The row of the power limit (R385). -/
def powerLimitRow : ObjRow := ⟨0x2000, 0x2000, 0x02, 0x02, .uint, 2, .rwf, 1100, 300, 1100⟩

theorem objRow_powerLimit : objRow 0x2000 0x02 = some powerLimitRow := by decide +kernel

/-! ## WRITE_BLOCK (R365) -/

/-- The row of the profile's object (R383). -/
def profileRow : ObjRow := ⟨0x1400, 0x1400, 0x05, 0x05, .domain, 65536, .wo, 0, 0, 0⟩

theorem objRow_profile : objRow 0x1400 0x05 = some profileRow := by decide +kernel

/-- A segment held, with the beat of its arrival. -/
def holdBlock (key : Nat) (session : Option Nat) (data : Bytes) (s : State) : State :=
  { s with eth := { s.eth with
      blocks := (s.closeBlock key session).eth.blocks ++ [(key, session, data.length, data, s.beat)] } }

/-- A first segment of a profile is held until LAST. -/
theorem segmentWrite_profile {r : DictReq} {s : State} {data : Bytes} (h : ByOperator r s) (hfree : NotBusy r s 0x1400 0x05)
    (hlen : data.length ≤ 1024) : segmentWrite r 0x1400 0x05 0 false data s.enqueueRequest =
      (0, [], holdBlock (objKey 0x1400 0x05 0) r.session data s.enqueueRequest) := by
  have hacc : judgeAccess s.enqueueRequest r 0x1400 0x05 0 true = .inr (.operator, profileRow) := by
    rw [judgeAccess_enqueueRequest]
    exact judgeAccess_operator h (by decide) objRow_profile rfl fun _ _ => by simp [rights]
  have hinst : instOf s.enqueueRequest r.session 0x1400 0x05 = 0 := instOf_single (by decide) (by decide) (by decide) ..
  have hbusy : blockBusy s.enqueueRequest r 0x1400 0x05 0 = false := by
    unfold NotBusy at hfree
    rwa [instOf_single (by decide) (by decide) (by decide)] at hfree
  unfold segmentWrite
  rw [hacc]
  dsimp only
  rw [hinst, hbusy, if_neg (by decide), if_neg (Nat.not_lt.mpr hlen), if_neg (by decide), if_pos (by decide)]
  have hjoin : joinSegment (s.enqueueRequest.blockSoFar (objKey 0x1400 0x05 0) r.session 0) 0 data = (data.length, data) := by
    simp [joinSegment, State.blockSoFar]
  rw [hjoin]
  rfl

/-- A transfer without a segment for 1,024 beats is abandoned. -/
theorem blockTransferTimeout_idle {s : State} {session : Option Nat} {n b : Nat} {data : Bytes}
    (hone : s.eth.blocks = [(objKey 0x1400 0x05 0, session, n, data, b)]) (hdue : b + 1024 ≤ s.beat) :
    blockTransferTimeout 0x1400 0x05 s = { s with eth := { s.eth with blocks := [] } } := by
  simp [blockTransferTimeout, hone, hdue, objKey]

/-! ## Secured messages (R366, R367) -/

theorem secured_intact {s : State} {session : Nat} (hup : s.dictUp = true) (hopen : s.sessionOpen session = true) (xid : Nat) :
    secured session xid true s = s.modSession session fun x => { x with lastBeat := s.beat } := by
  simp [secured, hup, hopen]

theorem secured_broken {s : State} (hup : s.dictUp = true) (hroom : s.backlog < 1088) (session xid : Nat) :
    secured session xid false s = answerSession xid (s.enqueueRequest.bump 0x1105 0x01 1) := by
  simp [secured, hup, Nat.not_le.mpr hroom]

/-- Beside its answer the refusal changes counters and the queue of requests. -/
theorem answerSession_eq (xid : Nat) (s : State) : ∃ o, answerSession xid (s.enqueueRequest.bump 0x1105 0x01 1) =
    { s with out := s.out ++ [.dict xid none 7 false []], obj := o, eth := s.enqueueRequest.eth } := by
  obtain ⟨a, ha⟩ := bump_eq s.enqueueRequest 0x1105 0x01 1
  let sent := { s.enqueueRequest with obj := a }.send (.dict xid none 7 false [])
  obtain ⟨b, hb⟩ := bump_eq sent 0x1105 0x02 1
  obtain ⟨c, hc⟩ := bump_eq { sent with obj := b } 0x7800 0x07 1
  exact ⟨c, by rw [answerSession, ha, hb, hc]; rfl⟩

/-- The refusal of a secured message is counted among those of its kind. -/
theorem counted_answerSession (xid : Nat) (s : State) :
    Counted s (answerSession xid (s.enqueueRequest.bump 0x1105 0x01 1)) 0x7800 0x07 1 := by
  have hbefore : ((((s.enqueueRequest.bump 0x1105 0x01 1).send (.dict xid none 7 false [])).bump 0x1105 0x02 1)).rd 0x7800 0x07 =
      s.rd 0x7800 0x07 := (rd_bump_other _ _ _ _ (by decide)).trans (rd_bump_other s.enqueueRequest _ _ _ (by decide))
  unfold Counted answerSession
  rw [rd_bump_same, hbefore]

/-- Settles O51: each read, write and segment is judged by the tests of R378 in order, up to the one that decides it. -/
theorem readsAndWritesAreServed : Obligations.ReadsAndWritesAreServed := by
  refine ⟨?read, ?absent, ?readBlock, ?write, ?badType, ?badRange, ?writeBlock, ?timeout, ?kept, ?refused⟩
  case read =>
    intro r s index sub row hop hnow hrow htype hread
    obtain ⟨n, hdraw⟩ := drawRead_eq index s.enqueueRequest
    rw [exec_read, readObject_present hop hnow hrow htype hread, hdraw]
    exact ⟨_, doneQuiet_respond _ _ _ _ _ rfl rfl rfl rfl rfl, answers_respond .., counted_respond .., respond_table ..,
      respond_mem ..⟩
  case absent =>
    intro r s index sub hop hnow habsent
    rw [exec_read, readObject_absent hop hnow habsent]
    exact ⟨_, doneQuiet_respond _ _ _ _ _ rfl rfl rfl rfl rfl, answers_respond .., respond_table .., respond_mem ..⟩
  case readBlock =>
    intro r s index sub offset row hop hnow hrow htype hread hin
    rw [exec_readBlock, readSegment_present hop hnow hrow htype hread rfl hin]
    exact ⟨_, _, doneQuiet_respond _ _ _ _ _ rfl rfl rfl rfl rfl, rfl, by rw [respond_out, List.getLast?_concat],
      respond_table .., respond_mem ..⟩
  case write =>
    intro r s index sub data row hop hfree hrow hsub hacc htype hlen hleast hmost hright hmailbox heffect hok hkey
    have hw := writable_uint hsub hrow hacc htype hlen hleast hmost hright hmailbox
    obtain ⟨m, heq⟩ := writeObject_stored hop hfree hw heffect hok
    rw [exec_write, heq]
    rcases hacc with ha | ha
    · rw [storeWrite_uint_rw htype ha]
      refine ⟨_, done_respond _ _ _ _ _ rfl, answers_respond .., fun _ => ⟨?_, respond_pend ..⟩, fun hb => ?_,
        fun i k j hother hcount => ?_, respond_table .., respond_mem ..⟩
      · exact (rdI_respond_ok _ _ _ _ hkey).trans (rdI_wrI_same ..)
      · exact absurd (ha.symm.trans hb) (by decide)
      · exact (rdI_respond_ok _ _ _ _ hcount).trans (rdI_wrI_other _ _ _ _ _ hother)
    · rw [storeWrite_uint_rwf htype ha]
      refine ⟨_, done_respond _ _ _ _ _ rfl, answers_respond .., fun hb => ?_, fun _ => ⟨rdI_respond_ok _ _ _ _ hkey, ?_⟩,
        fun i k j _ hcount => rdI_respond_ok _ _ _ _ hcount, respond_table .., respond_mem ..⟩
      · exact absurd (ha.symm.trans hb) (by decide)
      · rw [respond_pend]
        exact sget_sput_same ..
  case badType =>
    intro r s data hop hlen
    have hacc : judgeAccess s.enqueueRequest r 0x1203 0x01 (beNat data) true = .inr (.operator, watchdogRow) := by
      rw [judgeAccess_enqueueRequest]
      exact judgeAccess_operator hop (by decide) objRow_watchdog rfl fun _ _ => by simp [rights]
    have htype : typeBad watchdogRow false data.length = true := by simp [typeBad, watchdogRow, hlen]
    rw [exec_write, writeObject, if_neg (by decide), dictWriteElse, dictServe_of_served hop.1, judgeWrite_typeBad hacc htype]
    exact ⟨_, done_respond _ _ _ _ _ rfl, answers_respond .., rd_respond _ _ _ _ _ (by decide) (by decide) (by decide),
      respond_table .., respond_mem ..⟩
  case badRange =>
    intro r s data hop hlen hlow
    have hacc : judgeAccess s.enqueueRequest r 0x2000 0x02 (beNat data) true = .inr (.operator, powerLimitRow) := by
      rw [judgeAccess_enqueueRequest]
      exact judgeAccess_operator hop (by decide) objRow_powerLimit rfl fun _ _ => by simp [rights]
    have htype : typeBad powerLimitRow false data.length = false := by simp [typeBad, powerLimitRow, hlen]
    have hrange : rangeBad powerLimitRow data = true := by simp [rangeBad, powerLimitRow, hlow]
    rw [exec_write, writeObject, if_neg (by decide), dictWriteElse, dictServe_of_served hop.1,
      judgeWrite_rangeBad hacc htype hrange]
    exact ⟨_, done_respond _ _ _ _ _ rfl, answers_respond .., rd_respond _ _ _ _ _ (by decide) (by decide) (by decide),
      respond_pend .., respond_table .., respond_mem ..⟩
  case writeBlock =>
    intro r s data hop hfree hlen
    rw [exec_writeBlock, dictServe_of_served hop.1, segmentWrite_profile hop hfree hlen]
    refine ⟨_, done_respond _ _ _ _ _ rfl, answers_respond .., ?_, respond_flash .., respond_table .., respond_mem ..⟩
    rw [respond_eth]
    exact List.mem_append_right _ (List.mem_singleton_self _)
  case timeout =>
    intro s k session n b data hone hk hdue
    subst hk
    rw [exec_blockTransferTimeout, blockTransferTimeout_idle hone hdue]
    exact doneQuiet_eq rfl rfl rfl rfl rfl
  case kept =>
    intro s session xid hup hopen
    rw [exec_secured, secured_intact hup hopen]
    exact doneQuiet_eq rfl rfl rfl rfl rfl
  case refused =>
    intro s session xid hup hroom
    rw [exec_secured, secured_broken hup hroom]
    have hcounted := counted_answerSession xid s
    obtain ⟨o, heq⟩ := answerSession_eq xid s
    rw [heq] at hcounted ⊢
    exact ⟨_, doneQuiet_eq rfl rfl rfl rfl rfl, rfl, hcounted, rfl, rfl, rfl⟩

end Sys2Proof.Machine
end

section
/-! The ingress poll and the ring entries that it takes (R358, R359, R361). -/

namespace Sys2Proof.Machine
open Sys2Proof

theorem exec_ingressPoll (s : State) : exec .ingressPoll s = done s (ingressPoll s) := rfl

theorem exec_seqMismatchTimeout (ring : Nat) (s : State) :
    exec (.seqMismatchTimeout ring) s = doneQuiet s (seqMismatchTimeout ring s) := rfl

/-! ## The round robin (R358) -/

/-- The rings in the order of a poll that starts after ring `last`. -/
def pollOrder (last : Nat) : List Nat := (List.range 256).map fun i => (last + 1 + i) % 256

theorem nodup_pollOrder (last : Nat) : (pollOrder last).Nodup := by
  refine List.nodup_range.map_on fun i hi j hj hij => ?_
  rw [List.mem_range] at hi hj
  omega

theorem mem_pollOrder {last ring : Nat} : ring ∈ pollOrder last ↔ ring < 256 := by
  unfold pollOrder
  rw [List.mem_map]
  constructor
  · rintro ⟨i, -, rfl⟩
    exact Nat.mod_lt _ (by decide)
  · intro hring
    refine ⟨(ring + 256 - (last + 1) % 256) % 256, List.mem_range.mpr (Nat.mod_lt _ (by decide)), ?_⟩
    omega

/-- Where one ring is enabled the poll visits that ring alone, wherever it starts. -/
theorem filter_pollOrder {last ring : Nat} (hring : ring < 256) {p : Nat → Bool} (hp : ∀ r, r < 256 → (p r = true ↔ r = ring)) :
    (pollOrder last).filter p = [ring] := by
  have honly : (pollOrder last).filter p = (pollOrder last).filter fun r => r == ring :=
    List.filter_congr fun r hr => by
      rw [Bool.eq_iff_iff, hp r (mem_pollOrder.mp hr), beq_iff_eq]
  rw [honly, List.filter_beq, List.count_eq_one_of_mem (nodup_pollOrder last) (mem_pollOrder.mpr hring)]
  rfl

/-! ## An entry taken (R359, R361) -/

/-- A ring's record moved on past an entry, with CONSUMED due. -/
def Ring.movedOn (r : Ring) : Ring := { r with taken := (r.taken + 1) % 0x100000000, mismatch := none, consumedDue := true }

/-- An entry taken from its ring: a credit spent, the ring's record moved on, and the ring remembered as the last served. -/
def spendEntry (ring : Nat) (s : State) : State :=
  let t := (s.wrI 0x1111 0x0F ring (s.rdI 0x1111 0x0F ring - 1)).modRing ring Ring.movedOn
  { t with eth := { t.eth with lastServedRing := ring } }

theorem ring_spendEntry (ring : Nat) (s : State) : (spendEntry ring s).ring ring = (s.ring ring).movedOn :=
  ring_modRing_same (s.wrI 0x1111 0x0F ring (s.rdI 0x1111 0x0F ring - 1)) ring Ring.movedOn

/-- The credit is spent. -/
theorem rdI_spendEntry_same (ring : Nat) (s : State) :
    (spendEntry ring s).rdI 0x1111 0x0F ring = s.rdI 0x1111 0x0F ring - 1 := rdI_wrI_same ..

/-- No other object changes. -/
theorem rdI_spendEntry_other {i u n ring : Nat} (h : objKey i u n ≠ objKey 0x1111 0x0F ring) (s : State) :
    (spendEntry ring s).rdI i u n = s.rdI i u n := rdI_wrI_other s _ _ _ _ h

/-- Whether an entry is malformed does not depend on what its ring has spent. -/
theorem malformed_spendEntry (ring : Nat) (s : State) (t : Taken) : malformed (spendEntry ring s) t = malformed s t := by
  unfold malformed
  rw [rdI_spendEntry_other (objKey_ne_of_sub (by decide) (by decide) (by decide))]

/-- An entry counted as malformed on its ring. -/
def countMalformed (ring : Nat) (s : State) : State := (spendEntry ring s).bumpI 0x1111 0x0E ring 1

/-- What an entry taken comes to: its outcome at once where it is MALFORMED, else a place among the entries taken. -/
theorem takeIngress_eq (ring : Nat) (t : Taken) (bad : Bool) (s : State) : takeIngress ring t bad s =
    if bad || malformed (spendEntry ring s) t then
      decideAtHead ring t.op t.tag (if t.op = 1 then 0xFFFF else t.entry) 22 0 none (countMalformed ring s)
    else { spendEntry ring s with taken := (spendEntry ring s).taken ++ [t] } := by
  unfold takeIngress
  rfl

/-- An entry spent that joins the entries taken. -/
def acceptEntry (ring : Nat) (t : Taken) (s : State) : State := { spendEntry ring s with taken := s.taken ++ [t] }

/-- A well-formed entry is accepted. -/
theorem takeIngress_wellFormed {s : State} {t : Taken} (hform : malformed s t = false) (ring : Nat) :
    takeIngress ring t false s = acceptEntry ring t s := by
  rw [takeIngress_eq, malformed_spendEntry, hform, if_neg (by decide)]
  rfl

/-! ## INGRESS_POLL -/

/-- No write is waiting to become visible. -/
theorem settleRings_of_settled {s : State} (h : s.landed = []) : settleRings s = s := by
  unfold settleRings
  rw [h]
  exact congrArg (fun l => { s with landed := l }) h.symm

/-- A ring whose entries are all taken gives nothing. -/
theorem pollRing_drained {s : State} {ring : Nat} (h : s.ringPi ring = (s.ring ring).taken) : pollRing ring s = (false, s) := by
  simp [pollRing, h]

/-- An enabled ring with a credit gives the well-formed entry that stands next on it. -/
theorem pollRing_taken {s : State} {ring : Nat} (hon : s.rdI 0x1111 0x09 ring = 1) (hwaits : s.ringPi ring ≠ (s.ring ring).taken)
    (hcredit : s.rdI 0x1111 0x0F ring ≠ 0) (hseq : (readIngress s ring (s.ring ring).taken).1 = (s.ring ring).taken % 65536)
    (hroom : schedFull s (readIngress s ring (s.ring ring).taken).2.op = false)
    (hform : malformed s (readIngress s ring (s.ring ring).taken).2 = false) : pollRing ring s =
      (true, acceptEntry ring (readIngress s ring (s.ring ring).taken).2 s) := by
  simp [pollRing, hon, hwaits, hcredit, hseq, hroom, takeIngress_wellFormed hform]

/-- A poll that finds one entry on its one ring ends after taking it. -/
theorem pollRounds_one {s t : State} {ring : Nat} (htaken : pollRing ring s = (true, t)) (hdrained : pollRing ring t = (false, t)) :
    pollRounds (18 * ([ring].length + 1)) 16 [ring] [] s = t := by
  simp [pollRounds, htaken, hdrained]

/-- The poll of the head in service goes over its enabled rings. -/
theorem ingressPoll_inService {s : State} (hhead : s.isHead = true) (hservice : s.inService = true) (hsettled : s.landed = []) :
    ingressPoll s = pollRounds (18 * (((pollOrder s.eth.lastServedRing).filter fun r => s.rdI 0x1111 0x09 r = 1).length + 1)) 16
      ((pollOrder s.eth.lastServedRing).filter fun r => s.rdI 0x1111 0x09 r = 1) [] s := by
  unfold ingressPoll
  rw [hhead, hservice, if_neg (by decide), settleRings_of_settled hsettled]
  rfl

/-! ## SEQ_MISMATCH_TIMEOUT (R358) -/

/-- A tail that is the head queues the outcome of a command that it decides to be MALFORMED. -/
theorem decideAtHead_malformed {s : State} (htail : s.isTail = true) (ring op tag entry : Nat) :
    decideAtHead ring op tag entry 22 0 none s = queueCmd ring op 22 tag entry 0 s := by
  simp [decideAtHead, htail]

@[simp] theorem countMalformed_table (ring : Nat) (s : State) : (countMalformed ring s).table = s.table := by
  simp only [countMalformed, State.bumpI, spendEntry, wrI_table, modRing_table]

@[simp] theorem countMalformed_taken (ring : Nat) (s : State) : (countMalformed ring s).taken = s.taken := by
  simp only [countMalformed, State.bumpI, spendEntry, wrI_taken, modRing_taken]

@[simp] theorem countMalformed_power (ring : Nat) (s : State) : (countMalformed ring s).power = s.power := by
  simp only [countMalformed, State.bumpI, spendEntry, wrI_power, modRing_power]

theorem ring_countMalformed (ring : Nat) (s : State) : (countMalformed ring s).ring ring = (s.ring ring).movedOn := by
  have hrings : (countMalformed ring s).rings = (spendEntry ring s).rings := by
    simp only [countMalformed, State.bumpI, wrI_rings]
  exact (ring_congr hrings ring).trans (ring_spendEntry ring s)

theorem rdI_countMalformed_credits (ring : Nat) (s : State) :
    (countMalformed ring s).rdI 0x1111 0x0F ring = s.rdI 0x1111 0x0F ring - 1 :=
  (rdI_wrI_other _ _ _ _ _ (objKey_ne_of_sub (by decide) (by decide) (by decide))).trans (rdI_spendEntry_same ring s)

/-- The count does not touch the roles of the region's members. -/
theorem isTail_countMalformed (ring : Nat) (s : State) : (countMalformed ring s).isTail = s.isTail := by
  have hregion {w : Nat} (hw : w < 256) : (countMalformed ring s).rd 0x3101 w = s.rd 0x3101 w :=
    (rdI_wrI_other _ _ _ _ _ (by unfold objKey; omega)).trans (rdI_spendEntry_other (by unfold objKey; omega) s)
  exact isTail_congr (hregion (by decide)) (hregion (by decide)) (countMalformed_power ring s)

/-- The tail queues MALFORMED for the command of an entry that it takes as such. -/
theorem takeIngress_malformed {s : State} (htail : s.isTail = true) (ring : Nat) (t : Taken) : ∃ c : Compl, c.status = 22 ∧
    takeIngress ring t true s = (countMalformed ring s).modRing ring fun r => { r with cmds := r.cmds ++ [c] } := by
  have htail' : (countMalformed ring s).isTail = true := (isTail_countMalformed ring s).trans htail
  have hqueued : takeIngress ring t true s =
      queueCmd ring t.op 22 t.tag (if t.op = 1 then 0xFFFF else t.entry) 0 (countMalformed ring s) := by
    rw [takeIngress_eq, Bool.true_or, if_pos rfl]
    exact decideAtHead_malformed htail' ..
  exact ⟨_, rfl, hqueued⟩

/-- A mismatch that has lasted takes the entry as MALFORMED. -/
theorem seqMismatchTimeout_due {s : State} {ring b : Nat} (hhead : s.isHead = true) (hservice : s.inService = true)
    (hmismatch : (s.ring ring).mismatch = some b) (hdue : b + 64 ≤ s.beat) (hcredit : s.rdI 0x1111 0x0F ring ≠ 0)
    (hseq : (readIngress s ring (s.ring ring).taken).1 ≠ (s.ring ring).taken % 65536) :
    seqMismatchTimeout ring s = takeIngress ring (readIngress s ring (s.ring ring).taken).2 true s := by
  simp [seqMismatchTimeout, hmismatch, hhead, hservice, Nat.not_lt.mpr hdue, hcredit, hseq]

/-- Settles O17: the poll's round robin visits the one enabled ring twice, and the lasting mismatch is a `takeIngress` as MALFORMED. -/
theorem thePollTakesWaitingEntries : Obligations.ThePollTakesWaitingEntries := by
  refine ⟨?poll, ?mismatch⟩
  case poll =>
    intro s ring hhead hservice hsettled hring honly hlast hwaits hcredit hseq hroom hform
    let t := acceptEntry ring (readIngress s ring (s.ring ring).taken).2 s
    have hrecord : t.ring ring = (s.ring ring).movedOn := ring_spendEntry ring s
    have htaken : pollRing ring s = (true, t) :=
      pollRing_taken ((honly ring hring).mpr rfl) hwaits hcredit hseq hroom hform
    have hdrained : pollRing ring t = (false, t) := by
      have hpi : t.ringPi ring = s.ringPi ring := rfl
      refine pollRing_drained ?_
      rw [hpi, hlast, hrecord]
      rfl
    have hpoll : ingressPoll s = t := by
      rw [ingressPoll_inService hhead hservice hsettled,
        filter_pollOrder hring fun r hr => decide_eq_true_iff.trans (honly r hr)]
      exact pollRounds_one htaken hdrained
    rw [exec_ingressPoll, hpoll]
    exact ⟨t, done_eq rfl, rfl, congrArg Ring.taken hrecord, congrArg Ring.consumedDue hrecord, rdI_spendEntry_same .., rfl, rfl, rfl⟩
  case mismatch =>
    intro s ring b hhead htail hservice hmismatch hdue hcredit hseq
    obtain ⟨c, hstatus, heq⟩ := takeIngress_malformed htail ring (readIngress s ring (s.ring ring).taken).2
    obtain ⟨t, ht, hq⟩ := doneQuiet_requests s (seqMismatchTimeout ring s)
    rw [seqMismatchTimeout_due hhead hservice hmismatch hdue hcredit hseq, heq] at hq
    have hrecord : t.ring ring = { (s.ring ring).movedOn with cmds := (s.ring ring).movedOn.cmds ++ [c] } := by
      rw [ring_congr hq.rings, ring_modRing_same, ring_countMalformed]
    exact ⟨t, c, ht, congrArg Ring.cmds hrecord, hstatus, congrArg Ring.taken hrecord, congrArg Ring.mismatch hrecord,
      (rdI_congr hq.obj ..).trans (rdI_countMalformed_credits ring s), hq.taken.trans (countMalformed_taken ring s),
      hq.table.trans (countMalformed_table ring s), hq.mem⟩

end Sys2Proof.Machine
end

section
/-! Reports on VC1 at the head and the tail (R237, R269, R361, R456). -/

namespace Sys2Proof.Machine
open Sys2Proof

theorem exec_report (m : ReportMsg) (s : State) : exec (.report m) s = doneQuiet s (report m s) := rfl

/-- The tail queues an outcome as a command completion of its ring (R361). -/
theorem report_outcome {s : State} (htail : s.isTail = true) (ring op tag entry status reason beat : Nat) :
    report (.outcome ring op tag entry status reason beat none) s = s.modRing ring fun r =>
      { r with cmds := r.cmds ++ [⟨ring, 1, status, tag, entry, [], op, reason, 0, 0, beat, false⟩] } := by
  simp [report, htail]

/-- The head takes a credit back (R361). -/
theorem report_credit {s : State} (hhead : s.isHead = true) (ring : Nat) : report (.credit ring) s = creditBack ring s := by
  simp [report, hhead]

/-- The head frees an entry that is DONE once its final completion is written, and its pages with it (R269). -/
theorem report_freed {s : State} {q : Nat} (hhead : s.isHead = true) (hflight : s.inFlight q = false)
    (hdone : (s.entry q).state = 5) : report (.freed q) s = (releasePages q s).putEntry q Entry.free := by
  simp [report, freeEntry, hhead, hflight, hdone]

/-- The head lets an entry whose pages are backed wait no longer (R237). -/
theorem report_backed {s : State} (hhead : s.isHead = true) (member q : Nat) :
    report (.backed member [q]) s = s.modEntry q fun e => { e with poolWait := false } := by
  simp [report, hhead]

/-- The head keeps a member's errors for the series (R456). -/
theorem report_errors {s : State} (hhead : s.isHead = true) (member step run : Nat) (contexts : List Nat) :
    report (.errors member step run contexts) s =
      s.modFab fun f => { f with reports := f.reports ++ [(member, run, contexts)] } := by
  simp [report, hhead]

/-- Settles O21: each clause is the branch of `report` for its message. -/
theorem reportsReachTheirAddressee : Obligations.ReportsReachTheirAddressee := by
  refine ⟨?outcome, ?credit, ?freed, ?backed, ?errors⟩
  case outcome =>
    intro s ring op tag entry status reason beat htail
    rw [exec_report, report_outcome htail]
    exact doneQuiet_eq rfl rfl rfl rfl rfl
  case credit =>
    intro s ring hhead
    rw [exec_report, report_credit hhead]
    exact doneQuiet_eq rfl rfl rfl rfl rfl
  case freed =>
    intro s q hhead hflight hdone
    rw [exec_report, report_freed hhead hflight hdone]
    refine ⟨_, doneQuiet_eq rfl rfl rfl rfl rfl, entry_putEntry_same .., fun k hk => ?_, rfl⟩
    rw [entry_putEntry_other _ _ _ hk, entry_releasePages_other hk]
  case backed =>
    intro s member q hhead
    rw [exec_report, report_backed hhead]
    exact ⟨_, doneQuiet_eq rfl rfl rfl rfl rfl, congrArg Entry.poolWait (entry_modEntry_same ..),
      fun k hk => entry_modEntry_other _ _ _ hk, rfl, rfl⟩
  case errors =>
    intro s member step run contexts hhead
    rw [exec_report, report_errors hhead]
    exact doneQuiet_eq rfl rfl rfl rfl rfl

end Sys2Proof.Machine
end

section
/-! The objects of the loopbacks, and an operator's write that one of them accepts (R390, R391, R510 to R514). -/

namespace Sys2Proof.Machine
open Sys2Proof

/-! ## The objects of the loopbacks (R390) -/

theorem isLoopback_iff {index : Nat} : isLoopback index = true ↔ index = 0x7F00 ∨ (0x7F10 ≤ index ∧ index ≤ 0x7F15) ∨
    (0x7F20 ≤ index ∧ index ≤ 0x7F27) ∨ (0x7F30 ≤ index ∧ index ≤ 0x7F3B) := by
  simp [isLoopback, or_assoc]

theorem isLoopback_range {index : Nat} (h : isLoopback index = true) : 0x7F00 ≤ index ∧ index ≤ 0x7F3B := by
  have := isLoopback_iff.mp h
  omega

/-- The row of an interface's loopback object: the port, a link, a die's modules, an HBM stack, an LPDDR device (R390). -/
def loopbackRow (index : Nat) : ObjRow :=
  if index = 0x7F00 then ⟨0x7F00, 0x7F00, 0x01, 0x01, .uint, 1, .rw, 0, 0, 4⟩
  else if index ≤ 0x7F15 then ⟨0x7F10, 0x7F15, 0x01, 0x01, .uint, 1, .rw, 0, 0, 4⟩
  else if index ≤ 0x7F27 then ⟨0x7F20, 0x7F27, 0x01, 0x01, .uint, 2, .rw, 0, 0, 65535⟩
  else if index ≤ 0x7F33 then ⟨0x7F30, 0x7F33, 0x01, 0x01, .uint, 1, .rw, 0, 0, 2⟩
  else ⟨0x7F34, 0x7F3B, 0x01, 0x01, .uint, 1, .rw, 0, 0, 2⟩

/-- The dictionary holds those rows (R373). -/
theorem objRow_loopback {index : Nat} (h : isLoopback index = true) : objRow index 0x01 = some (loopbackRow index) := by
  have hrows : ∀ n < 0x3C, isLoopback (0x7F00 + n) = true → objRow (0x7F00 + n) 0x01 = some (loopbackRow (0x7F00 + n)) := by
    decide +kernel
  obtain ⟨hleast, hmost⟩ := isLoopback_range h
  obtain ⟨n, rfl⟩ := Nat.exists_eq_add_of_le hleast
  exact hrows n (by omega) h

/-- Every loopback object is a number that may be written, from 0 on. -/
theorem loopbackRow_form (index : Nat) :
    (loopbackRow index).type = .uint ∧ (loopbackRow index).access = .rw ∧ (loopbackRow index).least = 0 := by
  unfold loopbackRow
  split_ifs <;> exact ⟨rfl, rfl, rfl⟩

/-- One byte holds the depth of every loopback but those of the modules. -/
theorem loopbackRow_len {index : Nat} (h : ¬(0x7F20 ≤ index ∧ index ≤ 0x7F27)) (hrange : isLoopback index = true) :
    (loopbackRow index).len = 1 := by
  have hcases := isLoopback_iff.mp hrange
  unfold loopbackRow
  split_ifs
  · rfl
  · rfl
  · omega
  · rfl
  · rfl

/-- Above the security objects the operator may write every object (R381). -/
theorem rights_operator_test {index : Nat} (h : 0x7801 < index) (s : State) (sub inst v : Nat) :
    (rights s .operator index sub inst v).2 = true := by
  have hle {k : Nat} (hk : k ≤ 0x7801) : ¬index ≤ k := by omega
  have hne {k : Nat} (hk : k ≤ 0x7801) : index ≠ k := by omega
  simp [rights, hle, hne]

/-- The rule of a loopback write is that its interface is out of service (R390). -/
theorem acceptOf_loopback {index : Nat} (h : isLoopback index = true) (c : WriteCtx) (s : State) :
    acceptOf index 0x01 c s = loopbackOk index c.value s := by
  obtain ⟨hleast, hmost⟩ := isLoopback_range h
  have hle {k : Nat} (hk : k < 0x7F00) : ¬index ≤ k := by omega
  have hne {k : Nat} (hk : k < 0x7F00) : index ≠ k := by omega
  have htest : index ≠ 0x7F40 := by omega
  simp [acceptOf, statedOk, hle, hne, htest, hleast, hmost]

theorem isHostMailbox_loopback {index : Nat} (h : isLoopback index = true) : isHostMailbox index 0x01 = false := by
  obtain ⟨hleast, -⟩ := isLoopback_range h
  have habove : ¬index ≤ 0x1817 := by omega
  simp [isHostMailbox, habove]

/-- No loopback write needs Masthead or a sequencer (R446). -/
theorem needsWake_loopback {index : Nat} (h : isLoopback index = true) : needsWake index 0x01 = false := by
  obtain ⟨hleast, -⟩ := isLoopback_range h
  have habove : ¬index ≤ 0x14FF := by omega
  have hne {k : Nat} (hk : k < 0x7F00) : index ≠ k := by omega
  simp [needsWake, isHostMailbox_loopback h, habove, hne]

/-! ## An accepted loopback write (R390, R391, R510 to R514) -/

/-- An operator's write that the loopback object of an index accepts: of its length and range, with the interface out of service. -/
structure AdmittedLoopback (r : DictReq) (index : Nat) (data : Bytes) (s : State) : Prop where
  loop : isLoopback index = true
  operator : ByOperator r s
  notBusy : NotBusy r s index 0x01
  length : data.length = (loopbackRow index).len
  most : beNat data ≤ (loopbackRow index).most
  outOfService : loopbackOk index (beNat data) s = true

/-- What a loopback object holds after a write: the reserved bits of the modules' objects read as zero (R390). -/
def loopbackStored (index v : Nat) : Nat := if 0x7F20 ≤ index ∧ index ≤ 0x7F27 then v % 4096 else v

/-- A late event is counted in an object (R50). -/
theorem SameButObj.late (s : State) (due : Nat) : SameButObj s (s.late due) := .ite ((SameButObj.refl s).bump ..) (.refl s)

theorem sameButObj_setEthLoopback (v : Nat) (s : State) : SameButObj s (setEthLoopback v s) := by
  unfold setEthLoopback
  exact .ite (((SameButObj.refl s).wr ..).wr ..) ((((SameButObj.refl s).wr ..).wr ..).wr ..)

theorem sameButObj_setLoopback (index v : Nat) (s : State) : SameButObj s (setLoopback index v s) :=
  .ite (sameButObj_setEthLoopback v s) (.ite ((SameButObj.refl s).wr ..) ((SameButObj.refl s).wr ..))

/-- A request that is counted, writes objects alone and is answered has that effect. -/
theorem SameButObj.doneQuiet_respond {s u : State} (h : SameButObj s.enqueueRequest u) {r : DictReq} {status : Nat} {last : Bool}
    {value : Bytes} : doneQuiet s (respond r status last value u) = .next (respond r status last value u) := by
  rw [h]
  exact Machine.doneQuiet_respond _ _ _ _ _ rfl rfl rfl rfl rfl

theorem rd_setEthLoopback_depth (v : Nat) (s : State) : (setEthLoopback v s).rd 0x7F00 0x01 = v := by
  unfold setEthLoopback
  extract_lets s1
  have hdepth : s1.rd 0x7F00 0x01 = v := rd_wr_same ..
  split_ifs
  · exact (rd_wr_other s1 _ _ _ (by decide)).trans hdepth
  · exact (rd_wr_other _ _ _ _ (by decide)).trans ((rd_wr_other s1 _ _ _ (by decide)).trans hdepth)

/-- The port's loopback ends after the duration in effect, and a write of 0 leaves no end (R391). -/
theorem rd_setEthLoopback_end (v : Nat) (s : State) :
    (setEthLoopback v s).rd 0x7F00 0x03 = if v = 0 then 0 else s.beat + s.rd 0x7F00 0x02 := by
  unfold setEthLoopback
  extract_lets s1
  have hduration : s1.rd 0x7F00 0x02 = s.rd 0x7F00 0x02 := rd_wr_other s _ _ _ (by decide)
  split_ifs
  · exact rd_wr_same ..
  · rw [rd_wr_other _ _ _ _ (by decide), rd_wr_same, hduration]
    rfl

/-- The port is down in a loopback (R513). -/
theorem rd_setEthLoopback_port {v : Nat} (hv : v ≠ 0) (s : State) : (setEthLoopback v s).rd 0x1100 0x03 = 0 := by
  unfold setEthLoopback
  rw [if_neg hv]
  exact rd_wr_same ..

/-- A loopback that ends leaves the port to retrain from its state. -/
theorem rd_setEthLoopback_ended (s : State) : (setEthLoopback 0 s).rd 0x1100 0x03 = s.rd 0x1100 0x03 :=
  (rd_wr_other (s.wr 0x7F00 0x01 0) _ _ _ (by decide)).trans (rd_wr_other s _ _ _ (by decide))

theorem rd_setLoopback (index v : Nat) (s : State) : (setLoopback index v s).rd index 0x01 = loopbackStored index v := by
  unfold setLoopback loopbackStored
  by_cases heth : index = 0x7F00
  · subst heth
    exact rd_setEthLoopback_depth v s
  · rw [if_neg heth]
    by_cases hmodule : 0x7F20 ≤ index ∧ index ≤ 0x7F27 <;> simp [hmodule]

/-- The response to a loopback write leaves the loopback in place. -/
theorem looped_respond {index : Nat} (h : isLoopback index = true) (r : DictReq) (v : Nat) (s : State) :
    Looped r index (loopbackStored index v) s (respond r 0 false [] (setLoopback index v s.enqueueRequest)) := by
  obtain ⟨hleast, -⟩ := isLoopback_range h
  have hkey {i u : Nat} (hi : i < 0x7F00) (hu : u < 256) : objKey index 0x01 0 ≠ objKey i u 0 :=
    objKey_ne_of_index (by decide) hu (by omega)
  have hsame := sameButObj_setLoopback index v s.enqueueRequest
  refine ⟨answers_respond .., ?_, (respond_table ..).trans hsame.table, (respond_mem ..).trans hsame.mem⟩
  rw [rd_respond _ _ _ _ _ (hkey (by decide) (by decide)) (hkey (by decide) (by decide)) (hkey (by decide) (by decide)),
    rd_setLoopback]

namespace AdmittedLoopback
variable {r : DictReq} {index : Nat} {data : Bytes} {s : State} (h : AdmittedLoopback r index data s)
include h

theorem writable : Writable index 0x01 (loopbackRow index) data := by
  obtain ⟨htype, haccess, hleast⟩ := loopbackRow_form index
  obtain ⟨hfrom, -⟩ := isLoopback_range h.loop
  exact writable_uint (s := s) (inst := 0) (by decide) (objRow_loopback h.loop) (.inl haccess) htype h.length
    (hleast ▸ Nat.zero_le _) h.most (rights_operator_test (by omega) ..) (isHostMailbox_loopback h.loop)

/-- The write is answered OK with its interface in the loopback of a depth that the command admits. -/
theorem next {depth : Nat → Bool} (hdepth : depth (beNat data) = true) : doneQuiet s (loopbackWrite r index depth data s) =
    .next (respond r 0 false [] (setLoopback index (beNat data) s.enqueueRequest)) := by
  have hok : (depth (operatorCtx r s index 0x01 data).value &&
      acceptOf index 0x01 (operatorCtx r s index 0x01 data) s.enqueueRequest) = true := by
    rw [acceptOf_loopback h.loop]
    exact Bool.and_eq_true_iff.mpr ⟨hdepth, h.outOfService⟩
  rw [loopbackWrite, h.loop, if_neg (by decide), dictWrite,
    dictWriteElse_accepted (accept := fun c s => depth c.value && acceptOf index 0x01 c s) h.operator h.notBusy h.writable hok,
    needsWake_loopback h.loop, if_neg (by decide)]
  exact (sameButObj_setLoopback index (beNat data) s.enqueueRequest).doneQuiet_respond

theorem looped {depth : Nat → Bool} (hdepth : depth (beNat data) = true) :
    ∃ t, doneQuiet s (loopbackWrite r index depth data s) = .next t ∧ Looped r index (loopbackStored index (beNat data)) s t :=
  ⟨_, h.next hdepth, looped_respond h.loop r (beNat data) s⟩

end AdmittedLoopback

/-- Outside the modules' objects the byte written is the depth that the object then holds. -/
theorem AdmittedLoopback.looped_byte {r : DictReq} {index : Nat} {b : Byte} {s : State} (h : AdmittedLoopback r index [b] s)
    (hmodule : ¬(0x7F20 ≤ index ∧ index ≤ 0x7F27)) {depth : Nat → Bool} (hdepth : depth b.toNat = true) :
    ∃ t, doneQuiet s (loopbackWrite r index depth [b] s) = .next t ∧ Looped r index b.toNat s t := by
  have hlooped := h.looped (depth := depth) (by rwa [beNat_singleton])
  rwa [loopbackStored, if_neg hmodule, beNat_singleton] at hlooped

end Sys2Proof.Machine
end

section
/-! The loopback commands of each interface (R390, R391, R510 to R514). -/

namespace Sys2Proof.Machine
open Sys2Proof

/-! ## The meanings of the commands -/

section Meanings
variable (r : DictReq) (data : Bytes) (s : State)

theorem exec_ethLoopbackMac :
    exec (.ethLoopbackMac r data) s = doneQuiet s (loopbackWrite r 0x7F00 (fun v => v = 1) data s) := rfl
theorem exec_ethLoopbackPcs :
    exec (.ethLoopbackPcs r data) s = doneQuiet s (loopbackWrite r 0x7F00 (fun v => v = 2) data s) := rfl
theorem exec_ethLoopbackPma :
    exec (.ethLoopbackPma r data) s = doneQuiet s (loopbackWrite r 0x7F00 (fun v => v = 3) data s) := rfl
theorem exec_ethLoopbackFarEnd :
    exec (.ethLoopbackFarEnd r data) s = doneQuiet s (loopbackWrite r 0x7F00 (fun v => v = 4) data s) := rfl
theorem exec_ethLoopbackEnd : exec .ethLoopbackEnd s = doneQuiet s (ethLoopbackEnd s) := rfl
theorem exec_linkLoopbackLinkLayer (k : Nat) :
    exec (.linkLoopbackLinkLayer r k data) s = doneQuiet s (unitLoopback r 0x7F10 6 k (fun v => v = 1) data s) := rfl
theorem exec_linkLoopbackFecPcs (k : Nat) :
    exec (.linkLoopbackFecPcs r k data) s = doneQuiet s (unitLoopback r 0x7F10 6 k (fun v => v = 2) data s) := rfl
theorem exec_linkLoopbackNearEndSerial (k : Nat) :
    exec (.linkLoopbackNearEndSerial r k data) s = doneQuiet s (unitLoopback r 0x7F10 6 k (fun v => v = 3) data s) := rfl
theorem exec_linkLoopbackFarEndRemote (k : Nat) :
    exec (.linkLoopbackFarEndRemote r k data) s = doneQuiet s (unitLoopback r 0x7F10 6 k (fun v => v = 4) data s) := rfl
theorem exec_ucieLoopback (d : Nat) :
    exec (.ucieLoopback r d data) s = doneQuiet s (unitLoopback r 0x7F20 8 d (fun v => v % 4096 ≠ 0) data s) := rfl
theorem exec_hbmLoopbackController (k : Nat) :
    exec (.hbmLoopbackController r k data) s = doneQuiet s (unitLoopback r 0x7F30 4 k (fun v => v = 1) data s) := rfl
theorem exec_hbmLoopbackPhy (k : Nat) :
    exec (.hbmLoopbackPhy r k data) s = doneQuiet s (unitLoopback r 0x7F30 4 k (fun v => v = 2) data s) := rfl
theorem exec_lpddrLoopbackController (k : Nat) :
    exec (.lpddrLoopbackController r k data) s = doneQuiet s (unitLoopback r 0x7F34 8 k (fun v => v = 1) data s) := rfl
theorem exec_lpddrLoopbackPhy (k : Nat) :
    exec (.lpddrLoopbackPhy r k data) s = doneQuiet s (unitLoopback r 0x7F34 8 k (fun v => v = 2) data s) := rfl
theorem exec_loopbackOff (index : Nat) : exec (.loopbackOff r index data) s = doneQuiet s (loopbackWrite r index
    (fun v => if 0x7F20 ≤ index && index ≤ 0x7F27 then v % 4096 = 0 else v = 0) data s) := rfl

end Meanings

/-! ## The interfaces that a loopback may take (R390, R510 to R514) -/

theorem loopbackRow_link {k : Nat} (h : k < 6) :
    loopbackRow (0x7F10 + k) = ⟨0x7F10, 0x7F15, 0x01, 0x01, .uint, 1, .rw, 0, 0, 4⟩ := by
  rw [loopbackRow, if_neg (by omega), if_pos (by omega)]

theorem loopbackRow_modules {d : Nat} (h : d < 8) :
    loopbackRow (0x7F20 + d) = ⟨0x7F20, 0x7F27, 0x01, 0x01, .uint, 2, .rw, 0, 0, 65535⟩ := by
  rw [loopbackRow, if_neg (by omega), if_neg (by omega), if_pos (by omega)]

theorem loopbackRow_memory {index : Nat} (h : 0x7F30 ≤ index) : (loopbackRow index).most = 2 := by
  rw [loopbackRow, if_neg (by omega), if_neg (by omega), if_neg (by omega)]
  split_ifs <;> rfl

/-- The end of a loopback is accepted whatever the interface does (R390). -/
theorem loopbackOk_zero (index : Nat) (s : State) : loopbackOk index 0 s = true := by
  simp [loopbackOk]

section Admitted
variable {r : DictReq} {s : State} (h : ByOperator r s)
include h

/-- The port takes every depth while no request entry is in use. -/
theorem admitted_eth (hfree : NotBusy r s 0x7F00 0x01) (hall : s.allFree = true) {b : Byte} (hb : b.toNat ≤ 4) :
    AdmittedLoopback r 0x7F00 [b] s where
  loop := rfl
  operator := h
  notBusy := hfree
  length := rfl
  most := (beNat_singleton b).trans_le hb
  outOfService := by simp [loopbackOk, hall]

/-- A link takes every depth while its enable is 0. -/
theorem admitted_link {k : Nat} (hk : k < 6) (hfree : NotBusy r s (0x7F10 + k) 0x01) (hoff : bitOf (s.rd 0x3000 0x02) k = false)
    {b : Byte} (hb : b.toNat ≤ 4) : AdmittedLoopback r (0x7F10 + k) [b] s where
  loop := isLoopback_iff.mpr (by omega)
  operator := h
  notBusy := hfree
  length := by rw [loopbackRow_link hk]; rfl
  most := by rwa [loopbackRow_link hk, beNat_singleton]
  outOfService := by
    rw [loopbackOk, if_neg (by omega), if_pos (by omega), Nat.add_sub_cancel_left, hoff]
    simp

/-- The modules of a die take every two bytes that free them, or find the inside of the device free. -/
theorem admitted_modules {d : Nat} (hd : d < 8) (hfree : NotBusy r s (0x7F20 + d) 0x01) {data : Bytes} (hlen : data.length = 2)
    (hok : beNat data % 4096 = 0 ∨ s.insideFree = true) : AdmittedLoopback r (0x7F20 + d) data s where
  loop := isLoopback_iff.mpr (by omega)
  operator := h
  notBusy := hfree
  length := by rw [loopbackRow_modules hd, hlen]
  most := by
    have hlt := beNat_lt data
    rw [hlen] at hlt
    rw [loopbackRow_modules hd]
    exact Nat.le_of_lt_succ hlt
  outOfService := by
    rw [loopbackOk, if_neg (by omega), if_neg (by omega), if_pos (by omega)]
    simpa using hok

/-- A memory takes every depth while the inside of the device is free. -/
theorem admitted_memory {index : Nat} (hleast : 0x7F30 ≤ index) (hmost : index ≤ 0x7F3B) (hfree : NotBusy r s index 0x01)
    (hinside : s.insideFree = true) {b : Byte} (hb : b.toNat ≤ 2) : AdmittedLoopback r index [b] s where
  loop := isLoopback_iff.mpr (by omega)
  operator := h
  notBusy := hfree
  length := (loopbackRow_len (by omega) (isLoopback_iff.mpr (by omega))).symm
  most := by rwa [loopbackRow_memory hleast, beNat_singleton]
  outOfService := by
    rw [loopbackOk, if_neg (by omega), if_neg (by omega), if_neg (by omega), hinside]
    simp

/-- A byte 0 is always admitted. -/
theorem admitted_off {index : Nat} (hloop : isLoopback index = true) (hmodules : ¬(0x7F20 ≤ index ∧ index ≤ 0x7F27))
    (hfree : NotBusy r s index 0x01) : AdmittedLoopback r index [0#8] s where
  loop := hloop
  operator := h
  notBusy := hfree
  length := (loopbackRow_len hmodules hloop).symm
  most := Nat.zero_le _
  outOfService := loopbackOk_zero index s

end Admitted

/-! ## The loopback commands -/

section Commands
variable {r : DictReq} {s : State} (h : ByOperator r s) {b : Byte} {depth : Nat → Bool} (hdepth : depth b.toNat = true)

theorem unitLoopback_of_lt {count unit : Nat} (hunit : unit < count) (r : DictReq) (base : Nat) (depth : Nat → Bool) (data : Bytes)
    (s : State) : unitLoopback r base count unit depth data s = loopbackWrite r (base + unit) depth data s :=
  if_neg (Nat.not_le.mpr hunit)

include h hdepth

theorem ethLooped_loopbackWrite (hfree : NotBusy r s 0x7F00 0x01) (hall : s.allFree = true) (hb : b.toNat ≤ 4)
    (hb0 : b.toNat ≠ 0) : ∃ t, doneQuiet s (loopbackWrite r 0x7F00 depth [b] s) = .next t ∧ EthLooped r b.toNat s t := by
  have hadmitted := admitted_eth h hfree hall hb
  have hlooped := looped_respond hadmitted.loop r (beNat [b]) s
  have hnext := hadmitted.next (depth := depth) (by rwa [beNat_singleton])
  have heth (v : Nat) (u : State) : setLoopback 0x7F00 v u = setEthLoopback v u := rfl
  rw [beNat_singleton, heth] at hnext hlooped
  refine ⟨_, hnext, hlooped, ?_, ?_⟩
  · rw [rd_respond _ _ _ _ _ (by decide) (by decide) (by decide), rd_setEthLoopback_end, if_neg hb0]
    rfl
  · rw [State.portUp, rd_respond _ _ _ _ _ (by decide) (by decide) (by decide), rd_setEthLoopback_port hb0]
    rfl

theorem looped_link {k : Nat} (hk : k < 6) (hfree : NotBusy r s (0x7F10 + k) 0x01) (hoff : bitOf (s.rd 0x3000 0x02) k = false)
    (hb : b.toNat ≤ 4) :
    ∃ t, doneQuiet s (unitLoopback r 0x7F10 6 k depth [b] s) = .next t ∧ Looped r (0x7F10 + k) b.toNat s t := by
  rw [unitLoopback_of_lt hk]
  exact (admitted_link h hk hfree hoff hb).looped_byte (by omega) hdepth

/-- The memories' objects stand in a row, the HBM stacks first. -/
theorem looped_memory {base count k : Nat} (hk : k < count) (hbase : 0x7F30 ≤ base) (hcount : base + count ≤ 0x7F3C)
    (hfree : NotBusy r s (base + k) 0x01) (hinside : s.insideFree = true) (hb : b.toNat ≤ 2) :
    ∃ t, doneQuiet s (unitLoopback r base count k depth [b] s) = .next t ∧ Looped r (base + k) b.toNat s t := by
  rw [unitLoopback_of_lt hk]
  exact (admitted_memory h (by omega) (by omega) hfree hinside hb).looped_byte (by omega) hdepth

end Commands

/-- Two bytes written to a die's modules leave the bits of the modules that they name. -/
theorem looped_modules {r : DictReq} {s : State} (h : ByOperator r s) {d : Nat} (hd : d < 8) (hfree : NotBusy r s (0x7F20 + d) 0x01)
    {data : Bytes} (hlen : data.length = 2) (hok : beNat data % 4096 = 0 ∨ s.insideFree = true) {depth : Nat → Bool}
    (hdepth : depth (beNat data) = true) : ∃ t, doneQuiet s (loopbackWrite r (0x7F20 + d) depth data s) = .next t ∧
      Looped r (0x7F20 + d) (beNat data % 4096) s t := by
  have hlooped := (admitted_modules h hd hfree hlen hok).looped hdepth
  rwa [loopbackStored, if_pos (by omega)] at hlooped

/-- At its end beat the port's loopback ends. -/
theorem ethLoopbackEnd_due {s : State} (hset : s.rd 0x7F00 0x03 ≠ 0) (hdue : s.rd 0x7F00 0x03 ≤ s.beat) :
    ethLoopbackEnd s = setEthLoopback 0 (s.late (s.rd 0x7F00 0x03)) := by
  simp [ethLoopbackEnd, hset, Nat.not_lt.mpr hdue]

end Sys2Proof.Machine
end

section
/-! An array self-test from its request to its result (R516 to R518). -/

namespace Sys2Proof.Machine
open Sys2Proof

theorem exec_arrayTestTrimDac (r : DictReq) (data : Bytes) (s : State) :
    exec (.arrayTestTrimDac r data) s = doneQuiet s (testWrite r data s) := rfl

theorem exec_arrayTestReference (r : DictReq) (data : Bytes) (s : State) :
    exec (.arrayTestReference r data) s = doneQuiet s (testWrite r data s) := rfl

theorem exec_arrayTestStart (s : State) : exec .arrayTestStart s = doneQuiet s (arrayTestStart s) := rfl

theorem exec_arrayTestResult (failing : List Nat) (s : State) :
    exec (.arrayTestResult failing) s = doneQuiet s (arrayTestResult failing s) := rfl

/-! ## The request of an array test (R516) -/

/-- The row of the array test's start (R390). -/
def testStartRow : ObjRow := ⟨0x7F40, 0x7F40, 0x03, 0x03, .uint, 1, .wo, 0, 1, 1⟩

theorem writable_testStart : Writable 0x7F40 0x03 testStartRow [1#8] where
  sub_ne := by decide
  row_eq := by decide +kernel
  admits := rfl
  right := fun s inst v => rights_operator_test (by decide) s 0x03 inst v
  type := rfl
  range := rfl
  mailbox := rfl

/-- The window of the test that the objects ask for: of their die and kind, from the next frame boundary on. -/
def testWindow (s : State) : CalWin :=
  ⟨s.rd 0x7F40 0x02, true, s.nextBoundary s.beat, false, none, some (s.rd 0x7F40 0x01), 0⟩

/-- A test merges with no window that waits (R422). -/
theorem addWindow_test {w : CalWin} (h : w.test.isSome = true) (l : List CalWin) : addWindow w l = l ++ [w] := by
  have hsome : w.test.isNone = false := by simpa using h
  simp [addWindow, hsome]

@[simp] theorem respond_cal (r : DictReq) (status : Nat) (last : Bool) (value : Bytes) (s : State) :
    (respond r status last value s).cal = s.cal := by
  obtain ⟨o, x, h⟩ := respond_eq r status last value s; rw [h]

/-- A test requested runs by its status object, and its window waits. -/
structure TestQueued (r : DictReq) (s t : State) : Prop where
  answers : Answers r 0 [] t
  running : t.rd 0x7F40 0x04 = 1
  waits : testWindow s ∈ t.cal.waiting
  table : t.table = s.table
  mem : t.mem = s.mem

theorem testWrite_queued {r : DictReq} {s : State} (h : ByOperator r s) (hfree : NotBusy r s 0x7F40 0x03)
    (hok : arrayTestOk s = true) : ∃ t, doneQuiet s (testWrite r [1#8] s) = .next t ∧ TestQueued r s t := by
  have haccept : acceptOf 0x7F40 0x03 (operatorCtx r s 0x7F40 0x03 [1#8]) s.enqueueRequest = true := hok
  rw [testWrite, dictWrite, dictWriteElse_accepted h hfree writable_testStart haccept, if_neg (by decide)]
  refine ⟨_, doneQuiet_respond _ _ _ _ _ rfl rfl rfl rfl rfl, answers_respond .., ?running, ?waits, respond_table .., respond_mem ..⟩
  case running =>
    rw [rd_respond _ _ _ _ _ (by decide) (by decide) (by decide)]
    exact rd_wr_same s.enqueueRequest 0x7F40 0x04 1
  case waits =>
    have hwaiting : (requestTest s.enqueueRequest).cal.waiting = addWindow (testWindow s) s.cal.waiting := rfl
    rw [respond_cal, hwaiting, addWindow_test rfl]
    exact List.mem_append_right _ List.mem_cons_self

/-! ## The start and the result of an array test (R516 to R518) -/

theorem arrayTestStart_next {s : State} {w : CalWin} (hnext : s.nextWindow = some w) (htest : w.test.isSome = true) :
    arrayTestStart s = startWindow w s := by
  rw [arrayTestStart, hnext]
  exact if_pos htest

theorem log_eq (s : State) (x : FaultRec) : ∃ o m, s.log x = { s with obj := o, masthead := m } := by
  unfold State.log
  split_ifs
  · exact ⟨s.obj, _, rfl⟩
  · exact ⟨_, s.masthead, rfl⟩

theorem retireArray_eq (a : Nat) (s : State) : ∃ o l x, retireArray a s = { s with obj := o, load := l, arrays := x } := by
  unfold retireArray
  split_ifs
  · exact ⟨s.obj, s.load, s.arrays, rfl⟩
  · exact ⟨_, _, _, rfl⟩

/-- Nothing but objects, the load, the arrays and Masthead's work differs. -/
def SameButFailures (s t : State) : Prop := t = { s with obj := t.obj, load := t.load, arrays := t.arrays, masthead := t.masthead }

theorem SameButFailures.trans {s t u : State} (h : SameButFailures s t) (k : SameButFailures t u) : SameButFailures s u := by
  unfold SameButFailures at h k ⊢
  rw [h] at k
  exact k

/-- A failing array is retired and logged, and nothing else happens. -/
theorem sameButFailures_failArray (s : State) (a : Nat) : SameButFailures s (failArray s a) := by
  obtain ⟨o, l, x, hretire⟩ := retireArray_eq a s
  unfold SameButFailures failArray
  rw [hretire]
  obtain ⟨o', m, hlog⟩ := log_eq { s with obj := o, load := l, arrays := x }
    { newRec { s with obj := o, load := l, arrays := x } 2 0 with classification := 2, unitClass := 7, action := 2, unit := a }
  rw [hlog]

theorem sameButFailures_foldl (l : List Nat) (s : State) : SameButFailures s (l.foldl failArray s) :=
  List.foldlRecOn (motive := SameButFailures s) l failArray rfl fun t ht a _ => ht.trans (sameButFailures_failArray t a)

theorem failArray_arrays (s : State) (a : Nat) : (failArray s a).arrays = (retireArray a s).arrays := by
  obtain ⟨o, m, h⟩ := log_eq (retireArray a s)
    { newRec (retireArray a s) 2 0 with classification := 2, unitClass := 7, action := 2, unit := a }
  rw [failArray, h]

theorem retired_retireArray (a : Nat) (s : State) : ((retireArray a s).arr a).retired = true := by
  unfold retireArray
  split_ifs with h
  · exact h
  · exact congrArg Arr.retired (arr_modArr_same s a fun x => { x with retired := true })

/-- A failing array writes the counts of retired arrays and of lost records, and no other object. -/
theorem rd_failArray {i u : Nat} (hretired : objKey i u 0 ≠ objKey 0x4004 0x06 0) (hlost : objKey i u 0 ≠ objKey 0x7000 0x02 0)
    (s : State) (a : Nat) : (failArray s a).rd i u = s.rd i u := by
  refine (rd_log hlost (retireArray a s) _).trans ?_
  unfold retireArray
  split_ifs
  · rfl
  · exact rd_bump_other (s.modArr a _) _ _ _ hretired

theorem rd_foldl_failArray {i u : Nat} (hretired : objKey i u 0 ≠ objKey 0x4004 0x06 0)
    (hlost : objKey i u 0 ≠ objKey 0x7000 0x02 0) (l : List Nat) (s : State) : (l.foldl failArray s).rd i u = s.rd i u :=
  List.foldlRecOn (motive := fun t : State => t.rd i u = s.rd i u) l failArray rfl fun t ht a _ =>
    (rd_failArray hretired hlost t a).trans ht

/-- The arrays that a test of window w retires among those that failed: the die's, where they have not retired. -/
def newlyFailed (w : CalWin) (failing : List Nat) (s : State) : List Nat :=
  failing.eraseDups.filter fun a => dieOf a = w.die && decide (a < 33792) && !(s.arr a).retired

theorem newlyFailed_one {s : State} {w : CalWin} {a : Nat} (hdie : dieOf a = w.die) (hlt : a < 33792)
    (hgood : (s.arr a).retired = false) : newlyFailed w [a] s = [a] := by
  have hdups : [a].eraseDups = [a] := rfl
  simp [newlyFailed, hdups, hdie, hlt, hgood]

/-- The objects after a test in which a number of arrays failed: its result and count, and no die in a window. -/
def testCounted (n : Nat) (s : State) : State :=
  ((s.wr 0x7F40 0x04 (if n = 0 then 2 else 3)).wr 0x7F40 0x05 n).wr 0x2200 0x03 0xFF

theorem sameButObj_testCounted (n due : Nat) (s : State) : SameButObj s (testCounted n (s.late due)) :=
  (((SameButObj.late s due).wr ..).wr ..).wr ..

theorem rd_testCounted_result (n : Nat) (s : State) : (testCounted n s).rd 0x7F40 0x04 = if n = 0 then 2 else 3 := by
  rw [testCounted, rd_wr_other _ _ _ _ (by decide), rd_wr_other _ _ _ _ (by decide), rd_wr_same]

theorem rd_testCounted_failed (n : Nat) (s : State) : (testCounted n s).rd 0x7F40 0x05 = n := by
  rw [testCounted, rd_wr_other _ _ _ _ (by decide), rd_wr_same]

theorem arrayTestResult_due {s : State} {w : CalWin} (hcurrent : s.cal.current = some w) (htest : w.test.isSome = true)
    (hdue : w.start + w.beats ≤ s.beat) (failing : List Nat) : arrayTestResult failing s =
      ((newlyFailed w failing s).foldl failArray
        (testCounted (newlyFailed w failing s).length (s.late (w.start + w.beats)))).modCal fun c => { c with current := none } := by
  have hsome : w.test.isNone = false := by simpa using htest
  have hbad : newlyFailed w failing (s.late (w.start + w.beats)) = newlyFailed w failing s := by
    obtain ⟨o, hlate⟩ := late_eq_obj s (w.start + w.beats)
    rw [hlate]
    rfl
  rw [← hbad]
  simp [arrayTestResult, hcurrent, hsome, Nat.not_lt.mpr hdue, newlyFailed, testCounted]

/-- A test of window w that has ended with some arrays named as failing: the result and the number of those that it retires, which fail
on the state with the result counted. -/
structure TestEnded (w : CalWin) (failing : List Nat) (s t : State) : Prop where
  result : t.rd 0x7F40 0x04 = if (newlyFailed w failing s).length = 0 then 2 else 3
  failed : t.rd 0x7F40 0x05 = (newlyFailed w failing s).length
  current : t.cal.current = none
  arrays : ∃ u, SameButObj s u ∧ t.arrays = ((newlyFailed w failing s).foldl failArray u).arrays
  table : t.table = s.table
  mem : t.mem = s.mem

theorem arrayTestResult_ended {s : State} {w : CalWin} (hcurrent : s.cal.current = some w) (htest : w.test.isSome = true)
    (hdue : w.start + w.beats ≤ s.beat) (failing : List Nat) :
    ∃ t, doneQuiet s (arrayTestResult failing s) = .next t ∧ TestEnded w failing s t := by
  rw [arrayTestResult_due hcurrent htest hdue]
  generalize hbad : newlyFailed w failing s = bad
  have hcounted := sameButObj_testCounted bad.length (w.start + w.beats) s
  have hresult := rd_testCounted_result bad.length (s.late (w.start + w.beats))
  have hfailed := rd_testCounted_failed bad.length (s.late (w.start + w.beats))
  generalize testCounted bad.length (s.late (w.start + w.beats)) = u at hcounted hresult hfailed ⊢
  have hsame := sameButFailures_foldl bad u
  have htable : (bad.foldl failArray u).table = s.table := by rw [hsame]; exact hcounted.table
  have hmem : (bad.foldl failArray u).mem = s.mem := by rw [hsame]; exact hcounted.mem
  refine ⟨_, doneQuiet_eq ?_ hmem ?_ ?_ ?_, ?ended⟩
  case ended =>
    subst hbad
    exact {
      result := (rd_foldl_failArray (by decide) (by decide) _ u).trans hresult
      failed := (rd_foldl_failArray (by decide) (by decide) _ u).trans hfailed
      current := rfl
      arrays := ⟨u, hcounted, rfl⟩
      table := htable
      mem := hmem }
  all_goals rw [State.modCal, hsame, hcounted]

/-- Settles O60: an admitted loopback write is the response after `setLoopback`, a request of a test queues its `testWindow`, and the
result of a test is `testCounted` with the failing arrays retired by `failArray`. -/
theorem loopbacksAndArrayTestsRun : Obligations.LoopbacksAndArrayTestsRun := by
  refine ⟨?eth, ?ethEnd, ?link, ?modules, ?hbm, ?lpddr, ?off, ?modulesOff, ?request, ?start, ?passed, ?failed⟩
  case eth =>
    intro r s h hfree hall
    rw [exec_ethLoopbackMac, exec_ethLoopbackPcs, exec_ethLoopbackPma, exec_ethLoopbackFarEnd]
    exact ⟨ethLooped_loopbackWrite h rfl hfree hall (by decide) (by decide),
      ethLooped_loopbackWrite h rfl hfree hall (by decide) (by decide),
      ethLooped_loopbackWrite h rfl hfree hall (by decide) (by decide),
      ethLooped_loopbackWrite h rfl hfree hall (by decide) (by decide)⟩
  case ethEnd =>
    intro s hset hdue
    have hsame : SameButObj s (setEthLoopback 0 (s.late (s.rd 0x7F00 0x03))) :=
      (SameButObj.late ..).trans (sameButObj_setEthLoopback ..)
    rw [exec_ethLoopbackEnd, ethLoopbackEnd_due hset hdue]
    exact ⟨_, hsame.doneQuiet_eq, rd_setEthLoopback_depth .., rd_setEthLoopback_end 0 _,
      (rd_setEthLoopback_ended _).trans (rd_late (by decide) ..), hsame.table, hsame.mem⟩
  case link =>
    intro r k s hk h hfree hoff
    rw [exec_linkLoopbackLinkLayer, exec_linkLoopbackFecPcs, exec_linkLoopbackNearEndSerial, exec_linkLoopbackFarEndRemote]
    exact ⟨looped_link h rfl hk hfree hoff (by decide), looped_link h rfl hk hfree hoff (by decide),
      looped_link h rfl hk hfree hoff (by decide), looped_link h rfl hk hfree hoff (by decide)⟩
  case modules =>
    intro r d data s hd h hfree hlen hset hinside
    rw [exec_ucieLoopback, unitLoopback_of_lt hd]
    exact looped_modules h hd hfree hlen (.inr hinside) (decide_eq_true hset)
  case hbm =>
    intro r k s hk h hfree hinside
    rw [exec_hbmLoopbackController, exec_hbmLoopbackPhy]
    exact ⟨looped_memory h rfl hk (by decide) (by decide) hfree hinside (by decide),
      looped_memory h rfl hk (by decide) (by decide) hfree hinside (by decide)⟩
  case lpddr =>
    intro r k s hk h hfree hinside
    rw [exec_lpddrLoopbackController, exec_lpddrLoopbackPhy]
    exact ⟨looped_memory h rfl hk (by decide) (by decide) hfree hinside (by decide),
      looped_memory h rfl hk (by decide) (by decide) hfree hinside (by decide)⟩
  case off =>
    intro r index s hloop hmodules h hfree
    rw [exec_loopbackOff]
    exact (admitted_off h hloop hmodules hfree).looped_byte hmodules (by simp)
  case modulesOff =>
    intro r d s hd h hfree
    rw [exec_loopbackOff]
    exact looped_modules h hd hfree (data := [0#8, 0#8]) rfl (.inl rfl) (by simp [beNat])
  case request =>
    intro r s h hfree hinside hidle hloop hlost
    have hok : arrayTestOk s = true := by simp [arrayTestOk, hinside, hidle, hloop, hlost]
    obtain ⟨t, hnext, hq⟩ := testWrite_queued h hfree hok
    rw [exec_arrayTestTrimDac, exec_arrayTestReference]
    exact ⟨fun hkind => ⟨t, testWindow s, hnext, hq.answers, hq.running, hq.waits, rfl, congrArg some hkind, hq.table, hq.mem⟩,
      fun hkind => ⟨t, testWindow s, hnext, hq.answers, hq.running, hq.waits, rfl, congrArg some hkind, hq.table, hq.mem⟩⟩
  case start =>
    intro s w hnext htest
    rw [exec_arrayTestStart, arrayTestStart_next hnext htest]
    exact ⟨_, doneQuiet_eq rfl rfl rfl rfl rfl, rfl, rd_wr_same s .., rfl, rfl⟩
  case passed =>
    intro s w hcurrent htest hdue
    have hnone : newlyFailed w [] s = [] := rfl
    obtain ⟨t, hnext, hend⟩ := arrayTestResult_ended hcurrent htest hdue []
    obtain ⟨u, hsame, harrays⟩ := hend.arrays
    rw [exec_arrayTestResult]
    rw [hnone] at harrays
    exact ⟨t, hnext, hend.result, hend.failed, hend.current, harrays.trans (by rw [hsame]; rfl), hend.table, hend.mem⟩
  case failed =>
    intro s w a hcurrent htest hdue hdie hlt hgood
    have hone : newlyFailed w [a] s = [a] := newlyFailed_one hdie hlt hgood
    obtain ⟨t, hnext, hend⟩ := arrayTestResult_ended hcurrent htest hdue [a]
    obtain ⟨u, hsame, harrays⟩ := hend.arrays
    have hresult := hend.result
    have hfailed := hend.failed
    rw [hone] at harrays hresult hfailed
    have harr (b : Nat) : t.arr b = (retireArray a u).arr b := arr_congr (harrays.trans (failArray_arrays u a)) b
    rw [exec_arrayTestResult]
    exact ⟨t, hnext, hresult, hfailed, hend.current, (congrArg Arr.retired (harr a)).trans (retired_retireArray a u),
      fun b hb => (harr b).trans ((arr_retireArray_other hb u).trans (hsame.arr b)), hend.table, hend.mem⟩

end Sys2Proof.Machine
end

section
/-! What the answer to an accepted write shows of its effect, and the writes of a command byte and of a whole block (R370, R375, R378). -/

namespace Sys2Proof.Machine
open Sys2Proof

/-! ## What the answer to an accepted write shows (R370, R446) -/

section Respond
variable (r : DictReq) (status : Nat) (last : Bool) (value : Bytes) (s : State)

@[simp] theorem respond_masthead : (respond r status last value s).masthead = s.masthead := by
  obtain ⟨o, x, h⟩ := respond_eq r status last value s; rw [h]
@[simp] theorem respond_boot : (respond r status last value s).boot = s.boot := by
  obtain ⟨o, x, h⟩ := respond_eq r status last value s; rw [h]
@[simp] theorem respond_faults : (respond r status last value s).faults = s.faults := by
  obtain ⟨o, x, h⟩ := respond_eq r status last value s; rw [h]

end Respond

/-- A wake event sets the wake beat of Masthead, or changes nothing (R446). -/
theorem raiseWake_eq_wakeAt (s : State) : ∃ w, raiseWake s = s.modMast fun m => { m with wakeAt := w } := by
  unfold raiseWake
  split_ifs
  · exact ⟨_, rfl⟩
  · exact ⟨s.masthead.wakeAt, rfl⟩

/-- What the answer t to an accepted write on s shows of the write's effect u: a response and a wake event hide none of it, and a quiet
command stores nothing in device memory or the flash. -/
structure AcceptedAs (r : DictReq) (s u t : State) : Prop where
  answers : Answers r 0 [] t
  rd : ∀ {i v}, objKey i v 0 ≠ objKey 0x1105 0x01 0 → t.rd i v = u.rd i v
  jobs : t.masthead.jobs = u.masthead.jobs
  eraseDue : t.masthead.eraseDue = u.masthead.eraseDue
  power : t.power = u.power
  boot : t.boot = u.boot
  faults : t.faults = u.faults
  table : t.table = u.table
  mem : t.mem = s.mem
  flash : t.flash = s.flash

theorem doneQuiet_respond_accepted (r : DictReq) (s u : State) :
    ∃ t, doneQuiet s (respond r 0 false [] u) = .next t ∧ AcceptedAs r s u t :=
  ⟨_, rfl, answers_respond .., rdI_respond_ok _ _ _ _, congrArg Masthead.jobs (respond_masthead ..),
    congrArg Masthead.eraseDue (respond_masthead ..), respond_power .., respond_boot .., respond_faults .., respond_table .., rfl, rfl⟩

/-- The same where the write is a wake event. -/
theorem doneQuiet_respond_ite_wake (r : DictReq) (s u : State) (p : Prop) [Decidable p] :
    ∃ t, doneQuiet s (respond r 0 false [] (if p then raiseWake u else u)) = .next t ∧ AcceptedAs r s u t := by
  split_ifs
  · obtain ⟨w, hwake⟩ := raiseWake_eq_wakeAt u
    rw [hwake]
    obtain ⟨t, hnext, h⟩ := doneQuiet_respond_accepted r s (u.modMast fun m => { m with wakeAt := w })
    exact ⟨t, hnext, h.answers, h.rd, h.jobs, h.eraseDue, h.power, h.boot, h.faults, h.table, h.mem, h.flash⟩
  · exact doneQuiet_respond_accepted r s u

/-! ## An operator's write of a command byte or of a whole block (R375, R378) -/

section Write
variable {r : DictReq} {s : State} {index sub : Nat} {row : ObjRow} {data : Bytes} (h : ByOperator r s)
  {accept : WriteCtx → State → Bool} {effect : ObjRow → WriteCtx → State → State}
include h

/-- A write that its object accepts is answered OK with its effect. -/
theorem dictWrite_accepted (hfree : NotBusy r s index sub) (hw : Writable index sub row data)
    (hok : accept (operatorCtx r s index sub data) s.enqueueRequest = true) :
    ∃ t, doneQuiet s (dictWrite r index sub data accept effect s) = .next t ∧
      AcceptedAs r s (effect row (operatorCtx r s index sub data) s.enqueueRequest) t := by
  rw [dictWrite, dictWriteElse_accepted h hfree hw hok]
  exact doneQuiet_respond_ite_wake ..

/-- The object's own rule is asked before a block write that is open elsewhere (R378). -/
theorem dictWrite_turnedAway (hw : Writable index sub row data)
    (hbad : accept (operatorCtx r s index sub data) s.enqueueRequest = false) :
    dictWrite r index sub data accept effect s = respond r 3 false [] s.enqueueRequest := by
  have hacc : judgeAccess s.enqueueRequest r index sub (beNat data) true = .inr (.operator, row) := by
    rw [judgeAccess_enqueueRequest]
    exact judgeAccess_operator h hw.sub_ne hw.row_eq hw.admits (hw.right s)
  have hbad' : accept ⟨r.session, .operator, instOf s.enqueueRequest r.session index sub, beNat data, data⟩ s.enqueueRequest = false :=
    hbad
  have hjudged : judgeWrite r index sub false data accept effect (fun _ s => s) s.enqueueRequest = (3, [], s.enqueueRequest) := by
    simp [judgeWrite, hacc, hw.type, hw.range, hbad']
  rw [dictWrite, dictWriteElse, dictServe_of_served h.1, hjudged]

/-- A whole block of a DOMAIN object, no longer than its row says, is answered OK with its effect. -/
theorem dictBlock_accepted (hfree : NotBusy r s index sub) (hsub : sub ≠ 0) (hrow : objRow index sub = some row)
    (hadmits : admitsWrite row.access = true) (hright : ∀ i v, (rights s .operator index sub i v).2 = true)
    (htype : row.type = .domain) (hlen : data.length ≤ row.len) (hmailbox : isHostMailbox index sub = false) :
    ∃ t, doneQuiet s (dictBlock r index sub data (fun _ _ => true) effect s) = .next t ∧
      AcceptedAs r s (effect row (operatorCtx r s index sub data) s.enqueueRequest) t := by
  have hacc : judgeAccess s.enqueueRequest r index sub (beNat data) true = .inr (.operator, row) := by
    rw [judgeAccess_enqueueRequest]
    exact judgeAccess_operator h hsub hrow hadmits hright
  have hblock : typeBad row true data.length = false := by simp [typeBad, htype]
  have hrange : rangeBad row data = false := by simp [rangeBad, htype, hlen]
  have hbusy : blockBusy s.enqueueRequest r index sub (instOf s.enqueueRequest r.session index sub) = false := hfree
  have hctx : (⟨r.session, .operator, instOf s.enqueueRequest r.session index sub, beNat data, data⟩ : WriteCtx) =
      operatorCtx r s index sub data := rfl
  have hjudged : judgeWrite r index sub true data (fun _ _ => true) effect (fun _ s => s) s.enqueueRequest =
      (0, [], if needsWake index sub then raiseWake (effect row (operatorCtx r s index sub data) s.enqueueRequest)
        else effect row (operatorCtx r s index sub data) s.enqueueRequest) := by
    simp [judgeWrite, hacc, hblock, hrange, hmailbox, hbusy, hctx]
  rw [dictBlock, dictServe_of_served h.1, hjudged]
  exact doneQuiet_respond_ite_wake ..

end Write

/-- One byte within the range of a WO number is the operator's to write where it has the right. -/
theorem writable_commandByte {index sub : Nat} {row : ObjRow} {b : Byte} (hsub : sub ≠ 0) (hrow : objRow index sub = some row)
    (htype : row.type = .uint) (hlen : row.len = 1) (haccess : row.access = .wo) (hleast : row.least ≤ b.toNat)
    (hmost : b.toNat ≤ row.most) (hright : ∀ s inst v, (rights s .operator index sub inst v).2 = true)
    (hmailbox : isHostMailbox index sub = false) : Writable index sub row [b] where
  sub_ne := hsub
  row_eq := hrow
  admits := by rw [haccess]; rfl
  right := hright
  type := by simp [typeBad, htype, hlen]
  range := by simp [rangeBad, htype, haccess, beNat_singleton, Nat.not_lt.mpr hleast, Nat.not_lt.mpr hmost]
  mailbox := hmailbox

end Sys2Proof.Machine
end

section
/-! Stored profiles, firmware updates, the fault log, commanded resets, half-mast, and a die that is lost (R19, R405, R408, R470, R474,
R483 to R485). -/

namespace Sys2Proof.Machine
open Sys2Proof

/-! ## The meanings of the commands -/

section Meanings
variable (r : DictReq) (data : Bytes) (s : State)

theorem exec_profileStore : exec (.profileStore r data) s =
    doneQuiet s (dictBlock r 0x1400 0x05 data (fun _ _ => true) (fun _ c s => acceptProfile c.data s) s) := rfl
theorem exec_profileStoreComplete (flashOk : Bool) :
    exec (.profileStoreComplete flashOk) s = done s (profileStoreComplete flashOk s) := rfl
theorem exec_firmwareUpdate : exec (.firmwareUpdate r data) s =
    doneQuiet s (dictBlock r 0x1400 0x0C data (fun _ _ => true) (fun _ c s => acceptFirmware c.data s) s) := rfl
theorem exec_firmwareWriteComplete (readback : Bytes) :
    exec (.firmwareWriteComplete readback) s = done s (firmwareWriteComplete readback s) := rfl
theorem exec_faultRecordWrite : exec .faultRecordWrite s = done s (faultRecordWrite s) := rfl
theorem exec_logErase : exec (.logErase r data) s =
    doneQuiet s (dictWrite r 0x7000 0x05 data (fun _ _ => true) (fun _ _ s => logErase s) s) := rfl
theorem exec_deviceResetCommand : exec (.deviceResetCommand r data) s =
    doneQuiet s (dictWrite r 0x1400 0x0B data (fun c _ => c.value = 1) (fun _ c s => resetCommand c s) s) := rfl
theorem exec_recoveryResetCommand : exec (.recoveryResetCommand r data) s =
    doneQuiet s (dictWrite r 0x1400 0x0B data (fun c _ => c.value = 2) (fun _ c s => resetCommand c s) s) := rfl
theorem exec_leaveHalfMast : exec (.leaveHalfMast r data) s =
    doneQuiet s (dictWrite r 0x7002 0x05 data (acceptOf 0x7002 0x05) (fun _ _ s => leaveNext s) s) := rfl
theorem exec_halfMastWindowExpiry : exec .halfMastWindowExpiry s = doneQuiet s (halfMastWindowExpiry s) := rfl
theorem exec_greundLinksFail (d : Nat) : exec (.greundLinksFail d) s = doneQuiet s (greundLinksFail d s) := rfl

end Meanings

/-! ## Notices (R402) -/

/-- A notice changes no object. -/
@[simp] theorem rd_notice (s : State) (code value i u : Nat) : (s.notice code value).rd i u = s.rd i u := rfl

/-! ## Profiles (R405, R484) -/

@[simp] theorem rd_storeResult (slot result : Nat) (s : State) : (storeResult slot result s).rd 0x1400 0x06 = result := by
  rw [storeResult, rd_notice, rd_wr_same]

/-- A profile that passes its checks waits for its flash write, without a result. -/
theorem acceptProfile_passed {data : Bytes} {s : State} (h : profileFails data s = 0) : acceptProfile data s =
    (s.wr 0x1400 0x06 0).modMast fun m => { m with jobs := m.jobs ++ [.profile (s.rd 0x1400 0x04) data] } := by
  have hfails : profileFails data (s.wr 0x1400 0x06 0) = 0 := h
  unfold acceptProfile
  dsimp only
  rw [hfails]
  rfl

/-- One that fails a check has it as its result. -/
theorem acceptProfile_failed {data : Bytes} {s : State} (h : profileFails data s ≠ 0) : acceptProfile data s =
    storeResult (s.rd 0x1400 0x04) (profileFails data s) (s.wr 0x1400 0x06 0) := by
  have hfails : profileFails data (s.wr 0x1400 0x06 0) = profileFails data s := rfl
  unfold acceptProfile
  dsimp only
  rw [hfails]
  split
  · exact absurd ‹_› h
  · rfl

theorem rd_acceptProfile (data : Bytes) (s : State) : (acceptProfile data s).rd 0x1400 0x06 = profileFails data s := by
  by_cases h : profileFails data s = 0
  · rw [acceptProfile_passed h, h]
    exact rd_wr_same s 0x1400 0x06 0
  · rw [acceptProfile_failed h, rd_storeResult]

theorem acceptProfile_table (data : Bytes) (s : State) : (acceptProfile data s).table = s.table := by
  by_cases h : profileFails data s = 0
  · rw [acceptProfile_passed h]; rfl
  · rw [acceptProfile_failed h]; rfl

theorem profileStore_accepted {r : DictReq} {data : Bytes} {s : State} (h : ByOperator r s) (hfree : NotBusy r s 0x1400 0x05)
    (hlen : data.length ≤ 65536) :
    ∃ t, exec (.profileStore r data) s = .next t ∧ AcceptedAs r s (acceptProfile data s.enqueueRequest) t := by
  rw [exec_profileStore]
  exact dictBlock_accepted h hfree (by decide) objRow_profile rfl (fun _ _ => by simp [rights]) rfl hlen rfl

/-- The end of a profile's flash write: its slot holds it, and its digest is shown. -/
theorem profileStoreComplete_written {s : State} {slot : Nat} {data : Bytes} {rest : List FlashJob}
    (hjobs : s.masthead.jobs = .profile slot data :: rest) (hon : s.masthead.on = true) :
    profileStoreComplete true s = storeResult slot 1 ({ s.modMast fun m => { m with jobs := rest } with
      flash := { s.flash with profiles := s.flash.profiles.set slot data } }.putOct 0x1400 (0x07 + slot) 0 (profileDigest data)) := by
  simp [profileStoreComplete, hjobs, hon, State.modMast]

/-- A failed one leaves the slot. -/
theorem profileStoreComplete_failed {s : State} {slot : Nat} {data : Bytes} {rest : List FlashJob}
    (hjobs : s.masthead.jobs = .profile slot data :: rest) (hon : s.masthead.on = true) :
    profileStoreComplete false s = storeResult slot 4 (s.modMast fun m => { m with jobs := rest }) := by
  simp [profileStoreComplete, hjobs, hon]

/-! ## Firmware (R483, R484) -/

@[simp] theorem rd_updateState (v : Nat) (s : State) : (updateState v s).rd 0x1400 0x0D = v := by
  rw [updateState, rd_notice, rd_wr_same]

/-- A verified image is being written. -/
theorem acceptFirmware_verified {data : Bytes} {s : State} (h : firmwareOk data s = true) : acceptFirmware data s =
    updateState 3 ((updateState 2 s).modMast fun m => { m with jobs := m.jobs ++ [.firmware data] }) := by
  have hok : firmwareOk data (updateState 2 s) = true := h
  unfold acceptFirmware
  exact if_pos hok

theorem acceptFirmware_failed {data : Bytes} {s : State} (h : firmwareOk data s = false) :
    acceptFirmware data s = updateState 5 (updateState 2 s) := by
  have hbad : ¬firmwareOk data (updateState 2 s) = true := Bool.eq_false_iff.mp h
  unfold acceptFirmware
  exact if_neg hbad

theorem acceptFirmware_table (data : Bytes) (s : State) : (acceptFirmware data s).table = s.table := by
  cases h : firmwareOk data s with
  | true => rw [acceptFirmware_verified h]; rfl
  | false => rw [acceptFirmware_failed h]; rfl

/-- The row of the firmware image's object (R383). -/
def firmwareRow : ObjRow := ⟨0x1400, 0x1400, 0x0C, 0x0C, .domain, 33554432, .wo, 0, 0, 0⟩

theorem objRow_firmware : objRow 0x1400 0x0C = some firmwareRow := by decide +kernel

theorem firmwareUpdate_accepted {r : DictReq} {data : Bytes} {s : State} (h : ByOperator r s) (hfree : NotBusy r s 0x1400 0x0C)
    (hlen : data.length ≤ 33554432) :
    ∃ t, exec (.firmwareUpdate r data) s = .next t ∧ AcceptedAs r s (acceptFirmware data s.enqueueRequest) t := by
  rw [exec_firmwareUpdate]
  exact dictBlock_accepted h hfree (by decide) objRow_firmware rfl (fun _ _ => by simp [rights]) rfl hlen rfl

/-- The flash holds what the read-back shows, and the update is done where that is the image (R483). -/
theorem firmwareWriteComplete_on {s : State} {image : Bytes} {rest : List FlashJob}
    (hjobs : s.masthead.jobs = .firmware image :: rest) (hon : s.masthead.on = true) (readback : Bytes) :
    firmwareWriteComplete readback s = updateState (if readback = image then 4 else 5)
      { s.modMast fun m => { m with jobs := rest } with flash := { s.flash with firmware := readback } } := by
  simp [firmwareWriteComplete, hjobs, hon, State.modMast]

/-! ## The fault log (R474) -/

section Records
variable {s : State} {x : FaultRec} {rest : List FlashJob} (hjobs : s.masthead.jobs = .record x :: rest) (hon : s.masthead.on = true)
include hjobs hon

theorem faultRecordWrite_entered (hroom : s.flash.log.length < 1024) : faultRecordWrite s =
    ({ s.modMast fun m => { m with jobs := rest } with flash := { s.flash with log := s.flash.log ++ [x] } }.send (.logged x)).notice
      0x80 (s.flash.log ++ [x]).length := by
  simp [faultRecordWrite, hjobs, hon, hroom, State.modMast, State.send]

theorem faultRecordWrite_full (hfull : 1024 ≤ s.flash.log.length) : faultRecordWrite s =
    (s.modMast fun m => { m with jobs := rest }).bump 0x7000 0x02 1 := by
  simp [faultRecordWrite, hjobs, hon, Nat.not_lt.mpr hfull, State.modMast]

end Records

/-- The row of the log's erasure (R474). -/
def logEraseRow : ObjRow := ⟨0x7000, 0x7000, 0x05, 0x05, .uint, 1, .wo, 0, 1, 1⟩

theorem writable_logErase : Writable 0x7000 0x05 logEraseRow [1#8] :=
  writable_commandByte (by decide) (by decide +kernel) rfl rfl rfl (by decide) (by decide) (fun _ _ _ => by simp [rights]) rfl

/-! ## Commanded resets (R408, R485) -/

/-- The row of the reset command (R383). -/
def resetCommandRow : ObjRow := ⟨0x1400, 0x1400, 0x0B, 0x0B, .uint, 1, .wo, 0, 1, 2⟩

theorem writable_resetCommand {b : Byte} (hleast : 1 ≤ b.toNat) (hmost : b.toNat ≤ 2) : Writable 0x1400 0x0B resetCommandRow [b] :=
  writable_commandByte (by decide) (by decide +kernel) rfl rfl rfl hleast hmost (fun _ _ _ => by simp [rights]) rfl

/-- A reset command that its byte names is due at the next frame boundary, and nothing else happens yet. -/
theorem resetWrite_due {r : DictReq} {b : Byte} {s : State} (h : ByOperator r s) (hfree : NotBusy r s 0x1400 0x0B)
    (hleast : 1 ≤ b.toNat) (hmost : b.toNat ≤ 2) {code : Nat} (hcode : b.toNat = code) : ∃ t,
      doneQuiet s (dictWrite r 0x1400 0x0B [b] (fun c _ => c.value = code) (fun _ c s => resetCommand c s) s) = .next t ∧
      Answers r 0 [] t ∧ t.power.resetDue = some code ∧ t.boot = s.boot ∧ t.table = s.table ∧ t.mem = s.mem := by
  have hvalue : (operatorCtx r s 0x1400 0x0B [b]).value = code := (beNat_singleton b).trans hcode
  obtain ⟨t, hnext, ht⟩ := dictWrite_accepted (accept := fun c _ => c.value = code) (effect := fun _ c s => resetCommand c s)
    h hfree (writable_resetCommand hleast hmost) (decide_eq_true hvalue)
  exact ⟨t, hnext, ht.answers, (congrArg Power.resetDue ht.power).trans (congrArg some hvalue), ht.boot, ht.table, ht.mem⟩

/-! ## Leaving half-mast (R470) -/

/-- The row of the command that leaves half-mast (R470). -/
def leaveHalfMastRow : ObjRow := ⟨0x7002, 0x7002, 0x05, 0x05, .uint, 1, .wo, 0, 1, 1⟩

theorem writable_leaveHalfMast : Writable 0x7002 0x05 leaveHalfMastRow [1#8] :=
  writable_commandByte (by decide) (by decide +kernel) rfl rfl rfl (by decide) (by decide) (fun _ _ _ => by simp [rights]) rfl

/-- The command's own rule is that of R470. -/
theorem acceptOf_leaveHalfMast (c : WriteCtx) (s : State) : acceptOf 0x7002 0x05 c s = leaveOk s := by
  simp [acceptOf, statedOk]

theorem leaveOk_iff {s : State} : leaveOk s = true ↔ s.fab.inDoubt = none ∧ ∀ c ∈ s.faults.causes, c = 1 := by
  simp [leaveOk]

/-- The window's end leaves half-mast where escalation alone is the cause. -/
theorem halfMastWindowExpiry_due {s : State} {b : Nat} (hentered : s.faults.hmEntered = some b) (hmast : s.rd 0x7001 0x07 = 1)
    (hcauses : s.faults.causes = [1]) (hdue : b + s.rd 0x7002 0x02 ≤ s.beat) : halfMastWindowExpiry s = leaveNext s := by
  simp [halfMastWindowExpiry, hentered, hmast, hcauses, hdue]

/-! ## A die that is lost (R19) -/

theorem die_modDie_same {s : State} {d : Nat} (h : d < s.dies.length) (f : Die → Die) : (s.modDie d f).die d = f (s.die d) := by
  simp [State.die, State.modDie, List.getD, h]

theorem die_modDie_other {d e : Nat} (h : e ≠ d) (s : State) (f : Die → Die) : (s.modDie d f).die e = s.die e := by
  simp [State.die, State.modDie, List.getD, h.symm]

/-- The loss of a die marks it, and touches calibration and objects besides (R429, R519). -/
theorem loseDie_eq (d : Nat) (s : State) :
    ∃ o c, loseDie d s = { s.modDie d fun x => { x with lost := true } with obj := o, cal := c } := by
  unfold loseDie
  dsimp only
  split_ifs <;> exact ⟨_, _, rfl⟩

theorem greundLinksFail_working {s : State} {d : Nat} (hd : d < 8) (h : (s.die d).lost = false) : greundLinksFail d s = loseDie d s := by
  simp [greundLinksFail, Nat.not_le.mpr hd, h]

/-! ## The obligation -/

/-- Settles O54: an accepted write shows its effect by `AcceptedAs`; each flash write's end, the log, the window's end and the lost die
are their functions on the first waiting job or the state that the clause names. -/
theorem flashResetsAndHalfMastByCommand : Obligations.FlashResetsAndHalfMastByCommand := by
  refine ⟨?profile, ?stored, ?notStored, ?firmware, ?written, ?logged, ?counted, ?erase, ?reset, ?recovery, ?leave, ?inDoubt, ?window,
    ?die⟩
  case profile =>
    intro r data s hop hfree hlen
    obtain ⟨t, hnext, ht⟩ := profileStore_accepted hop hfree hlen
    refine ⟨t, hnext, ht.answers, (ht.rd (by decide)).trans (rd_acceptProfile data s.enqueueRequest), fun hpass => ?_, fun hfail => ?_,
      ht.table.trans (acceptProfile_table data s.enqueueRequest), ht.flash⟩
    · rw [ht.jobs, acceptProfile_passed (s := s.enqueueRequest) hpass]; rfl
    · rw [ht.jobs, acceptProfile_failed (s := s.enqueueRequest) hfail]; rfl
  case stored =>
    intro s slot data rest hjobs hon
    rw [exec_profileStoreComplete, profileStoreComplete_written hjobs hon]
    exact ⟨_, done_eq rfl, rfl, rd_storeResult .., rfl, rfl, rfl⟩
  case notStored =>
    intro s slot data rest hjobs hon
    rw [exec_profileStoreComplete, profileStoreComplete_failed hjobs hon]
    exact ⟨_, done_eq rfl, rfl, rd_storeResult .., rfl, rfl, rfl⟩
  case firmware =>
    intro r data s hop hfree hlen
    obtain ⟨t, hnext, ht⟩ := firmwareUpdate_accepted hop hfree hlen
    refine ⟨t, hnext, ht.answers, fun hok => ?_, fun hbad => ?_, ht.table.trans (acceptFirmware_table data s.enqueueRequest), ht.flash⟩
    · rw [ht.rd (by decide), ht.jobs, acceptFirmware_verified (s := s.enqueueRequest) hok]
      exact ⟨rd_updateState .., rfl⟩
    · rw [ht.rd (by decide), ht.jobs, acceptFirmware_failed (s := s.enqueueRequest) hbad]
      exact ⟨rd_updateState .., rfl⟩
  case written =>
    intro s image readback rest hjobs hon
    rw [exec_firmwareWriteComplete, firmwareWriteComplete_on hjobs hon]
    exact ⟨_, done_eq rfl, rfl, rfl, rd_updateState .., rfl, rfl⟩
  case logged =>
    intro s x rest hjobs hon hroom
    rw [exec_faultRecordWrite, faultRecordWrite_entered hjobs hon hroom]
    exact ⟨_, done_eq rfl, rfl, rfl, rfl, rfl, rfl, rfl⟩
  case counted =>
    intro s x rest hjobs hon hfull
    rw [exec_faultRecordWrite, faultRecordWrite_full hjobs hon hfull]
    exact ⟨_, done_eq rfl, rfl, rfl, rd_bump_same ..⟩
  case erase =>
    rintro r b s hop hfree rfl
    rw [exec_logErase]
    obtain ⟨t, hnext, ht⟩ := dictWrite_accepted (accept := fun _ _ => true) (effect := fun _ _ s => logErase s) hop hfree
      writable_logErase rfl
    exact ⟨t, hnext, ht.answers, ht.eraseDue, ht.flash, ht.table, ht.mem⟩
  case reset =>
    rintro r b s hop hfree rfl
    exact resetWrite_due hop hfree (by decide) (by decide) rfl
  case recovery =>
    rintro r b s hop hfree rfl
    exact resetWrite_due hop hfree (by decide) (by decide) rfl
  case leave =>
    rintro r b s hop hfree rfl hdoubt hcauses
    have hok : acceptOf 0x7002 0x05 (operatorCtx r s 0x7002 0x05 [1#8]) s.enqueueRequest = true := by
      rw [acceptOf_leaveHalfMast]
      exact leaveOk_iff.mpr ⟨hdoubt, hcauses⟩
    rw [exec_leaveHalfMast]
    obtain ⟨t, hnext, ht⟩ := dictWrite_accepted (effect := fun _ _ s => leaveNext s) hop hfree writable_leaveHalfMast hok
    exact ⟨t, hnext, ht.answers, congrArg Faults.leaveDue ht.faults, ht.rd (by decide), ht.table, ht.mem⟩
  case inDoubt =>
    rintro r b s hop rfl hdoubt
    have hbad : acceptOf 0x7002 0x05 (operatorCtx r s 0x7002 0x05 [1#8]) s.enqueueRequest = false := by
      rw [acceptOf_leaveHalfMast]
      exact Bool.eq_false_iff.mpr fun hok => hdoubt (leaveOk_iff.mp hok).1
    rw [exec_leaveHalfMast, dictWrite_turnedAway hop writable_leaveHalfMast hbad]
    exact ⟨_, doneQuiet_respond _ _ _ _ _ rfl rfl rfl rfl rfl, answers_respond .., respond_faults .., respond_table .., respond_mem ..⟩
  case window =>
    intro s b hentered hmast hcauses hdue
    rw [exec_halfMastWindowExpiry, halfMastWindowExpiry_due hentered hmast hcauses hdue]
    exact doneQuiet_eq rfl rfl rfl rfl rfl
  case die =>
    intro s d hd hdies hworks
    obtain ⟨o, c, hlost⟩ := loseDie_eq d s
    rw [exec_greundLinksFail, greundLinksFail_working hd hworks, hlost]
    exact ⟨_, doneQuiet_eq rfl rfl rfl rfl rfl, congrArg Die.lost (die_modDie_same (hdies ▸ hd) _),
      fun e he => die_modDie_other he s _, rfl, rfl, rfl⟩

end Sys2Proof.Machine
end

section
/-! The queue's front command, the completion of every command, the state after a power-on reset, and the step's lease (R465, R498). -/

namespace Sys2Proof.Machine
open Sys2Proof

/-! ## The queue -/

/-- Settles O1: `step` on a queue that is not empty. -/
theorem stepRunsTheFrontCommand : Obligations.StepRunsTheFrontCommand := by
  intro c rest s hq
  unfold step
  rw [hq]

/-- The two forms of a command's answer put the queue's rest back, whatever the effect t is. -/
theorem done_completes (s t : State) : ∃ u, done s t = .next u ∧ u.pending = s.pending := ⟨_, rfl, rfl⟩

theorem doneQuiet_completes (s t : State) : ∃ u, doneQuiet s t = .next u ∧ u.pending = s.pending := ⟨_, rfl, rfl⟩

/-- Settles O3: the commands that store in a memory, the flash or the test port, or that may reset, answer by `done`, and all others by
`doneQuiet`. -/
theorem everyCommandCompletes : Obligations.EveryCommandCompletes := by
  intro c s
  cases c with
  | rowReductionRecord | blockMerge | reserveMove | restorePage | pageZero | granuleZero | remoteWriteArrival | messageArrival
  | messageRingWrite | copy | transposeCopy | fill | descriptorComplete | housekeepingEvaluation | comparatorTrip | shutdownRelease
  | stepStart | placementPlan | sectionRefetch | supplyFault | supplyRelease | pllLockLoss | watchdogDeadline | profileStoreComplete
  | firmwareWriteComplete | faultRecordWrite | tapReset | idcode | samplePreload | extest | extestPulse | extestTrain | clamp | highz
  | bypass | privateInstruction | write | writeBlock | powerOnReset | warmReset | profileApply | memoryTraining | ready | frameBoundary
  | stepWorkDone | stepAck | stepDiscard | commitDeadline | mack | release | ingressPoll | completionWrite => exact done_completes ..
  | _ => exact doneQuiet_completes ..

/-! ## The state after a power-on reset (R498) -/

/-- Settles O4: nothing is listed in `State.reset`, and an empty store is canonical. -/
theorem resetIsCanonical : Obligations.ResetIsCanonical := ⟨⟨rfl, rfl⟩, rfl, rfl, rfl, rfl⟩

/-! ## The lease of a step (R465) -/

theorem exec_stepLeaseExpiry (s : State) : exec .stepLeaseExpiry s = doneQuiet s (stepLeaseExpiry s) := rfl

/-- The step ends with its COMMIT released. -/
def Step.won (st : Step) : Bool := st.released && st.decision.map (·.outcome) = some 1

/-- What the lease's end counts: the event where it is late, and a forfeiture where the step did not commit. -/
def leaseCounted (st : Step) (s : State) : State :=
  if st.won then s.late (s.commitDeadlineOf st.frame) else forfeit false 0xFFFF (s.late (s.commitDeadlineOf st.frame))

theorem sameButObj_leaseCounted (st : Step) (s : State) : SameButObj s (leaseCounted st s) :=
  .ite (.late ..) ((SameButObj.late s _).bump ..)

/-- A step that did not commit is a forfeiture. -/
theorem counted_leaseCounted {st : Step} (h : st.won = false) (s : State) : Counted s (leaseCounted st s) 0x7001 0x08 1 := by
  have hcounted := counted_forfeit false 0xFFFF (s.late (s.commitDeadlineOf st.frame))
  unfold Counted at hcounted ⊢
  rw [leaseCounted, if_neg (Bool.eq_false_iff.mp h), hcounted, rd_late (by decide)]

/-- One that committed is none. -/
theorem rd_leaseCounted_won {st : Step} (h : st.won = true) (s : State) : (leaseCounted st s).rd 0x7001 0x08 = s.rd 0x7001 0x08 := by
  rw [leaseCounted, if_pos h, rd_late (by decide)]

/-- The lease's end drops the step's work, and a resolved step with it. -/
theorem stepLeaseExpiry_due {s : State} {st : Step} (h : s.fab.step = some st) (hdue : s.commitDeadlineOf st.frame ≤ s.beat) :
    ∃ f, stepLeaseExpiry s = { dropWork st.num (leaseCounted st s) with fab := f } := by
  have hcounted : stepLeaseExpiry s = if st.resolved then
      (dropWork st.num (leaseCounted st s)).modFab fun f => { f with step := none } else dropWork st.num (leaseCounted st s) := by
    simp [stepLeaseExpiry, h, Nat.not_lt.mpr hdue, leaseCounted, Step.won]
  rw [hcounted]
  split_ifs
  · exact ⟨_, rfl⟩
  · exact ⟨(leaseCounted st s).fab, rfl⟩

/-- Settles O10: at the lease's end the work is `dropWork`'s, and the objects are those of `leaseCounted`. -/
theorem theStepLeaseReleasesItsWork : Obligations.TheStepLeaseReleasesItsWork := by
  intro s st hstep hdue
  obtain ⟨f, heq⟩ := stepLeaseExpiry_due hstep hdue
  have hsame := sameButObj_leaseCounted st s
  rw [exec_stepLeaseExpiry, heq]
  refine ⟨_, doneQuiet_eq ?_ hsame.mem ?_ ?_ ?_, rfl, rfl, rfl, rfl, fun hopen => ?lost, fun hreleased hcommit => ?kept, hsame.table,
    hsame.mem⟩
  case lost => exact counted_leaseCounted (by simp [Step.won, hopen]) s
  case kept => exact rd_leaseCounted_won (by simp [Step.won, hreleased, hcommit]) s
  all_goals
    rw [hsame]
    rfl

end Sys2Proof.Machine
end

section
/-! Resets and shutdowns: what they keep, what they report, and the loss of a reference clock (R416, R417, R433, R447, R498, R537). -/

namespace Sys2Proof.Machine
open Sys2Proof

/-! ## What a reset loses (R447, R499) -/

/-- An object that the always-on domain does not hold is at its default. -/
theorem rd_loseVolatile {i u : Nat} (h : objKey i u 0 ∉ alwaysOn) (s : State) :
    (loseVolatile s).rd i u = objDefault (objKey i u 0) :=
  sget_filter_none _ _ _ s.obj fun _ => by simpa using h

/-- A torn flash write costs no record and no count of resets (R405, R484). -/
theorem tornFlash_kept (s : State) : (tornFlash s).log = s.flash.log ∧ (tornFlash s).resets = s.flash.resets := by
  unfold tornFlash
  split
  · split_ifs <;> exact ⟨rfl, rfl⟩
  · exact ⟨rfl, rfl⟩
  · exact ⟨rfl, rfl⟩

/-! ## Resets (R498, R499) -/

/-- The device t is at the start of start-up after a reset of s with a cause: nothing in its memories, the reset counted in the flash,
and the fault log kept. -/
structure ResetFrom (cause : Nat) (s t : State) : Prop where
  cause : t.rd 0x1000 0x09 = cause
  boot : t.boot = State.reset.boot
  s3 : t.power.s3 = none
  table : t.table = []
  mem : t.mem = []
  resets : t.flash.resets = s.flash.resets + 1
  log : t.flash.log = s.flash.log
  pending : t.pending = s.pending

theorem beginReset_from (cause : Nat) (s : State) : ResetFrom cause s (beginReset cause false s) where
  cause := rd_wr_same ..
  boot := rfl
  s3 := rfl
  table := rfl
  mem := rfl
  resets := congrArg (· + 1) (tornFlash_kept s).2
  log := (tornFlash_kept s).1
  pending := rfl

@[simp] theorem beginReset_count (cause : Nat) (recovery : Bool) (s : State) : (beginReset cause recovery s).count = s.count := rfl

theorem powerOn_from (s : State) : ResetFrom 0 s (powerOn s) where
  cause := by
    have hdefault : objDefault (objKey 0x1000 0x09 0) = 0 := by decide +kernel
    exact hdefault
  boot := rfl
  s3 := rfl
  table := rfl
  mem := rfl
  resets := (beginReset_from 0 s).resets
  log := (beginReset_from 0 s).log
  pending := rfl

/-! ## Shutdowns (R416, R433) -/

/-- The device t has stopped in S3 on s: the hold and the record of the kind, BYP_HOLD released, SHUTDOWN set by R416 alone. -/
structure StoppedFrom (kind : Nat) (r : FaultRec) (s t : State) : Prop where
  s3 : t.power.s3 = some (kind, s.beat)
  bypHold : t.power.bypHold = 0
  shdn : t.power.shdn = true
  record : t.power.pending = some r
  sleep : t.rd 0x2000 0x09 = 3
  alarm : t.rd 0x2103 0x05 = if kind = 8 then 4 else 0
  table : t.table = []
  mem : t.mem = []
  count : t.count = s.count
  log : t.flash.log = s.flash.log
  tap : t.tap = s.tap
  pending : t.pending = s.pending

/-- The objects that a shutdown leaves: all at their defaults, the sleep state S3, and SHUTDOWN in one of R416. -/
theorem shutdown_stops {s : State} (h : s.power.s3 = none) (kind : Nat) (r : FaultRec) :
    StoppedFrom kind r s (shutdown kind r s) := by
  have hlost : (loseVolatile s).rd 0x2103 0x05 = 0 := by
    have hdefault : objDefault (objKey 0x2103 0x05 0) = 0 := by decide +kernel
    rw [rd_loseVolatile (by decide), hdefault]
  unfold shutdown
  extract_lets t p u v
  have hsleep : v.rd 0x2000 0x09 = 3 := rd_wr_same u ..
  have halarm : v.rd 0x2103 0x05 = 0 := (rd_wr_other u _ _ _ (by decide)).trans hlost
  rw [h, if_neg (by decide)]
  split_ifs with hkind
  · exact ⟨rfl, rfl, rfl, rfl, (rd_wr_other v _ _ _ (by decide)).trans hsleep, (rd_wr_same v ..).trans (if_pos hkind).symm, rfl, rfl,
      rfl, (tornFlash_kept s).1, rfl, rfl⟩
  · exact ⟨rfl, rfl, rfl, rfl, hsleep, halarm.trans (if_neg hkind).symm, rfl, rfl, rfl, (tornFlash_kept s).1, rfl, rfl⟩

/-! ## The meanings of the commands -/

theorem exec_comparatorTrip (diode : Nat) (s : State) : exec (.comparatorTrip diode) s = done s (comparatorTrip diode s) := rfl

theorem exec_shutdownRelease (s : State) : exec .shutdownRelease s = done s (shutdownRelease s) := rfl

theorem exec_supplyFault (rail : Nat) (s : State) : exec (.supplyFault rail) s = done s (supplyFault rail s) := rfl

theorem exec_supplyRelease (s : State) : exec .supplyRelease s = done s (supplyRelease s) := rfl

theorem exec_pllLockLoss (clock : Nat) (s : State) : exec (.pllLockLoss clock) s = done s (pllLockLoss clock s) := rfl

/-- The hold of R416 ends with a reset of cause 4. -/
theorem shutdownRelease_due {s : State} {b : Nat} (h : s.power.s3 = some (8, b)) (hdue : b + 976563 ≤ s.beat) :
    shutdownRelease s = beginReset 4 false s := by
  simp [shutdownRelease, h, holdBeats, Nat.not_lt.mpr hdue]

/-- The hold of R433 ends with a reset of cause 0. -/
theorem supplyRelease_due {s : State} {b : Nat} (h : s.power.s3 = some (9, b)) (hdue : b + 976563 ≤ s.beat) :
    supplyRelease s = beginReset 0 false s := by
  simp [supplyRelease, h, holdBeats, Nat.not_lt.mpr hdue]

/-- A rail other than VDD_AO stops the device (R433). -/
theorem supplyFault_rail {rail : Nat} (hleast : 1 ≤ rail) (hmost : rail ≤ 15) (s : State) :
    supplyFault rail s = shutdown 9 (supplyRec s rail) s := by
  have hrail : ¬(rail = 0 || railCount < rail) = true := by
    unfold railCount
    simp only [Bool.or_eq_true, decide_eq_true_eq]
    omega
  have hao : rail ≠ railCount := by
    unfold railCount
    omega
  rw [supplyFault, if_neg hrail, if_neg hao]

/-! ## Links that lose their clock (R537) -/

/-- Links that go down in turn: those are DOWN, the others as they were. -/
theorem foldl_linkDown (ks : List Nat) (s : State) : SameButLinks s (ks.foldl (fun s k => linkDown k s) s) ∧
    (∀ j ∈ ks, (ks.foldl (fun s k => linkDown k s) s).linkState j = 0) ∧
    ∀ j ∉ ks, (ks.foldl (fun s k => linkDown k s) s).linkState j = s.linkState j := by
  induction ks generalizing s with
  | nil => exact ⟨.refl s, by simp, fun _ _ => rfl⟩
  | cons k ks ih =>
    obtain ⟨hsame, hdown, hkept⟩ := ih (linkDown k s)
    have hfirst := linkKeeps_linkDown k s
    refine ⟨hfirst.same.trans hsame, fun j hj => ?_, fun j hj => ?_⟩
    · by_cases hlater : j ∈ ks
      · exact hdown j hlater
      · obtain rfl : j = k := (List.mem_cons.mp hj).resolve_right hlater
        exact (hkept j hlater).trans (linkState_linkDown ..)
    · obtain ⟨hne, hlater⟩ := not_or.mp (List.mem_cons.not.mp hj)
      exact (hkept j hlater).trans (hfirst.linkState hne)

/-- The loss of a clock takes its links down and touches no other link, no request and no memory. -/
theorem done_foldl_linkDown {ks others : List Nat} (h : ∀ k ∈ others, k ∉ ks) (s : State) :
    ∃ t, done s (ks.foldl (fun s k => linkDown k s) s) = .next t ∧ (∀ k ∈ ks, t.linkState k = 0) ∧
      (∀ k ∈ others, t.linkState k = s.linkState k) ∧ t.table = s.table ∧ t.mem = s.mem := by
  obtain ⟨hsame, hdown, hkept⟩ := foldl_linkDown ks s
  exact ⟨_, done_eq (by rw [hsame]), hdown, fun k hk => hkept k (h k hk), hsame.table, hsame.mem⟩

/-- Settles O38: a trip, a fault and the core PLL are `shutdown`, the ends of their holds and the loss of VDD_AO are resets, and another
PLL takes down its links or the port. -/
theorem shutdownsHoldTheDevice : Obligations.ShutdownsHoldTheDevice := by
  refine ⟨?trip, ?release, ?rail, ?alwaysOn, ?supply, ?core, ?serH, ?serF, ?eth⟩
  case trip =>
    intro s diode hs3
    have h := shutdown_stops hs3 8 { shutdownRec s with unit := diode }
    exact ⟨_, _, done_eq h.pending, h.s3, h.bypHold, h.shdn, h.record, rfl, rfl, h.sleep, h.alarm, h.table, h.mem, h.count, h.log,
      h.tap⟩
  case release =>
    intro s b hs3 hdue
    have h := beginReset_from 4 s
    rw [exec_shutdownRelease, shutdownRelease_due hs3 hdue]
    exact ⟨_, done_eq h.pending, h.s3, h.cause, h.resets, beginReset_count ..⟩
  case rail =>
    intro s rail hs3 hleast hmost
    have h := shutdown_stops hs3 9 (supplyRec s rail)
    rw [exec_supplyFault, supplyFault_rail hleast hmost]
    exact ⟨_, _, done_eq h.pending, h.s3, h.bypHold, h.shdn, h.record, rfl, rfl, h.alarm, h.count, h.log, h.tap⟩
  case alwaysOn =>
    intro s
    have h := powerOn_from s
    exact ⟨_, done_eq h.pending, rfl, h.s3, h.cause, h.resets⟩
  case supply =>
    intro s b hs3 hdue
    have h := beginReset_from 0 s
    rw [exec_supplyRelease, supplyRelease_due hs3 hdue]
    exact ⟨_, done_eq h.pending, h.s3, h.cause, h.resets, beginReset_count ..⟩
  case core =>
    intro s hs3
    have h := shutdown_stops hs3 9 (supplyRec s 0)
    exact ⟨_, done_eq h.pending, h.s3⟩
  case serH => exact fun s => done_foldl_linkDown (ks := [0, 2, 4]) (others := [1, 3, 5]) (by decide) s
  case serF => exact fun s => done_foldl_linkDown (ks := [1, 3, 5]) (others := [0, 2, 4]) (by decide) s
  case eth =>
    intro s hup
    have hdown : pllLockLoss 3 s = s.wr 0x1100 0x03 0 := ethPortDown_up hup
    rw [exec_pllLockLoss, hdown]
    exact done_eq rfl

end Sys2Proof.Machine
end

section
/-! The test access port: its instructions, the hold of the device and its end, and the identification register (R520 to R524). -/

namespace Sys2Proof.Machine
open Sys2Proof

/-! ## The meanings of the commands -/

section Meanings
variable (data : Bytes) (op : Nat) (s : State)

theorem exec_tapReset : exec .tapReset s = done s (setInstruction 1 false s.tap.boundary (leBytes 4 idRegister) s) := rfl
theorem exec_idcode : exec .idcode s = done s (setInstruction 1 false s.tap.boundary (leBytes 4 idRegister) s) := rfl
theorem exec_samplePreload : exec (.samplePreload data) s = done s (samplePreload data s) := rfl
theorem exec_extest : exec (.extest data) s = done s (setInstruction 3 true data data s) := rfl
theorem exec_extestPulse : exec (.extestPulse data) s = done s (setInstruction 4 true data data s) := rfl
theorem exec_extestTrain : exec (.extestTrain data) s = done s (setInstruction 5 true data data s) := rfl
theorem exec_clamp : exec (.clamp data) s = done s (setInstruction 6 true data [0#8] s) := rfl
theorem exec_highz : exec .highz s = done s (setInstruction 7 true s.tap.boundary [0#8] s) := rfl
theorem exec_bypass : exec (.bypass op) s = done s
    (if assignedOpcode op || 0xFF < op then s else setInstruction 0xFF false s.tap.boundary [0#8] s) := rfl
theorem exec_privateInstruction : exec (.privateInstruction op) s = done s (privateInstruction op s) := rfl

end Meanings

/-! ## An instruction (R523) -/

section Instruction
variable (ir : Nat) (boundary dr : Bytes) (s : State)

/-- An instruction that does not hold the device changes the port alone, while the one before it does not hold it either. -/
theorem setInstruction_free {s : State} (h : s.tap.hold = false) :
    setInstruction ir false boundary dr s = { s with tap := ⟨ir, boundary, dr, false⟩ } := by
  simp [setInstruction, h]

/-- The first such instruction after a hold resets the device. -/
theorem setInstruction_released {s : State} (h : s.tap.hold = true) (hs3 : s.power.s3 = none) :
    setInstruction ir false boundary dr s = { beginReset 1 false s with tap := ⟨ir, boundary, dr, false⟩ } := by
  simp [setInstruction, h, hs3]

/-- The port's registers follow the instruction in every state. -/
theorem setInstruction_tap (hold : Bool) : (setInstruction ir hold boundary dr s).tap = ⟨ir, boundary, dr, hold⟩ := rfl

theorem setInstruction_pending (hold : Bool) : (setInstruction ir hold boundary dr s).pending = s.pending := by
  unfold setInstruction
  dsimp only
  split_ifs <;> rfl

/-- An instruction that holds the device holds it as under RESET_N. -/
theorem heldByTap_setInstruction {s : State} (h : s.tap.hold = false) (hs3 : s.power.s3 = none) :
    HeldByTap s (setInstruction ir true boundary dr s) := by
  have hlost : setInstruction ir true boundary dr s = { loseVolatile s with tap := ⟨ir, boundary, dr, true⟩ } := by
    simp [setInstruction, h, hs3]
  rw [hlost]
  exact ⟨rfl, rfl, rfl, rfl, rfl⟩

end Instruction

/-! ## SAMPLE/PRELOAD and the instructions from 0x80 on (R522, R524) -/

/-- As many bytes are captured as are loaded. -/
theorem samplePreload_free {s : State} (h : s.tap.hold = false) (data : Bytes) : ∃ seen, seen.length = data.length ∧
    samplePreload data s = { s with draws := s.draws + data.length, tap := ⟨2, data, seen, false⟩ } := by
  refine ⟨(List.range data.length).map fun i => BitVec.ofNat 8 (Config.freeValue (s.draws + i)), by simp, ?_⟩
  unfold samplePreload
  exact setInstruction_free (s := { s with draws := s.draws + data.length }) 2 data _ h

/-- Sessions that end in turn change the security record and the open block writes alone (R491). -/
theorem foldl_endSessionNow_eq (l : List Session) (s : State) :
    ∃ c e, l.foldl (fun s x => endSessionNow x.id s) s = { s with sec := c, eth := e } := by
  induction l generalizing s with
  | nil => exact ⟨s.sec, s.eth, rfl⟩
  | cons x l ih =>
    obtain ⟨c, e, h⟩ := ih (endSessionNow x.id s)
    exact ⟨c, e, h⟩

/-- An instruction from 0x80 to 0xFE ends the sessions, clears the security engine's memory and is remembered. -/
theorem privateInstruction_free {s : State} (h : s.tap.hold = false) {op : Nat} (hleast : 0x80 ≤ op) (hmost : op ≤ 0xFE) :
    ∃ (c : Sec) (e : Eth), privateInstruction op s = { s with
      tap := ⟨op, s.tap.boundary, [], false⟩
      sec := { c with sessions := [], sigQueue := [], ensign := false, privUsed := true }
      eth := e } := by
  have hop : ¬(op < 0x80 || 0xFE < op) = true := by simp; omega
  obtain ⟨c, e, hend⟩ := foldl_endSessionNow_eq s.sec.sessions { s with tap := ⟨op, s.tap.boundary, [], false⟩ }
  refine ⟨c, e, ?_⟩
  rw [privateInstruction, if_neg hop, setInstruction_free op _ _ h]
  dsimp only
  rw [hend]
  rfl

/-! ## The identification register (R521) -/

/-- The register's word for a stepping and a code of identification. -/
def idWord (stepping : Nat) (code : Word) : Nat :=
  stepping / 256 % 16 * 0x10000000 + 0xA501 * 0x1000 + code.toNat / 2 % 2048 * 2 + 1

theorem idRegister_eq : idRegister = idWord Config.stepping Config.idcode := rfl

/-- The fields of such a word do not overlap, and its four bytes hold all of it. -/
theorem bits_idWord (stepping : Nat) (code : Word) :
    bits (leNat (leBytes 4 (idWord stepping code))) 31 28 = stepping / 256 % 16 ∧
      bits (leNat (leBytes 4 (idWord stepping code))) 27 12 = 0xA501 ∧
      bits (leNat (leBytes 4 (idWord stepping code))) 11 1 = bits code.toNat 11 1 ∧
      bits (leNat (leBytes 4 (idWord stepping code))) 0 0 = 1 := by
  have hlt : idWord stepping code < 256 ^ 4 := by
    unfold idWord
    omega
  rw [leNat_leBytes, Nat.mod_eq_of_lt hlt]
  unfold bits idWord
  refine ⟨?_, ?_, ?_, ?_⟩ <;> omega

/-- Settles O57: IDCODE selects the register, whose word has the form of `bits_idWord`. -/
theorem theIdentificationRegisterIsSelected : Obligations.TheIdentificationRegisterIsSelected := by
  intro s
  have h := bits_idWord Config.stepping Config.idcode
  rw [← idRegister_eq] at h
  exact ⟨_, done_eq (setInstruction_pending ..), rfl, h⟩

/-- Settles O56: each instruction is `setInstruction` with the opcode, registers and hold of its command. -/
theorem theTestPortHoldsAndReleasesTheDevice : Obligations.TheTestPortHoldsAndReleasesTheDevice := by
  refine ⟨?tapReset, ?idcode, ?sample, ?extest, ?pulse, ?train, ?clamp, ?highz, ?bypass, ?priv⟩
  case tapReset =>
    intro s hfree
    rw [exec_tapReset, setInstruction_free 1 _ _ hfree]
    exact ⟨_, done_eq rfl, rfl, rfl, rfl⟩
  case idcode =>
    intro s hheld hs3
    have h := beginReset_from 1 s
    rw [exec_idcode, setInstruction_released 1 _ _ hheld hs3]
    exact ⟨_, done_eq rfl, rfl, rfl, h.cause, h.resets, rfl, rfl⟩
  case sample =>
    intro s data hfree
    obtain ⟨seen, hlen, heq⟩ := samplePreload_free hfree data
    rw [exec_samplePreload, heq]
    exact ⟨_, done_eq rfl, rfl, rfl, hlen, rfl, rfl, rfl⟩
  case extest =>
    exact fun s data hfree hs3 => ⟨_, done_eq (setInstruction_pending ..), rfl, rfl, heldByTap_setInstruction 3 _ _ hfree hs3⟩
  case pulse =>
    exact fun s data hfree hs3 => ⟨_, done_eq (setInstruction_pending ..), rfl, rfl, heldByTap_setInstruction 4 _ _ hfree hs3⟩
  case train =>
    exact fun s data hfree hs3 => ⟨_, done_eq (setInstruction_pending ..), rfl, rfl, heldByTap_setInstruction 5 _ _ hfree hs3⟩
  case clamp =>
    exact fun s data hfree hs3 => ⟨_, done_eq (setInstruction_pending ..), rfl, rfl, rfl, heldByTap_setInstruction 6 _ _ hfree hs3⟩
  case highz =>
    exact fun s hfree hs3 => ⟨_, done_eq (setInstruction_pending ..), rfl, rfl, heldByTap_setInstruction 7 _ _ hfree hs3⟩
  case bypass =>
    intro s op hfree hop hmost
    rw [exec_bypass, if_neg (by simp [hop, hmost]), setInstruction_free 0xFF _ _ hfree]
    exact done_eq rfl
  case priv =>
    intro s op hfree hleast hmost
    obtain ⟨c, e, heq⟩ := privateInstruction_free hfree hleast hmost
    rw [exec_privateInstruction, heq]
    exact ⟨_, done_eq rfl, rfl, rfl, rfl, rfl, rfl, rfl, rfl, rfl⟩

end Sys2Proof.Machine
end

section
/-! The stages of start-up, from the release to a device that is ready, and the settings of the KV cache (R266, R481, R485, R487, R503 to
R508). -/

namespace Sys2Proof.Machine
open Sys2Proof

/-! ## The meanings of the commands -/

section Meanings
variable (s : State)

theorem exec_powerOnReset : exec .powerOnReset s = done s (powerOn s) := rfl
theorem exec_warmReset : exec .warmReset s = done s (warmReset s) := rfl
theorem exec_startupRelease (x y z p : Nat) : exec (.startupRelease x y z p) s = doneQuiet s (startupRelease x y z p s) := rfl
theorem exec_firmwareCheck : exec .firmwareCheck s = doneQuiet s (firmwareCheck s) := rfl
theorem exec_keyUnwrap (puf : Bool) : exec (.keyUnwrap puf) s = doneQuiet s (keyUnwrap puf s) := rfl
theorem exec_profileApply : exec .profileApply s = done s (profileApply s) := rfl
theorem exec_d2dTraining (trained : List Bool) : exec (.d2dTraining trained) s = doneQuiet s (d2dTraining trained s) := rfl
theorem exec_memoryTraining (ok : Bool) : exec (.memoryTraining ok) s = done s (memoryTraining ok s) := rfl
theorem exec_ready : exec .ready s = done s (becomeReady s) := rfl
theorem exec_kvConfigWrite_mode (r : DictReq) (data : Bytes) : exec (.kvConfigWrite r 0x01 data) s =
    doneQuiet s (dictWrite r 0x6000 0x01 data (kvConfigOk 0x01) (fun row c s => repool (storeWrite row 0x6000 0x01 c s)) s) := rfl

end Meanings

/-! ## RESET_N (R497, R500) -/

theorem warmReset_running {s : State} (h : s.power.s3 = none) : warmReset s = beginReset 1 false s := by
  simp [warmReset, h]

theorem warmReset_s3 {s : State} (h : s.power.s3.isSome = true) : warmReset s = s := if_pos h

/-! ## STARTUP_RELEASE (R501, R503, R504) -/

/-- The release itself: straps and position sampled, 600 MHz without a point in effect. -/
def released (x y z profile : Nat) (s : State) : State :=
  (((s.modPower fun p => { p with posX := x % 64, posY := y % 64, posZ := z % 64, straps := profile % 4, vid := 0, duty8 := 8 }).wr
    0x2000 0x05 7).wr 0x2000 0x03 600).modBoot fun b => { b with released := true }

theorem rd_released_clock (x y z p : Nat) (s : State) : (released x y z p s).rd 0x2000 0x03 = 600 :=
  rd_wr_same ((s.modPower _).wr 0x2000 0x05 7) 0x2000 0x03 600

theorem rd_released_point (x y z p : Nat) (s : State) : (released x y z p s).rd 0x2000 0x05 = 7 :=
  (rd_wr_other ((s.modPower _).wr 0x2000 0x05 7) 0x2000 0x03 600 (by decide)).trans (rd_wr_same (s.modPower _) 0x2000 0x05 7)

theorem startupRelease_held {s : State} (hfirst : s.boot.released = false) (hhold : s.tap.hold = false) (hs3 : s.power.s3 = none)
    (x y z p : Nat) : startupRelease x y z p s =
      startTime (if s.boot.recovery then (released x y z p s).wr 0x1000 0x08 2 else released x y z p s) := by
  simp [startupRelease, hfirst, hhold, hs3, released, State.modBoot, State.modPower, State.wr, State.wrI]

/-- The count's discipline is found in the time record and in its own objects (R504). -/
theorem startTime_same (s : State) : SameButTime s (startTime s) := by
  unfold startTime
  split
  · exact .refl s
  · split_ifs
    · exact .refl s
    · exact SameButTime.trans (t := (s.wr 0x1200 0x03 3).modTime _) rfl (checkBounds_keepsPtp _).same

theorem rd_startTime {i u : Nat} (hu : u < 256) (h : i ≠ 0x1200) (s : State) : (startTime s).rd i u = s.rd i u := by
  have hkey {w : Nat} (hw : w < 256) : objKey i u 0 ≠ objKey 0x1200 w 0 := objKey_ne_of_index hu hw h
  unfold startTime
  split
  · rfl
  · split_ifs
    · rfl
    · exact (rd_checkBounds (hkey (by decide)) _).trans ((rd_modTime ..).trans (rd_wr_other s _ _ _ (hkey (by decide))))

/-! ## FIRMWARE_CHECK (R481, R485) -/

section Firmware
variable {s : State} (hreleased : s.boot.released = true) (hfirst : s.boot.fwOk = false) (hrecovery : s.boot.recovery = false)
include hreleased hfirst hrecovery

theorem firmwareCheck_passed (hok : firmwareOk s.flash.firmware s = true) : ∃ o b, firmwareCheck s = { s with
    obj := o
    oct := b
    boot := { s.boot with fwOk := true }
    sec := { s.sec with keys := imageKeys s.flash.firmware, keyTable := keyTableOf s.flash.firmware } } := by
  have hdue : ¬(!s.boot.released || s.boot.fwOk || s.boot.recovery) = true := by simp [hreleased, hfirst, hrecovery]
  rw [firmwareCheck, if_neg hdue]
  dsimp only
  rw [if_pos hok]
  exact ⟨_, _, rfl⟩

theorem firmwareCheck_failed (hbad : firmwareOk s.flash.firmware s = false) : firmwareCheck s =
    ((s.modBoot fun x => { x with recovery := true }).wr 0x1000 0x08 2).wr 0x1200 0x03 0 := by
  simp [firmwareCheck, hreleased, hfirst, hrecovery, hbad]

end Firmware

/-! ## KEY_UNWRAP (R485, R487) -/

/-- The key stage of a device with a verified image: the ensign key where it unwraps, and Masthead started. -/
theorem keyUnwrap_verified {s : State} (hok : s.boot.fwOk = true) (hrecovery : s.boot.recovery = false)
    (hfirst : s.boot.keyDone = false) (puf : Bool) : ∃ (o : List (Nat × Nat)) (m : Masthead), keyUnwrap puf s = { s with
      obj := o
      masthead := { m with on := true }
      boot := { s.boot with keyDone := true }
      sec := { s.sec with ensign := puf || s.sec.ensign } } := by
  cases puf with
  | true => exact ⟨s.obj, s.masthead, by simp [keyUnwrap, hok, hrecovery, hfirst, State.modSec, State.modMast, State.modBoot]⟩
  | false =>
    obtain ⟨o, m, hlog⟩ := log_eq s (newRec s 10 0)
    exact ⟨o, m, by simp [keyUnwrap, hok, hrecovery, hfirst, hlog, State.modMast, State.modBoot]⟩

/-! ## PROFILE_APPLY with no stored profile (R406, R502, R503) -/

/-- Ring lengths settle in objects, the fabric record and the values held over the reset. -/
theorem settleRingLengths_eq (s : State) :
    ∃ o f, settleRingLengths s = { s with obj := o, fab := f, power := { s.power with heldRings := [] } } := by
  unfold settleRingLengths
  extract_lets t v
  have ht : SameButObj s t := .foldl (fun t _ => (SameButObj.refl t).wr ..) _ s
  have hv : v = { s with obj := t.obj, fab := v.fab, power := { s.power with heldRings := [] } } := by
    unfold v
    rw [ht]
    rfl
  rw [hv]
  split_ifs
  · exact ⟨_, _, rfl⟩
  · exact ⟨_, _, rfl⟩

/-- Objects below those of the ring lengths keep their value. -/
theorem rd_settleRingLengths {i u : Nat} (hi : i < 0x3100) (hu : u < 256) (s : State) : (settleRingLengths s).rd i u = s.rd i u := by
  have hkey (j w : Nat) (hj : 0x3100 ≤ j) : objKey i u 0 ≠ objKey j w 0 := by
    unfold objKey
    omega
  have hheld : (s.power.heldRings.foldl (fun s h => s.wr 0x3100 h.1 h.2) s).rd i u = s.rd i u :=
    List.foldlRecOn (motive := fun t : State => t.rd i u = s.rd i u) _ _ rfl fun t ht h _ =>
      (rd_wr_other _ _ _ _ (hkey 0x3100 h.1 (by decide))).trans ht
  unfold settleRingLengths
  extract_lets t v
  have hv : v.rd i u = s.rd i u := hheld
  split_ifs
  · exact hv
  · exact (rd_flag_other v _ _ _ (hkey 0x3103 0x0A (by decide))).trans hv

/-- No slot holds a profile. -/
def State.NoProfiles (s : State) : Prop := ∀ slot, s.flash.profiles.getD slot [] = []

theorem noProfiles_of_empty {s : State} (h : s.flash.profiles = [[], [], [], []]) : s.NoProfiles := by
  intro slot
  rw [h]
  rcases slot with _ | _ | _ | _ | _ <;> rfl

theorem checkSlots_empty {s : State} (h : s.NoProfiles) : (List.range 4).foldl checkSlot s = s :=
  List.foldl_fixed' (fun slot => by simp only [checkSlot, h slot, List.isEmpty_nil, if_true]) _

/-- The defaults in effect: the selected slot and no next profile, with bonding off. -/
def defaultsApplied (s : State) : State := ((s.wr 0x1400 0x01 s.selectedSlot).wr 0x1400 0x03 0xFF).wr 0x1100 0x02 0

/-- The record that the always-on domain holds is logged (R417). -/
def logHeld (s : State) : State :=
  match s.power.pending with
  | some r => (s.log r).modPower fun p => { p with pending := none }
  | none => s

theorem logHeld_eq (s : State) :
    ∃ o m, logHeld s = { s with obj := o, masthead := m, power := { s.power with pending := none } } := by
  unfold logHeld
  split
  next r _ =>
    obtain ⟨o, m, h⟩ := log_eq s r
    exact ⟨o, m, by rw [h]; rfl⟩
  next hnone => exact ⟨s.obj, s.masthead, by rw [← hnone]⟩

theorem rd_logHeld {i u : Nat} (h : objKey i u 0 ≠ objKey 0x7000 0x02 0) (s : State) : (logHeld s).rd i u = s.rd i u := by
  unfold logHeld
  split
  · exact rd_log h s _
  · rfl

theorem profileApply_empty {s : State} (hkey : s.boot.keyDone = true) (hok : s.boot.fwOk = true) (hfirst : s.boot.profileDone = false)
    (hnone : s.NoProfiles) : profileApply s =
      (logHeld (settleRingLengths (defaultsApplied s))).modBoot fun b => { b with profileDone := true } := by
  have hgood : ((s.wr 0x1400 0x01 s.selectedSlot).wr 0x1400 0x03 0xFF).goodProfile s.selectedSlot = none := by
    have hslot : ((s.wr 0x1400 0x01 s.selectedSlot).wr 0x1400 0x03 0xFF).flash.profiles.getD s.selectedSlot [] = [] :=
      hnone s.selectedSlot
    unfold State.goodProfile
    dsimp only
    rw [hslot]
    rfl
  unfold profileApply
  rw [hkey, hok, hfirst, if_neg (by decide), checkSlots_empty hnone]
  dsimp only
  rw [hgood]
  rfl

/-! ## D2D_TRAINING (R19, R340, R503) -/

/-- The dies that did not train are lost. -/
def loseUntrained (trained : List Bool) (s : State) (d : Nat) : State := if trained.getD d false then s else loseDie d s

/-- What the training of some dies leaves: the dies' other fields, and everything but objects and calibration besides. -/
structure Trained (trained : List Bool) (l : List Nat) (s t : State) : Prop where
  same : t = { s with obj := t.obj, cal := t.cal, dies := t.dies }
  length : t.dies.length = s.dies.length
  lost : ∀ d < s.dies.length, (t.die d).lost = ((s.die d).lost || (decide (d ∈ l) && !trained.getD d false))

theorem loseUntrained_trained (trained : List Bool) (s : State) (e : Nat) : Trained trained [e] s (loseUntrained trained s e) := by
  unfold loseUntrained
  split_ifs with htrained
  · refine ⟨rfl, rfl, fun d _ => ?_⟩
    by_cases hd : d = e
    · subst hd
      rw [htrained]
      simp
    · simp [hd]
  · obtain ⟨o, c, heq⟩ := loseDie_eq e s
    rw [heq]
    refine ⟨rfl, List.length_modify .., fun d hd => ?_⟩
    by_cases hde : d = e
    · subst hde
      have hsame := congrArg Die.lost (die_modDie_same hd fun x => { x with lost := true })
      exact hsame.trans (by rw [Bool.eq_false_iff.mpr htrained]; simp)
    · have hother := congrArg Die.lost (die_modDie_other hde s fun x => { x with lost := true })
      exact hother.trans (by simp [hde])

theorem Trained.trans {trained : List Bool} {l m : List Nat} {s t u : State} (h : Trained trained l s t)
    (k : Trained trained m t u) : Trained trained (l ++ m) s u := by
  refine ⟨?_, k.length.trans h.length, fun d hd => ?_⟩
  · have hsame := k.same
    rw [h.same] at hsame
    exact hsame
  · rw [k.lost d (h.length ▸ hd), h.lost d hd]
    simp only [List.mem_append, Bool.decide_or, Bool.and_or_distrib_right, Bool.or_assoc]

theorem foldl_loseUntrained (trained : List Bool) (l : List Nat) (s : State) :
    Trained trained l s (l.foldl (loseUntrained trained) s) := by
  induction l generalizing s with
  | nil => exact ⟨rfl, rfl, by simp⟩
  | cons d l ih => exact (loseUntrained_trained trained s d).trans (ih _)

theorem d2dTraining_first {s : State} (hprofile : s.boot.profileDone = true) (hfirst : s.boot.d2dDone = false) (trained : List Bool) :
    d2dTraining trained s = ((List.range 8).foldl (loseUntrained trained)
      (s.modPower fun p => { p with bypHold := 1, bypReleased := false })).modBoot fun b => { b with d2dDone := true } := by
  rw [d2dTraining, hprofile, hfirst]
  rfl

/-! ## MEMORY_TRAINING (R207, R503) -/

theorem memoryTraining_first {s : State} (hprofile : s.boot.profileDone = true) (hfirst : s.boot.memDone = false) (ok : Bool) :
    memoryTraining ok s = repool
      { (s.modBoot fun b => { b with memDone := true, memOk := ok }) with mem := [], table := [], bufs := [], granZero := [] } := by
  simp [memoryTraining, hprofile, hfirst]

/-! ## READY (R482, R506 to R508) -/

/-- Nothing but objects and the records that the last stage of start-up sets differs. -/
def SameButStart (s t : State) : Prop :=
  t = { s with obj := t.obj, fab := t.fab, faults := t.faults, masthead := t.masthead, load := t.load, arrays := t.arrays,
               flash := t.flash, out := t.out }

theorem SameButStart.trans {s t u : State} (h : SameButStart s t) (k : SameButStart t u) : SameButStart s u := by
  unfold SameButStart at h k ⊢
  rw [h] at k
  exact k

theorem SameButStart.ofObj {s t : State} (h : SameButObj s t) : SameButStart s t := by
  unfold SameButObj at h
  rw [h]
  rfl

/-- The device is ready: its mode, its beat, and the SVN of its image. -/
def readied (s : State) : State :=
  let t := s.modBoot fun b => { b with ready := true }
  raiseMinSvn ((t.wr 0x1000 0x08 0).wr 0x1000 0x0A t.beat)

theorem becomeReady_may {s : State} (h : s.mayBeReady = true) :
    becomeReady s = startImage (armWatchdog (memoryHold (startRegion (readied s)))) := by
  rw [becomeReady, h, if_neg (by decide)]
  rfl

/-- The objects that a region in effect writes. -/
def regionObjects : List Nat := [0x1111, 0x1200, 0x3101, 0x3102, 0x3202]

theorem rd_setRegion {i u : Nat} (hi : i < 65536) (hu : u < 256) (h : i ∉ regionObjects) (corner extent : List Nat) (s : State) :
    (setRegion corner extent s).rd i u = s.rd i u := by
  have hkey {j w : Nat} (hj : j ∈ regionObjects) (hw : w < 256) : objKey i u 0 ≠ objKey j w 0 :=
    objKey_ne_of_index hu hw fun hij => h (hij ▸ hj)
  have hring (r : Nat) : objKey i u 0 ≠ objKey 0x1111 0x0D r := by
    have hne : i ≠ 0x1111 := fun hi => h (hi ▸ by decide)
    unfold objKey
    omega
  unfold setRegion
  extract_lets t v w x
  have hbox : w.rd i u = s.rd i u := by
    unfold w v
    rw [rd_wr_other _ _ _ _ (hkey (by decide) (by decide)), rd_wr_other _ _ _ _ (hkey (by decide) (by decide)),
      rd_wr_other _ _ _ _ (hkey (by decide) (by decide)), rd_wr_other _ _ _ _ (hkey (by decide) (by decide))]
    rfl
  have hhead : x.rd i u = w.rd i u := rdI_ite (rd_wr_other _ _ _ _ (hkey (by decide) (by decide))) rfl
  rw [rd_syncPairs hring, ← hbox, ← hhead]
  unfold computeBounds
  dsimp only
  rw [rd_wr_other _ _ _ _ (hkey (by decide) (by decide)), rd_wr_other _ _ _ _ (hkey (by decide) (by decide)),
    rd_wr_other _ _ _ _ (hkey (by decide) (by decide)), rd_wr_other _ _ _ _ (hkey (by decide) (by decide)),
    rd_wr_other _ _ _ _ (hkey (by decide) (by decide))]

/-- The profile's box takes effect, or its refusal is logged (R506). -/
theorem sameButStart_startRegion (s : State) : SameButStart s (startRegion s) := by
  unfold startRegion
  extract_lets b
  split_ifs
  · rfl
  · exact SameButStart.trans (t := s.modFab (Fabric.withBox b.1 b.2)) rfl (.ofObj (regionSet_setRegion b.1 b.2 s).same)
  · obtain ⟨o, m, hlog⟩ := log_eq s (newRec s 10 0)
    rw [hlog]
    rfl

theorem rd_startRegion {i u : Nat} (hi : i < 65536) (hu : u < 256) (h : i ∉ 0x7000 :: regionObjects) (s : State) :
    (startRegion s).rd i u = s.rd i u := by
  obtain ⟨hlost, hregion⟩ := not_or.mp (List.mem_cons.not.mp h)
  unfold startRegion
  extract_lets b
  split_ifs
  · rfl
  · exact rd_setRegion hi hu hregion b.1 b.2 s
  · exact rd_log (objKey_ne_of_index hu (by decide) hlost) s _

/-- The hold of a device whose memory failed training (R507). -/
def heldByMemory (s : State) : State :=
  (({ s with faults := { s.faults with causes := [0], hmEntered := some s.beat } }).wr 0x7001 0x07 2).wr 0x1000 0x08 1

theorem memoryHold_failed {s : State} (h : s.boot.memOk = false) :
    memoryHold s = (heldByMemory s).log (newRec (heldByMemory s) 5 0) := by
  unfold memoryHold
  rw [h]
  rfl

theorem memoryHold_trained {s : State} (h : s.boot.memOk = true) : memoryHold s = s := if_pos h

theorem sameButStart_memoryHold (s : State) : SameButStart s (memoryHold s) := by
  cases h : s.boot.memOk with
  | true => rw [memoryHold_trained h]; rfl
  | false =>
    obtain ⟨o, m, hlog⟩ := log_eq (heldByMemory s) (newRec (heldByMemory s) 5 0)
    rw [memoryHold_failed h, hlog]
    rfl

/-- The mode is 1 and half-mast 2 under the hold. -/
theorem rd_memoryHold_mode (s : State) : (memoryHold s).rd 0x1000 0x08 = if s.boot.memOk then s.rd 0x1000 0x08 else 1 := by
  cases h : s.boot.memOk with
  | true => rw [memoryHold_trained h]; rfl
  | false =>
    rw [memoryHold_failed h, rd_log (by decide)]
    exact rd_wr_same ..

theorem rd_memoryHold_mast {s : State} (h : s.boot.memOk = false) : (memoryHold s).rd 0x7001 0x07 = 2 := by
  rw [memoryHold_failed h, rd_log (by decide), heldByMemory, rd_wr_other _ _ _ _ (by decide), rd_wr_same]

theorem rd_memoryHold_other {i u : Nat} (hmode : objKey i u 0 ≠ objKey 0x1000 0x08 0) (hmast : objKey i u 0 ≠ objKey 0x7001 0x07 0)
    (hlost : objKey i u 0 ≠ objKey 0x7000 0x02 0) (s : State) : (memoryHold s).rd i u = s.rd i u := by
  cases h : s.boot.memOk with
  | true => rw [memoryHold_trained h]
  | false =>
    rw [memoryHold_failed h, rd_log hlost, heldByMemory, rd_wr_other _ _ _ _ hmode, rd_wr_other _ _ _ _ hmast]
    rfl

theorem sameButStart_armWatchdog (s : State) : SameButStart s (armWatchdog s) := rfl

/-- The image after a reset is loaded again, or its record is dropped (R508). -/
theorem sameButStart_startImage (s : State) : SameButStart s (startImage s) := by
  unfold startImage
  split_ifs <;> rfl

theorem rd_startImage {i u : Nat} (hu : u < 256) (h : i ≠ 0x4000) (s : State) : (startImage s).rd i u = s.rd i u := by
  have hkey {w : Nat} (hw : w < 256) : objKey i u 0 ≠ objKey 0x4000 w 0 := objKey_ne_of_index hu hw h
  have hload : (beginLoad true s).rd i u = s.rd i u := by
    unfold beginLoad
    extract_lets t
    exact (rd_setLoadState_other (hkey (by decide)) (hkey (by decide)) 1 (t.wr 0x4000 0x13 0)).trans
      (rd_wr_other t _ _ _ (hkey (by decide)))
  unfold startImage
  split_ifs
  · rfl
  · exact hload
  · rfl

theorem sameButStart_becomeReady {s : State} (h : s.mayBeReady = true) : SameButStart (readied s) (becomeReady s) := by
  rw [becomeReady_may h]
  exact (((sameButStart_startRegion _).trans (sameButStart_memoryHold _)).trans (sameButStart_armWatchdog _)).trans
    (sameButStart_startImage _)

/-- Before the watchdog is armed, and by the image's reload, nothing writes its objects, nor the mode's but the hold. -/
theorem rd_becomeReady {s : State} (h : s.mayBeReady = true) {i u : Nat} (hu : u < 256) (hi : i ≠ 0x4000)
    (hwatchdog : objKey i u 0 ≠ objKey 0x1203 0x02 0) :
    (becomeReady s).rd i u = (memoryHold (startRegion (readied s))).rd i u := by
  rw [becomeReady_may h, rd_startImage hu hi]
  exact rd_wr_other _ _ _ _ hwatchdog

/-! ## KV settings (R236, R266) -/

/-- The row of the KV cache's mode (R266). -/
def kvModeRow : ObjRow := ⟨0x6000, 0x6000, 0x01, 0x01, .uint, 1, .rw, 0, 0, 1⟩

theorem objRow_kvMode : objRow 0x6000 0x01 = some kvModeRow := by decide +kernel

theorem writable_kvMode {b : Byte} (h : b.toNat ≤ 1) : Writable 0x6000 0x01 kvModeRow [b] where
  sub_ne := by decide
  row_eq := objRow_kvMode
  admits := rfl
  right := fun _ _ _ => by simp [rights]
  type := rfl
  range := by simp [rangeBad, kvModeRow, beNat_singleton, Nat.not_lt.mpr h]
  mailbox := rfl

theorem getD_map_halves (f : Nat → Nat) {h : Nat} (hh : h < 2) : ([0, 1].map f).getD h 0 = f h := by
  interval_cases h <;> rfl

/-- The pool of a half is the top of its HBM4 range. -/
theorem repool_base (s : State) {h : Nat} (hh : h < 2) : (repool s).pool.base.getD h 0 =
    0x100000 + hbmPages * h + (hbmPages - (repool s).pool.size.getD h 0) := by
  have hbase : (repool s).pool.base =
      [0, 1].map fun h => 0x100000 + hbmPages * h + (hbmPages - (repool s).pool.size.getD h 0) := rfl
  rw [hbase]
  exact getD_map_halves _ hh

@[simp] theorem respond_pool (r : DictReq) (status : Nat) (last : Bool) (value : Bytes) (s : State) :
    (respond r status last value s).pool = s.pool := by
  obtain ⟨o, x, h⟩ := respond_eq r status last value s
  rw [h]

/-- An accepted mode is stored, and the pool is computed anew. -/
theorem kvMode_accepted {r : DictReq} {b : Byte} {s : State} (h : ByOperator r s) (hfree : NotBusy r s 0x6000 0x01) (hb : b.toNat ≤ 1)
    (hall : s.allFree = true) (hload : s.loading = false) :
    dictWrite r 0x6000 0x01 [b] (kvConfigOk 0x01) (fun row c s => repool (storeWrite row 0x6000 0x01 c s)) s =
      respond r 0 false [] (repool (s.enqueueRequest.wrI 0x6000 0x01 (operatorCtx r s 0x6000 0x01 [b]).inst b.toNat)) := by
  have hvalue : (operatorCtx r s 0x6000 0x01 [b]).value = b.toNat := beNat_singleton b
  have hok : kvConfigOk 0x01 (operatorCtx r s 0x6000 0x01 [b]) s.enqueueRequest = true := by
    have hall' : s.enqueueRequest.allFree = true := hall
    have hload' : s.enqueueRequest.loading = false := hload
    simp [kvConfigOk, hall', hload', hvalue, hb]
  rw [dictWrite, dictWriteElse_accepted h hfree (writable_kvMode hb) hok, if_neg (by decide), storeWrite_uint_rw rfl rfl, hvalue]

/-! ## The obligation -/

/-- Settles O55: each reset is `ResetFrom`, each stage the equation of its command above, and READY is judged object by object through
its four operations. -/
theorem resetsAndStartUpRunInStages : Obligations.ResetsAndStartUpRunInStages := by
  refine ⟨?powerOn, ?warm, ?ignored, ?release, ?firmware, ?key, ?profile, ?d2d, ?memory, ?ready, ?kv⟩
  case powerOn =>
    intro s
    have h := powerOn_from s
    exact ⟨_, done_eq h.pending, rfl, rfl, h.boot, h.table, h.mem, h.resets, h.log, h.pending⟩
  case warm =>
    intro s hs3
    have h := beginReset_from 1 s
    rw [exec_warmReset, warmReset_running hs3]
    exact ⟨_, done_eq h.pending, beginReset_count .., h.cause, h.boot, h.table, h.mem, h.resets, h.log, h.pending⟩
  case ignored =>
    intro s hs3
    rw [exec_warmReset, warmReset_s3 hs3]
    exact done_eq rfl
  case release =>
    intro s x y z p hfirst hhold hs3
    rw [exec_startupRelease, startupRelease_held hfirst hhold hs3]
    generalize hu : (if s.boot.recovery then (released x y z p s).wr 0x1000 0x08 2 else released x y z p s) = u
    have hsame : SameButObj (released x y z p s) u := hu ▸ .ite ((SameButObj.refl _).wr ..) (.refl _)
    have hclock : u.rd 0x2000 0x03 = 600 :=
      hu ▸ rdI_ite ((rd_wr_other _ _ _ _ (by decide)).trans (rd_released_clock ..)) (rd_released_clock ..)
    have hpoint : u.rd 0x2000 0x05 = 7 :=
      hu ▸ rdI_ite ((rd_wr_other _ _ _ _ (by decide)).trans (rd_released_point ..)) (rd_released_point ..)
    have htime := startTime_same u
    refine ⟨startTime u, doneQuiet_eq ?_ ?_ ?_ ?_ ?_, ?_, ?_, ?_, ?_, ?_, (rd_startTime (by decide) (by decide) u).trans hclock,
      (rd_startTime (by decide) (by decide) u).trans hpoint, ?_, ?_, ?_⟩
    all_goals
      rw [htime.eq, hsame]
      rfl
  case firmware =>
    intro s hreleased hfirst hrecovery
    rw [exec_firmwareCheck]
    cases hok : firmwareOk s.flash.firmware s with
    | true =>
      obtain ⟨o, b, heq⟩ := firmwareCheck_passed hreleased hfirst hrecovery hok
      rw [heq]
      exact ⟨_, doneQuiet_eq rfl rfl rfl rfl rfl, fun _ => ⟨rfl, hrecovery, rfl⟩, fun hbad => absurd hbad (by decide), rfl, rfl⟩
    | false =>
      rw [firmwareCheck_failed hreleased hfirst hrecovery hok]
      exact ⟨_, doneQuiet_eq rfl rfl rfl rfl rfl, fun hbad => absurd hbad (by decide),
        fun _ => ⟨hfirst, rfl, (rd_wr_other _ _ _ _ (by decide)).trans (rd_wr_same (s.modBoot _) ..), rd_wr_same ..⟩, rfl, rfl⟩
  case key =>
    intro s puf hok hrecovery hfirst
    obtain ⟨o, m, heq⟩ := keyUnwrap_verified hok hrecovery hfirst puf
    rw [exec_keyUnwrap, heq]
    exact ⟨_, doneQuiet_eq rfl rfl rfl rfl rfl, rfl, rfl, rfl, rfl, rfl⟩
  case profile =>
    intro s hkey hok hfirst hnone
    rw [exec_profileApply, profileApply_empty hkey hok hfirst (noProfiles_of_empty hnone)]
    obtain ⟨o, f, hsettled⟩ := settleRingLengths_eq (defaultsApplied s)
    obtain ⟨o', m, hlogged⟩ := logHeld_eq (settleRingLengths (defaultsApplied s))
    have hrd {i u : Nat} (hi : i < 0x3100) (hu : u < 256) :
        (logHeld (settleRingLengths (defaultsApplied s))).rd i u = (defaultsApplied s).rd i u :=
      (rd_logHeld (objKey_ne_of_index hu (by decide) (by omega)) _).trans (rd_settleRingLengths hi hu _)
    refine ⟨_, done_eq ?_, rfl, (hrd (by decide) (by decide)).trans ?slot, (hrd (by decide) (by decide)).trans ?next,
      (hrd (by decide) (by decide)).trans (rd_wr_same ..), ?_, ?_, ?_, ?_⟩
    case slot => rw [defaultsApplied, rd_wr_other _ _ _ _ (by decide), rd_wr_other _ _ _ _ (by decide), rd_wr_same]
    case next => rw [defaultsApplied, rd_wr_other _ _ _ _ (by decide), rd_wr_same]
    all_goals
      rw [hlogged, hsettled]
      rfl
  case d2d =>
    intro s trained hprofile hfirst hdies
    rw [exec_d2dTraining, d2dTraining_first hprofile hfirst]
    have h := foldl_loseUntrained trained (List.range 8) (s.modPower fun p => { p with bypHold := 1, bypReleased := false })
    refine ⟨_, doneQuiet_eq ?_ ?_ ?_ ?_ ?_, rfl, ?_, fun d hd => ?lost, ?_, ?_⟩
    case lost =>
      have hmem : d ∈ List.range 8 := List.mem_range.mpr hd
      refine (h.lost d (hdies ▸ hd)).trans ?_
      rw [decide_eq_true hmem, Bool.true_and]
      rfl
    all_goals
      rw [h.same]
      rfl
  case memory =>
    intro s ok hprofile hfirst
    rw [exec_memoryTraining, memoryTraining_first hprofile hfirst]
    exact ⟨_, done_eq rfl, rfl, rfl, rfl, rfl, rfl, rfl⟩
  case ready =>
    intro s hmay
    have hsame := sameButStart_becomeReady hmay
    have hregion {i u : Nat} (hi : i < 65536) (hu : u < 256) (hoff : i ∉ 0x7000 :: regionObjects) :
        (startRegion (readied s)).rd i u = (readied s).rd i u := rd_startRegion hi hu hoff _
    have hboot : (startRegion (readied s)).boot = (readied s).boot := by rw [sameButStart_startRegion (readied s)]
    have hmode : (readied s).rd 0x1000 0x08 = 0 :=
      (rd_wr_other ((s.modBoot fun b => { b with ready := true }).wr 0x1000 0x08 0) _ _ _ (by decide)).trans (rd_wr_same ..)
    refine ⟨becomeReady s, done_eq ?_, ?_, ?beat, ?mode, fun hbad => ?mast, ?watchdog, ?_, ?_, ?_⟩
    case beat =>
      rw [rd_becomeReady hmay (by decide) (by decide) (by decide), rd_memoryHold_other (by decide) (by decide) (by decide),
        hregion (by decide) (by decide) (by decide)]
      exact rd_wr_same ..
    case mode =>
      rw [rd_becomeReady hmay (by decide) (by decide) (by decide), rd_memoryHold_mode, hregion (by decide) (by decide) (by decide),
        hmode, hboot]
      rfl
    case mast =>
      rw [rd_becomeReady hmay (by decide) (by decide) (by decide), rd_memoryHold_mast]
      rw [hboot]
      exact hbad
    case watchdog =>
      have hperiod : (memoryHold (startRegion (readied s))).rd 0x1203 0x01 = s.rd 0x1203 0x01 := by
        rw [rd_memoryHold_other (by decide) (by decide) (by decide), hregion (by decide) (by decide) (by decide)]
        exact (rd_wr_other ((s.modBoot _).wr 0x1000 0x08 0) _ _ _ (by decide)).trans (rd_wr_other (s.modBoot _) _ _ _ (by decide))
      have hbeat : (memoryHold (startRegion (readied s))).beat = s.beat := by
        rw [(sameButStart_startRegion (readied s)).trans (sameButStart_memoryHold _)]
        rfl
      rw [becomeReady_may hmay, rd_startImage (by decide) (by decide), armWatchdog, rd_wr_same, hbeat, hperiod]
    all_goals
      rw [hsame]
      rfl
  case kv =>
    intro r b s hop hfree hb hall hload
    rw [exec_kvConfigWrite_mode, kvMode_accepted hop hfree hb hall hload]
    have hinst : (operatorCtx r s 0x6000 0x01 [b]).inst = 0 := instOf_single (by decide) (by decide) (by decide) ..
    rw [hinst]
    refine ⟨_, doneQuiet_respond _ _ _ _ _ rfl rfl rfl rfl rfl, answers_respond .., ?mode, fun h hh => ?base, respond_table ..,
      respond_mem ..⟩
    case mode =>
      rw [rd_respond _ _ _ _ _ (by decide) (by decide) (by decide)]
      exact rd_wr_same s.enqueueRequest ..
    case base =>
      rw [respond_pool]
      exact repool_base _ hh

end Sys2Proof.Machine
end

section
/-! A WRITE that places an interface in a loopback, and the interfaces beside it (R515). -/

namespace Sys2Proof.Machine
open Sys2Proof

/-- A write of a loopback object sets the loopback and stores nothing else. -/
theorem effectOf_loopback {index : Nat} (h : isLoopback index = true) (row : ObjRow) (c : WriteCtx) (s : State) :
    effectOf index 0x01 row c s = setLoopback index c.value s := by
  have hwindow : ¬index ≤ 0x32FF := by
    obtain ⟨hleast, -⟩ := isLoopback_range h
    omega
  unfold effectOf
  split
  case h_22 => simp [isHostMailbox_loopback h, hwindow, h]
  all_goals exact absurd h (by decide)

/-- The loopback of an interface writes its own object and, where the interface is the port, the objects of the port. -/
theorem rd_setLoopback_other {index i u : Nat} (hu : u < 256) (hother : i ≠ index) (hport : index = 0x7F00 → i ≠ 0x1100)
    (v : Nat) (s : State) : (setLoopback index v s).rd i u = s.rd i u := by
  have hkey {w : Nat} (hw : w < 256) : objKey i u 0 ≠ objKey index w 0 := objKey_ne_of_index hu hw hother
  unfold setLoopback
  split_ifs with heth
  · subst heth
    have hdepth : (s.wr 0x7F00 0x01 v).rd i u = s.rd i u := rd_wr_other _ _ _ _ (hkey (by decide))
    unfold setEthLoopback
    extract_lets s1
    split_ifs
    · exact (rd_wr_other s1 _ _ _ (hkey (by decide))).trans hdepth
    · exact (rd_wr_other _ _ _ _ (objKey_ne_of_index hu (by decide) (hport rfl))).trans
        ((rd_wr_other s1 _ _ _ (hkey (by decide))).trans hdepth)
  · exact rd_wr_other _ _ _ _ (hkey (by decide))
  · exact rd_wr_other _ _ _ _ (hkey (by decide))

/-- A WRITE of a loopback object is answered OK with its interface in the loopback. -/
theorem AdmittedLoopback.write_next {r : DictReq} {index : Nat} {data : Bytes} {s : State} (h : AdmittedLoopback r index data s) :
    exec (.write r index 0x01 data) s = .next (respond r 0 false [] (setLoopback index (beNat data) s.enqueueRequest)) := by
  have hok : acceptOf index 0x01 (operatorCtx r s index 0x01 data) s.enqueueRequest = true := by
    rw [acceptOf_loopback h.loop]
    exact h.outOfService
  have hpending := congrArg State.pending (sameButObj_setLoopback index (beNat data) s.enqueueRequest)
  rw [exec_write, writeObject, if_neg (by simp [isHostMailbox_loopback h.loop]),
    dictWriteElse_accepted h.operator h.notBusy h.writable hok, needsWake_loopback h.loop, if_neg (by decide),
    effectOf_loopback h.loop]
  exact done_respond _ _ _ _ _ hpending

/-- Settles O59: the answer follows `setLoopback`, which writes objects alone, and of these the interface's own. -/
theorem aLoopbackChangesNoOtherInterface : Obligations.ALoopbackChangesNoOtherInterface := by
  intro r index data row s hloop hop hfree hrow hlen hmost hout
  cases (objRow_loopback hloop).symm.trans hrow
  have h : AdmittedLoopback r index data s := ⟨hloop, hop, hfree, hlen, hmost, hout⟩
  obtain ⟨hanswer, hdepth, htable, hmem⟩ := looped_respond hloop r (beNat data) s
  have hsame := sameButObj_setLoopback index (beNat data) s.enqueueRequest
  have hkept {i u : Nat} (hu : u < 256) (h1105 : i ≠ 0x1105) (h7800 : i ≠ 0x7800) (hother : i ≠ index)
      (hport : index = 0x7F00 → i ≠ 0x1100) :
      (respond r 0 false [] (setLoopback index (beNat data) s.enqueueRequest)).rd i u = s.rd i u :=
    (rd_respond _ _ _ _ _ (objKey_ne_of_index hu (by decide) h1105) (objKey_ne_of_index hu (by decide) h1105)
      (objKey_ne_of_index hu (by decide) h7800)).trans (rd_setLoopback_other hu hother hport _ _)
  have hframe : ∃ o x out, respond r 0 false [] (setLoopback index (beNat data) s.enqueueRequest) =
      { s.enqueueRequest with obj := o, sec := x, out := out } := by
    obtain ⟨o, x, hrespond⟩ := respond_eq r 0 false [] (setLoopback index (beNat data) s.enqueueRequest)
    rw [hrespond, hsame]
    exact ⟨o, x, _, rfl⟩
  refine ⟨_, h.write_next, hanswer, hdepth, ?others, ?port, ?links, ?fab, ?dies, ?arrays, ?dma, htable, hmem⟩
  case others =>
    intro j hj hne
    obtain ⟨hleast, -⟩ := isLoopback_range hj
    exact hkept (by decide) (by omega) (by omega) hne fun _ => by omega
  case port =>
    intro hne
    obtain ⟨hleast, -⟩ := isLoopback_range hloop
    exact congrArg (fun n => decide (n = 2)) (hkept (by decide) (by decide) (by decide) (by omega) fun heq => absurd heq hne)
  all_goals
    obtain ⟨o, x, out, heq⟩ := hframe
    rw [heq]
    rfl

end Sys2Proof.Machine
end

section
/-! The housekeeping round: its start, what its evaluation writes, and how it judges dies and levels (R95, R409 to R416). -/

namespace Sys2Proof.Machine
open Sys2Proof

theorem exec_housekeepingRound (s : State) : exec .housekeepingRound s = doneQuiet s (housekeepingRound s) := rfl

theorem exec_housekeepingEvaluation (h : HkRound) (s : State) :
    exec (.housekeepingEvaluation h) s = done s (housekeepingEvaluation h s) := rfl

/-- A round begins at a beat of its own (R409). -/
theorem housekeepingRound_due {s : State} (hreleased : s.boot.released = true) (hs3 : s.power.s3 = none)
    (hbeat : s.beat % 1953 = 0) : housekeepingRound s = s.modHk fun h => { h with start := some s.beat, seqInUse := s.sequenceNow } := by
  simp [housekeepingRound, hreleased, hs3, roundBeats, hbeat]

/-! ## Readings (R410, R412, R413) -/

/-- A reading is a function of the round's codes, its sequence, and the readings of the round before. -/
theorem readingOf_congr {s t : State} (hseq : t.hk.seqInUse = s.hk.seqInUse) (hprev : t.hk.prev = s.hk.prev)
    (hfault : t.hk.prevFault = s.hk.prevFault) (h : HkRound) (ch : Nat) : readingOf h t ch = readingOf h s ch := by
  have hchannel : t.channelOf = s.channelOf := by
    funext e
    rw [State.channelOf, State.channelOf, hseq]
  have hlatest : t.latestEntry ch = s.latestEntry ch := by rw [State.latestEntry, State.latestEntry, hchannel]
  have hfails : converterFails h t = converterFails h s := by
    funext conv
    rw [converterFails, converterFails, hchannel]
  have hconverter : converterFault h t = converterFault h s := by
    funext conv
    rw [converterFault, converterFault, hfails]
  rw [readingOf, readingOf, hlatest, hconverter, hprev, hfault]

theorem SameButObj.s3 {s t : State} (h : SameButObj s t) : t.power.s3 = s.power.s3 := by rw [h]

theorem SameButObj.count {s t : State} (h : SameButObj s t) : t.count = s.count := by rw [h]

theorem SameButObj.pending {s t : State} (h : SameButObj s t) : t.pending = s.pending := by rw [h]

theorem SameButObj.readingOf {s t : State} (hsame : SameButObj s t) (h : HkRound) (ch : Nat) :
    readingOf h t ch = readingOf h s ch := by
  refine readingOf_congr ?_ ?_ ?_ h ch <;> rw [hsame]

theorem SameButObj.maxJunction {s t : State} (hsame : SameButObj s t) (h : HkRound) : maxJunction h t = maxJunction h s := by
  unfold Machine.maxJunction
  simp only [hsame.readingOf]

/-! ## The result registers -/

/-- Registers written in turn hold their values, each a function of what the writes leave alone. -/
theorem rd_foldl_wr {f : State → Nat → Nat} {g : Nat → Nat} {s : State} (hf : ∀ t e, SameButObj s t → f t e = g e) (i n : Nat)
    (hn : n < 256) : ∀ e < n, ((List.range n).foldl (fun t e => t.wr i (e + 1) (f t e)) s).rd i (e + 1) = g e := by
  induction n with
  | zero => exact fun e he => absurd he (Nat.not_lt_zero e)
  | succ n ih =>
    intro e he
    rw [List.range_succ, List.foldl_append]
    rcases Nat.lt_succ_iff_lt_or_eq.mp he with hlt | rfl
    · exact (rd_wr_other _ _ _ _ (objKey_ne_of_sub (by omega) (by omega) (by omega))).trans (ih (by omega) e hlt)
    · exact (rd_wr_same ..).trans (hf _ e (.foldl (fun t _ => (SameButObj.refl t).wr ..) _ s))

theorem rd_foldl_wr_other {f : State → Nat → Nat} {i j u n : Nat} (hu : u < 256) (hn : n < 256) (h : j ≠ i) (s : State) :
    ((List.range n).foldl (fun t e => t.wr i (e + 1) (f t e)) s).rd j u = s.rd j u :=
  List.foldlRecOn (motive := fun t : State => t.rd j u = s.rd j u) _ _ rfl fun t ht e he =>
    (rd_wr_other t _ _ _ (objKey_ne_of_index hu (by have := List.mem_range.mp he; omega) h)).trans ht

/-- The state of an evaluation with every result register and temperature written, and a mismatch of the converters counted. -/
def resultsWritten (h : HkRound) (s : State) : State :=
  let s := (List.range 64).foldl (fun s e => s.wr 0x2100 (e + 1) (h.code e)) s
  let s := (List.range 28).foldl (fun s i => s.wr 0x2102 (i + 1) (intBits 32 (readingOf h s (33 + i)).1)) s
  if roundMismatch h then (s.flag 0x2103 0x05 3).bump 0x2103 0x08 1 else s

theorem resultsWritten_same (h : HkRound) (s : State) : SameButObj s (resultsWritten h s) := by
  have hcodes := SameButObj.foldl (fun t e => (SameButObj.refl t).wr 0x2100 (e + 1) (h.code e)) (List.range 64) s
  have htemps := hcodes.trans (.foldl (fun t i => (SameButObj.refl t).wr 0x2102 (i + 1) (intBits 32 (readingOf h t (33 + i)).1))
    (List.range 28) _)
  exact .ite ((htemps.wr 0x2103 0x05 _).bump ..) htemps

/-- A mismatch is counted in objects of its own. -/
theorem rd_countMismatch {i u : Nat} (hflag : objKey i u 0 ≠ objKey 0x2103 0x05 0) (hcount : objKey i u 0 ≠ objKey 0x2103 0x08 0)
    (p : Prop) [Decidable p] (s : State) : (if p then (s.flag 0x2103 0x05 3).bump 0x2103 0x08 1 else s).rd i u = s.rd i u := by
  split_ifs
  · exact (rd_bump_other _ _ _ _ hcount).trans (rd_flag_other _ _ _ _ hflag)
  · rfl

theorem rd_resultsWritten_code (h : HkRound) (s : State) {e : Nat} (he : e < 64) :
    (resultsWritten h s).rd 0x2100 (e + 1) = h.code e := by
  unfold resultsWritten
  rw [rd_countMismatch (objKey_ne_of_index (by omega) (by decide) (by decide)) (objKey_ne_of_index (by omega) (by decide) (by decide)),
    rd_foldl_wr_other (by omega) (by decide) (by decide)]
  exact rd_foldl_wr (g := h.code) (fun _ _ _ => rfl) 0x2100 64 (by decide) e he

theorem rd_resultsWritten_temp (h : HkRound) (s : State) {i : Nat} (hi : i < 28) :
    (resultsWritten h s).rd 0x2102 (i + 1) = intBits 32 (readingOf h s (33 + i)).1 := by
  have hcodes := SameButObj.foldl (fun t e => (SameButObj.refl t).wr 0x2100 (e + 1) (h.code e)) (List.range 64) s
  unfold resultsWritten
  rw [rd_countMismatch (objKey_ne_of_index (by omega) (by decide) (by decide)) (objKey_ne_of_index (by omega) (by decide) (by decide))]
  exact rd_foldl_wr (g := fun i => intBits 32 (readingOf h s (33 + i)).1)
    (fun t e ht => by rw [ht.readingOf, hcodes.readingOf]) 0x2102 28 (by decide) i hi

theorem rd_resultsWritten_count (h : HkRound) (s : State) : (resultsWritten h s).rd 0x2103 0x07 = s.rd 0x2103 0x07 := by
  unfold resultsWritten
  rw [rd_countMismatch (by decide) (by decide), rd_foldl_wr_other (by decide) (by decide) (by decide),
    rd_foldl_wr_other (by decide) (by decide) (by decide)]

/-! ## What the judgements leave alone -/

/-- Supplies, dies and memories judged: the readings stay what they are, and the results written stay in their objects. -/
structure KeepsRound (s t : State) : Prop where
  seqInUse : t.hk.seqInUse = s.hk.seqInUse
  prev : t.hk.prev = s.hk.prev
  prevFault : t.hk.prevFault = s.hk.prevFault
  s3 : t.power.s3 = s.power.s3
  count : t.count = s.count
  pending : t.pending = s.pending
  table : t.table = s.table
  mem : t.mem = s.mem
  results : ∀ {i u : Nat}, 0x2100 ≤ i → i ≤ 0x2103 → u < 256 → t.rd i u = s.rd i u

namespace KeepsRound
variable {s t u : State}

theorem refl (s : State) : KeepsRound s s := ⟨rfl, rfl, rfl, rfl, rfl, rfl, rfl, rfl, fun _ _ _ => rfl⟩

theorem trans (h : KeepsRound s t) (k : KeepsRound t u) : KeepsRound s u where
  seqInUse := k.seqInUse.trans h.seqInUse
  prev := k.prev.trans h.prev
  prevFault := k.prevFault.trans h.prevFault
  s3 := k.s3.trans h.s3
  count := k.count.trans h.count
  pending := k.pending.trans h.pending
  table := k.table.trans h.table
  mem := k.mem.trans h.mem
  results hleast hmost hu := (k.results hleast hmost hu).trans (h.results hleast hmost hu)

theorem foldl {α : Type} {f : State → α → State} (hf : ∀ t x, KeepsRound t (f t x)) (l : List α) (s : State) :
    KeepsRound s (l.foldl f s) :=
  List.foldlRecOn l f (motive := KeepsRound s) (refl s) fun t h x _ => h.trans (hf t x)

theorem ite {p : Prop} [Decidable p] (h : KeepsRound s t) (k : KeepsRound s u) : KeepsRound s (if p then t else u) := by
  split_ifs
  · exact h
  · exact k

/-- An object outside the results is written. -/
theorem wr (h : KeepsRound s t) {i w : Nat} (hi : i < 0x2100 ∨ 0x2103 < i) (hw : w < 256) (v : Nat) : KeepsRound s (t.wr i w v) :=
  h.trans ⟨rfl, rfl, rfl, rfl, rfl, rfl, rfl, rfl, fun hleast hmost hu =>
    rd_wr_other t _ _ _ (objKey_ne_of_index hu hw (by omega))⟩

/-- Bands due, and a hold of VPP, are other fields of the housekeeping record. -/
theorem modHk (h : KeepsRound s t) {f : Hk → Hk} (hseq : (f t.hk).seqInUse = t.hk.seqInUse) (hprev : (f t.hk).prev = t.hk.prev)
    (hfault : (f t.hk).prevFault = t.hk.prevFault) : KeepsRound s (t.modHk f) :=
  h.trans ⟨hseq, hprev, hfault, rfl, rfl, rfl, rfl, rfl, fun _ _ _ => rfl⟩

theorem modDie (h : KeepsRound s t) (d : Nat) (f : Die → Die) : KeepsRound s (t.modDie d f) :=
  h.trans ⟨rfl, rfl, rfl, rfl, rfl, rfl, rfl, rfl, fun _ _ _ => rfl⟩

theorem kappaNext (h : KeepsRound s t) (k : Option F32) : KeepsRound s { t with power := { t.power with kappaNext := k } } :=
  h.trans ⟨rfl, rfl, rfl, rfl, rfl, rfl, rfl, rfl, fun _ _ _ => rfl⟩

theorem readingOf (h : KeepsRound s t) (r : HkRound) (ch : Nat) : readingOf r t ch = readingOf r s ch :=
  readingOf_congr h.seqInUse h.prev h.prevFault r ch

end KeepsRound

/-! ## Supplies (R410, R438, R442) -/

theorem keepsRound_roundedFree (num den : Nat) (s : State) : KeepsRound s (roundedFree num den s).2 := by
  unfold roundedFree
  split_ifs
  · exact .refl s
  · exact ⟨rfl, rfl, rfl, rfl, rfl, rfl, rfl, rfl, fun _ _ _ => rfl⟩

theorem keepsRound_reportRail (h : HkRound) (s : State) {n : Nat} (hn : n < 256) : KeepsRound s (reportRail h s n) := by
  unfold reportRail
  extract_lets t
  have ht : KeepsRound s t := by
    unfold t
    split
    · exact (keepsRound_roundedFree ..).wr (by decide) hn _
    · exact .refl s
  split
  · exact ht.trans ((keepsRound_roundedFree ..).wr (by decide) hn _)
  · exact ht

theorem keepsRound_reportSupplies (h : HkRound) (s : State) : KeepsRound s (reportSupplies h s) := by
  unfold reportSupplies
  extract_lets s1 p s2 s3 k1 k2
  have h1 : KeepsRound s s1 := List.foldlRecOn (motive := KeepsRound s) _ _ (.refl s) fun t ht n hn => by
    obtain ⟨m, hm, rfl⟩ := List.mem_map.mp hn
    exact ht.trans (keepsRound_reportRail h t (by have := List.mem_range.mp hm; omega))
  have h2 : KeepsRound s s2 := h1.trans ((keepsRound_roundedFree ..).wr (by decide) (by decide) _)
  have h3 : KeepsRound s s3 := by
    unfold s3
    split
    · exact (h2.trans ((keepsRound_roundedFree ..).wr (by decide) (by decide) _)).modHk rfl rfl rfl
    · exact h2
  exact h3.kappaNext _

/-! ## Dies and memories (R95 to R97, R419) -/

theorem keepsRound_judgeDie (h : HkRound) (s : State) (d : Nat) : KeepsRound s (judgeDie h s d) := by
  unfold judgeDie
  exact .ite (((KeepsRound.refl s).modDie ..).modHk rfl rfl rfl)
    ((((KeepsRound.refl s).modDie ..).modHk rfl rfl rfl).wr (by decide) (by decide) _)

/-- A rejected reading holds its die in T4 (R97). -/
theorem judgeDie_rejected {h : HkRound} {s : State} {d : Nat} (hbad : (readingOf h s (33 + d)).2.2 = false) :
    sget 0 d (judgeDie h s d).hk.bandNext = 4 := by
  simp only [judgeDie, hbad]
  exact sget_sput_same ..

/-- The band of another die stays due. -/
theorem judgeDie_bandNext_other {d e : Nat} (hne : e ≠ d) (h : HkRound) (s : State) :
    sget 0 e (judgeDie h s d).hk.bandNext = sget 0 e s.hk.bandNext := by
  unfold judgeDie
  obtain ⟨v, fault, ok⟩ := readingOf h s (33 + d)
  cases ok
  · exact sget_sput_other _ hne _ _
  · exact sget_sput_other _ hne _ _

/-- Every die whose reading the round rejects is held in T4. -/
theorem foldl_judgeDie_rejected (h : HkRound) (s : State) (n : Nat) : ∀ d < n, (readingOf h s (33 + d)).2.2 = false →
    sget 0 d ((List.range n).foldl (judgeDie h) s).hk.bandNext = 4 := by
  induction n with
  | zero => exact fun d hd => absurd hd (Nat.not_lt_zero d)
  | succ n ih =>
    intro d hd hbad
    rw [List.range_succ, List.foldl_append]
    rcases Nat.lt_succ_iff_lt_or_eq.mp hd with hlt | rfl
    · exact (judgeDie_bandNext_other (by omega) ..).trans (ih d hlt hbad)
    · exact judgeDie_rejected (by rwa [(KeepsRound.foldl (keepsRound_judgeDie h) _ s).readingOf])

/-- A memory judged: the round is kept, and so are the bands of the dies. -/
theorem judgeMemory_keeps (m : Nat) (v : Int) (ok : Bool) (s : State) :
    KeepsRound s (judgeMemory m v ok s) ∧ (judgeMemory m v ok s).hk.bandNext = s.hk.bandNext := by
  unfold judgeMemory
  extract_lets cur b
  split_ifs
  · exact ⟨(KeepsRound.refl s).modHk rfl rfl rfl, rfl⟩
  · exact ⟨(KeepsRound.refl s).modHk rfl rfl rfl, rfl⟩

theorem judgeMemories_keeps (h : HkRound) (s : State) :
    KeepsRound s (judgeMemories h s) ∧ (judgeMemories h s).hk.bandNext = s.hk.bandNext := by
  have htrans {t u : State} (ht : KeepsRound s t ∧ t.hk.bandNext = s.hk.bandNext)
      (hu : KeepsRound t u ∧ u.hk.bandNext = t.hk.bandNext) : KeepsRound s u ∧ u.hk.bandNext = s.hk.bandNext :=
    ⟨ht.1.trans hu.1, hu.2.trans ht.2⟩
  unfold judgeMemories
  refine List.foldlRecOn (motive := fun t => KeepsRound s t ∧ t.hk.bandNext = s.hk.bandNext) _ _ ?_ fun t ht d _ => ?_
  · exact List.foldlRecOn (motive := fun t => KeepsRound s t ∧ t.hk.bandNext = s.hk.bandNext) _ _ ⟨.refl s, rfl⟩
      fun t ht m _ => htrans ht (judgeMemory_keeps ..)
  · split
    · exact htrans ht (judgeMemory_keeps ..)
    · exact ht

/-! ## Levels (R414 to R416) -/

/-- T_max written and counted, and the levels that it enters short of a shutdown. -/
def levelsEntered (v : Int) (s : State) : State :=
  let s := ((s.wr 0x2103 0x01 (intBits 32 v)).bump 0x2103 0x07 1).modHk fun k => { k with tmax := some v }
  let s := if 9500 ≤ v then enterLevel 0 s else s
  if 10200 ≤ v then enterLevel 1 s else s

theorem judgeLevels_eq (v : Int) (s : State) : judgeLevels v s =
    if 11500 ≤ v then shutdown 8 (shutdownRec (levelsEntered v s)) (levelsEntered v s) else levelsEntered v s := rfl

/-- A level entered is found in objects and, for throttle, in the beat from which it acts. -/
theorem enterLevel_eq (bit : Nat) (s : State) :
    ∃ o b, enterLevel bit s = { s with obj := o, power := { s.power with throttleFrom := b } } := by
  unfold enterLevel
  split_ifs
  · exact ⟨_, _, rfl⟩
  · exact ⟨_, _, rfl⟩
  · exact ⟨_, s.power.throttleFrom, rfl⟩

theorem rd_enterLevel_other {i u : Nat} (hflag : objKey i u 0 ≠ objKey 0x2103 0x05 0) (hlevel : objKey i u 0 ≠ objKey 0x2103 0x06 0)
    (bit : Nat) (s : State) : (enterLevel bit s).rd i u = s.rd i u := by
  have hkept : ((s.flag 0x2103 0x05 bit).flag 0x2103 0x06 bit).rd i u = s.rd i u :=
    (rd_flag_other _ _ _ _ hlevel).trans (rd_flag_other _ _ _ _ hflag)
  unfold enterLevel
  split_ifs
  · rfl
  · exact hkept
  · exact hkept

/-- A level entered is in effect. -/
theorem bitOf_enterLevel (bit : Nat) (s : State) : bitOf ((enterLevel bit s).rd 0x2103 0x06) bit = true := by
  have hset : bitOf (((s.flag 0x2103 0x05 bit).flag 0x2103 0x06 bit).rd 0x2103 0x06) bit = true := by
    simp [bitOf_setBit]
  unfold enterLevel
  split_ifs with hin
  · exact hin
  · exact hset
  · exact hset

theorem levelsEntered_eq (v : Int) (s : State) : ∃ o b, levelsEntered v s =
    { s with obj := o, power := { s.power with throttleFrom := b }, hk := { s.hk with tmax := some v } } := by
  have hstep {t : State} (bit : Nat) (p : Prop) [Decidable p]
      (ht : ∃ o b, t = { s with obj := o, power := { s.power with throttleFrom := b }, hk := { s.hk with tmax := some v } }) :
      ∃ o b, (if p then enterLevel bit t else t) =
        { s with obj := o, power := { s.power with throttleFrom := b }, hk := { s.hk with tmax := some v } } := by
    split_ifs
    · obtain ⟨o, b, rfl⟩ := ht
      obtain ⟨o', b', h⟩ := enterLevel_eq bit
        { s with obj := o, power := { s.power with throttleFrom := b }, hk := { s.hk with tmax := some v } }
      exact ⟨o', b', h⟩
    · exact ht
  exact hstep 1 _ (hstep 0 _ ⟨_, s.power.throttleFrom, rfl⟩)

/-- The levels write T_max, the count of rounds, and the objects of the levels. -/
theorem rd_levelsEntered {i u : Nat} (hflag : objKey i u 0 ≠ objKey 0x2103 0x05 0) (hlevel : objKey i u 0 ≠ objKey 0x2103 0x06 0)
    (v : Int) (s : State) : (levelsEntered v s).rd i u = ((s.wr 0x2103 0x01 (intBits 32 v)).bump 0x2103 0x07 1).rd i u := by
  have hstep (t : State) (bit : Nat) (p : Prop) [Decidable p] : (if p then enterLevel bit t else t).rd i u = t.rd i u := by
    split_ifs
    · exact rd_enterLevel_other hflag hlevel bit t
    · rfl
  exact (hstep _ 1 _).trans (hstep _ 0 _)

theorem rd_levelsEntered_other {i u : Nat} (hu : u < 256) (hi : i ≠ 0x2103) (v : Int) (s : State) :
    (levelsEntered v s).rd i u = s.rd i u := by
  have hkey {w : Nat} (hw : w < 256) : objKey i u 0 ≠ objKey 0x2103 w 0 := objKey_ne_of_index hu hw hi
  exact (rd_levelsEntered (hkey (by decide)) (hkey (by decide)) v s).trans
    ((rd_bump_other _ _ _ _ (hkey (by decide))).trans (rd_wr_other _ _ _ _ (hkey (by decide))))

theorem rd_levelsEntered_tmax (v : Int) (s : State) : (levelsEntered v s).rd 0x2103 0x01 = intBits 32 v :=
  (rd_levelsEntered (by decide) (by decide) v s).trans ((rd_bump_other _ _ _ _ (by decide)).trans (rd_wr_same ..))

theorem rd_levelsEntered_count (v : Int) (s : State) :
    (levelsEntered v s).rd 0x2103 0x07 = (s.rd 0x2103 0x07 + 1) % objModulus 0x2103 0x07 := by
  rw [rd_levelsEntered (by decide) (by decide), rd_bump_same, rd_wr_other s _ _ _ (by decide)]

/-- Throttle is entered at 102.00 °C (R414). -/
theorem levelsEntered_throttle {v : Int} (hv : 10200 ≤ v) (s : State) : bitOf ((levelsEntered v s).rd 0x2103 0x06) 1 = true := by
  unfold levelsEntered
  rw [if_pos hv]
  exact bitOf_enterLevel ..

/-! ## The evaluation (R409 to R414) -/

/-- What an evaluation has judged before the levels: supplies, dies and memories, with the readings kept for the next round. -/
def roundJudged (h : HkRound) (old s : State) : State :=
  keepReadings h old (judgeMemories h ((List.range 8).foldl (judgeDie h) (reportSupplies h s)))

theorem housekeepingEvaluation_due {s : State} {b : Nat} (hstart : s.hk.start = some b) (hdue : b + 1947 ≤ s.beat)
    (hs3 : s.power.s3 = none) (h : HkRound) : ∃ u, SameButObj s u ∧ u.rd 0x2103 0x07 = s.rd 0x2103 0x07 ∧
      housekeepingEvaluation h s = judgeLevels (maxJunction h u) (roundJudged h u (resultsWritten h u)) := by
  refine ⟨s.late (b + evalBeat), .late .., rd_late (by decide) .., ?_⟩
  have hrun : ¬(s.beat < b + evalBeat || s.power.s3.isSome) = true := by
    simp [hs3, evalBeat, Nat.not_lt.mpr hdue]
  rw [housekeepingEvaluation, hstart]
  exact if_neg hrun

/-- The judgement leaves the results that were written, and no band of a rejected die is due but T4. -/
theorem roundJudged_keeps (h : HkRound) (old s : State) :
    KeepsRound s (judgeMemories h ((List.range 8).foldl (judgeDie h) (reportSupplies h s))) ∧
    ∀ d < 8, (readingOf h s (33 + d)).2.2 = false → sget 0 d (roundJudged h old s).hk.bandNext = 4 := by
  have hsupplies := keepsRound_reportSupplies h s
  have hdies := KeepsRound.foldl (keepsRound_judgeDie h) (List.range 8) (reportSupplies h s)
  obtain ⟨hmemories, hbands⟩ := judgeMemories_keeps h ((List.range 8).foldl (judgeDie h) (reportSupplies h s))
  refine ⟨hsupplies.trans (hdies.trans hmemories), fun d hd hbad => ?_⟩
  rw [← hsupplies.readingOf] at hbad
  exact (congrArg (sget 0 d) hbands).trans (foldl_judgeDie_rejected h _ 8 d hd hbad)

/-- The evaluation of a round that ran on s and stands in u before a shutdown: results, T_max, the count and the bands. -/
structure Evaluated (h : HkRound) (s u : State) : Prop where
  codes : ∀ e, e < 64 → u.rd 0x2100 (e + 1) = h.code e
  temps : ∀ i, i < 28 → u.rd 0x2102 (i + 1) = intBits 32 (readingOf h s (33 + i)).1
  tmax : u.rd 0x2103 0x01 = intBits 32 (maxJunction h s)
  rounds : Counted s u 0x2103 0x07 1
  bands : ∀ d, d < 8 → (readingOf h s (33 + d)).2.2 = false → sget 0 d u.hk.bandNext = 4
  throttle : 10200 ≤ maxJunction h s → bitOf (u.rd 0x2103 0x06) 1 = true
  start : u.hk.start = none
  s3 : u.power.s3 = s.power.s3
  count : u.count = s.count
  pending : u.pending = s.pending
  table : u.table = s.table
  mem : u.mem = s.mem

theorem housekeepingEvaluation_eq {s : State} {b : Nat} (hstart : s.hk.start = some b) (hdue : b + 1947 ≤ s.beat)
    (hs3 : s.power.s3 = none) (h : HkRound) : ∃ u, Evaluated h s u ∧
      housekeepingEvaluation h s = if 11500 ≤ maxJunction h s then shutdown 8 (shutdownRec u) u else u := by
  obtain ⟨l, hlate, hcount, heval⟩ := housekeepingEvaluation_due hstart hdue hs3 h
  have hwritten := hlate.trans (resultsWritten_same h l)
  obtain ⟨hkeeps, hbands⟩ := roundJudged_keeps h l (resultsWritten h l)
  rw [hlate.maxJunction, judgeLevels_eq] at heval
  refine ⟨_, ?_, heval⟩
  obtain ⟨o, p, hlevels⟩ := levelsEntered_eq (maxJunction h s) (roundJudged h l (resultsWritten h l))
  have hobjects {i u : Nat} (hu : u < 256) (hleast : 0x2100 ≤ i) (hmost : i ≤ 0x2103) :
      (roundJudged h l (resultsWritten h l)).rd i u = (resultsWritten h l).rd i u := hkeeps.results hleast hmost hu
  exact {
    codes := fun e he => by
      rw [rd_levelsEntered_other (by omega) (by decide), hobjects (by omega) (by decide) (by decide), rd_resultsWritten_code h l he]
    temps := fun i hi => by
      rw [rd_levelsEntered_other (by omega) (by decide), hobjects (by omega) (by decide) (by decide), rd_resultsWritten_temp h l hi,
        hlate.readingOf]
    tmax := rd_levelsEntered_tmax ..
    rounds := by
      rw [Counted, rd_levelsEntered_count, hobjects (by decide) (by decide) (by decide), rd_resultsWritten_count, hcount]
    bands := fun d hd hbad => by
      rw [hlevels]
      exact hbands d hd (by rwa [hwritten.readingOf])
    throttle := fun hv => levelsEntered_throttle hv _
    start := by
      rw [hlevels]
      rfl
    s3 := by
      rw [hlevels]
      exact hkeeps.s3.trans hwritten.s3
    count := by
      rw [hlevels]
      exact hkeeps.count.trans hwritten.count
    pending := by
      rw [hlevels]
      exact hkeeps.pending.trans hwritten.pending
    table := by
      rw [hlevels]
      exact hkeeps.table.trans hwritten.table
    mem := by
      rw [hlevels]
      exact hkeeps.mem.trans hwritten.mem }

/-- Settles O37: an evaluation writes its results, judges supplies, dies and memories on readings that stay what they are, and enters
the levels of T_max, of which the last is `shutdown`. -/
theorem housekeepingRoundsAreJudged : Obligations.HousekeepingRoundsAreJudged := by
  refine ⟨?round, ?below, ?shutdown⟩
  case round =>
    intro s hreleased hs3 hbeat
    rw [exec_housekeepingRound, housekeepingRound_due hreleased hs3 hbeat]
    exact doneQuiet_eq rfl rfl rfl rfl rfl
  case below =>
    intro s h b hstart hdue hs3 hbelow
    obtain ⟨u, hu, heq⟩ := housekeepingEvaluation_eq hstart hdue hs3 h
    rw [exec_housekeepingEvaluation, heq, if_neg (not_le.mpr hbelow)]
    exact ⟨u, done_eq hu.pending, hu.start, hu.codes, hu.temps, hu.tmax, hu.rounds, hu.bands, hu.throttle, hu.table, hu.mem⟩
  case shutdown =>
    intro s h b hstart hdue hs3 hmost
    obtain ⟨u, hu, heq⟩ := housekeepingEvaluation_eq hstart hdue hs3 h
    have hstops := shutdown_stops (hu.s3.trans hs3) 8 (shutdownRec u)
    have hbeat : u.beat = s.beat := congrArg (fun c : BitVec 64 => c.toNat / 1024) hu.count
    rw [exec_housekeepingEvaluation, heq, if_pos hmost]
    exact ⟨_, done_eq (hstops.pending.trans hu.pending), hbeat ▸ hstops.s3, hstops.shdn, hstops.count.trans hu.count⟩

end Sys2Proof.Machine
end

section
/-! Calibration windows: their start and end, the work of a FULL window, and the pattern read sets of a routine one (R420, R422, R425,
R426, R428). -/

namespace Sys2Proof.Machine
open Sys2Proof

/-! ## The meanings of the commands -/

section Meanings
variable (s : State)

theorem exec_calibrationWindowStart : exec .calibrationWindowStart s = doneQuiet s (calibrationWindowStart s) := rfl
theorem exec_calibrationWindowEnd : exec .calibrationWindowEnd s = doneQuiet s (calibrationWindowEnd s) := rfl
theorem exec_adcTrim (a adc range : Nat) (offset gain : Int) :
    exec (.adcTrim a adc range offset gain) s = doneQuiet s (adcTrim a adc range offset gain s) := rfl
theorem exec_columnOffsetMeasure (a : Nat) (sums : List Int) :
    exec (.columnOffsetMeasure a sums) s = doneQuiet s (columnOffsetMeasure a sums s) := rfl
theorem exec_calibrationVectorReads (a : Nat) :
    exec (.calibrationVectorReads a) s = doneQuiet s (calibrationVectorReads a s) := rfl
theorem exec_trimDecision : exec .trimDecision s = doneQuiet s (trimDecision s) := rfl
theorem exec_patternReadSet : exec .patternReadSet s = doneQuiet s (patternReadSet s) := rfl

end Meanings

/-- A read under the settings of R425 draws free values, and nothing else of the device moves. -/
theorem patternRead_draws (a fmt : Nat) (drive : List Int) (s : State) :
    ∃ d, (patternRead a fmt drive s).2 = { s with draws := d } := ⟨_, rfl⟩

/-! ## The work of a FULL window (R426, R428) -/

section Full
variable {s : State} {w : CalWin} (hfull : w.full = true) (htrimmed : s.cal.trimmed = false)
include hfull htrimmed

/-- A fit replaces the one kept for its ADC and range. -/
theorem adcTrim_kept {a adc range : Nat} (hw : s.inWindowAt 16 = some w) (hdie : dieOf a = w.die) (hadc : adc < 70)
    (hrange : range < 4) (offset gain : Int) : adcTrim a adc range offset gain s = s.modCal fun c => { c with
      adcFits := (c.adcFits.filter fun x => x.1 ≠ (a * 70 + adc) * 4 + range) ++ [((a * 70 + adc) * 4 + range, offset, gain)] } := by
  simp [adcTrim, hw, hfull, hdie, hadc, hrange, htrimmed]

/-- The sums of an array replace those kept for it. -/
theorem columnOffsetMeasure_kept {a : Nat} (hw : s.inWindowAt 144 = some w) (hdie : dieOf a = w.die) (sums : List Int) :
    columnOffsetMeasure a sums s = s.modCal fun c => { c with
      colOffsets := (c.colOffsets.filter fun x => x.1 / 560 ≠ a) ++ (List.range 560).map fun p => (a * 560 + p, sums.getD p 0) } := by
  simp [columnOffsetMeasure, hw, hfull, hdie, htrimmed]

theorem trimDecision_decided (hw : s.inWindowAt 1200 = some w) : trimDecision s =
    (s.modDie w.die fun x => { x with
      pendingTrims := (decideTrims s.cal).1, pendingFail := (decideTrims s.cal).2, trimsReady := false }).modCal fun c =>
        { c with trimmed := true } := by
  simp [trimDecision, hw, hfull, htrimmed]

/-- The vector reads of an array draw free values, and form γ of each weight column in use. -/
theorem calibrationVectorReads_formed {a : Nat} {pl : Place} (hw : s.inWindowAt 176 = some w)
    (hplace : (s.inServiceOn w.die).find? (fun x => x.1 = a) = some (a, pl)) (hfirst : ∀ y ∈ s.cal.colGains, y.1 / 560 ≠ a) :
    ∃ d gains, calibrationVectorReads a s =
        ({ s with draws := d }.modCal fun c => { c with colGains := c.colGains ++ gains }) ∧
      ∀ p l, p < 560 → logicalOf (s.arr a) p = some l → 512 * pl.cb + l < ((s.mat? pl.mat).getD default).n →
        ∃ g, (a * 560 + p, g) ∈ gains := by
  have hmeasured : s.cal.colGains.any (fun x => x.1 / 560 = a) = false := by simpa using fun b c d => hfirst (b, c, d)
  simp -zeta only [calibrationVectorReads, hw, hplace]
  extract_lets m rows r arr refs ref r2 u
  rw [if_neg (by simp [hfull, htrimmed, hmeasured])]
  have hread : ∃ d, r.2 = { s with draws := d } :=
    List.foldlRecOn (motive := fun acc : List (List Int × List Int) × State => ∃ d, acc.2 = { s with draws := d }) _ _
      ⟨s.draws, rfl⟩ fun acc hacc v _ => by
        obtain ⟨d, hd⟩ := hacc
        obtain ⟨d', hd'⟩ := patternRead_draws a m.fmt (calVector v rows) acc.2
        exact ⟨d', hd'.trans (by rw [hd])⟩
  obtain ⟨d, hd⟩ := hread
  have hu : u = { s with draws := d + 560 } := by
    unfold u r2
    rw [hd]
  rw [hu]
  refine ⟨d + 560, _, rfl, fun p l hp hl hn => ?_⟩
  apply Exists.intro
  refine List.mem_filterMap.mpr ⟨p, List.mem_range.mpr hp, ?_⟩
  simp only [arr, hl]
  exact if_neg (Nat.not_le.mpr hn)

end Full

/-! ## The pattern read sets of a routine window (R425) -/

/-- An array whose drift evidence alone has moved: Σx² of level 3 does not fall, and cells and drift gain stand. -/
structure DriftSeen (x y : Arr) : Prop where
  sxx3 : x.sxx3 ≤ y.sxx3
  cells : y.cells = x.cells
  gd : y.gd = x.gd

theorem DriftSeen.refl (x : Arr) : DriftSeen x x := ⟨le_rfl, rfl, rfl⟩

theorem DriftSeen.trans {x y z : Arr} (h : DriftSeen x y) (k : DriftSeen y z) : DriftSeen x z :=
  ⟨h.sxx3.trans k.sxx3, k.cells.trans h.cells, k.gd.trans h.gd⟩

/-- A result of a level 3 column, and of a level 1 column, in the evidence. -/
theorem driftSeen_level3 (x : Arr) (n r : Int) : DriftSeen x { x with sxy3 := x.sxy3 + n, sxx3 := x.sxx3 + r * r } :=
  ⟨le_add_of_nonneg_right (mul_self_nonneg r), rfl, rfl⟩

theorem driftSeen_level1 (x : Arr) (n r : Int) : DriftSeen x { x with sxy1 := x.sxy1 + n, sxx1 := x.sxx1 + r * r } :=
  ⟨le_rfl, rfl, rfl⟩

/-- The device t has read patterns on arrays of the list: it has drawn free values, and those arrays' drift evidence has moved. -/
structure PatternsRead (ids : List Nat) (s t : State) : Prop where
  same : ∃ d l, t = { s with draws := d, arrays := l }
  seen : ∀ b, DriftSeen (s.arr b) (t.arr b)
  others : ∀ b ∉ ids, t.arr b = s.arr b

namespace PatternsRead
variable {ids : List Nat} {s t u : State}

theorem refl (ids : List Nat) (s : State) : PatternsRead ids s s := ⟨⟨s.draws, s.arrays, rfl⟩, fun _ => .refl _, fun _ _ => rfl⟩

theorem trans (h : PatternsRead ids s t) (k : PatternsRead ids t u) : PatternsRead ids s u where
  same := by
    obtain ⟨d, l, rfl⟩ := h.same
    obtain ⟨d', l', rfl⟩ := k.same
    exact ⟨d', l', rfl⟩
  seen b := (h.seen b).trans (k.seen b)
  others b hb := (k.others b hb).trans (h.others b hb)

theorem foldl {α : Type} {f : State → α → State} {l : List α} (hf : ∀ t, ∀ x ∈ l, PatternsRead ids t (f t x)) (s : State) :
    PatternsRead ids s (l.foldl f s) :=
  List.foldlRecOn l f (motive := PatternsRead ids s) (refl ids s) fun t h x hx => h.trans (hf t x hx)

end PatternsRead

/-- A read enters the evidence of its array, where a square of the reference product is added (R101). -/
theorem patternsRead_accumulateDrift {ids : List Nat} {a : Nat} (ha : a ∈ ids) (gt : F32) (rprod : List Int) (o : ReadOut) (s : State) :
    PatternsRead ids s (accumulateDrift a gt rprod o s) := by
  unfold accumulateDrift
  split_ifs
  · exact .refl ids s
  · refine ⟨⟨s.draws, _, rfl⟩, fun b => ?_, fun b hb => arr_modArr_other _ _ _ fun heq => hb (heq ▸ ha)⟩
    by_cases hb : b = a
    · subst hb
      rw [arr_modArr_same]
      refine List.foldlRecOn (motive := DriftSeen (s.arr b)) _ _ (.refl _) fun y hy q _ => hy.trans ?_
      split_ifs
      · exact driftSeen_level3 ..
      · exact driftSeen_level1 ..
    · rw [arr_modArr_other _ _ _ hb]
      exact .refl _

theorem patternsRead_patternSet {ids : List Nat} {a : Nat} (ha : a ∈ ids) (fmt rows : Nat) (s : State) :
    PatternsRead ids s (patternSet a fmt rows s) := by
  refine .foldl (fun t q _ => ?_) s
  have hread : PatternsRead ids t (patternRead a fmt (patternDrive q rows) t).2 :=
    ⟨(patternRead_draws ..).imp fun d hd => ⟨t.arrays, hd⟩, fun _ => .refl _, fun _ _ => rfl⟩
  exact hread.trans (patternsRead_accumulateDrift ha ..)

/-- Inside a routine window the arrays in service on its die are read, once. -/
theorem windowPatternSet_routine {s : State} {w : CalWin} (hcurrent : s.cal.current = some w) (htest : w.test = none)
    (hroutine : w.full = false) (hstart : w.start ≤ s.beat) (hfirst : s.cal.readBy = []) :
    ∃ t, PatternsRead ((s.inServiceOn w.die).map (·.1)) s t ∧
      windowPatternSet s = t.modCal fun c => { c with readBy := (s.inServiceOn w.die).map (·.1) } := by
  have hread (t : State) : ∀ x ∈ s.inServiceOn w.die, PatternsRead ((s.inServiceOn w.die).map (·.1)) t
      (patternSet x.1 (placeShape t.image x.2).1 (placeShape t.image x.2).2 t) := fun x hx =>
    patternsRead_patternSet (List.mem_map.mpr ⟨x, hx, rfl⟩) _ _ t
  refine ⟨_, .foldl hread s, ?_⟩
  simp [windowPatternSet, hcurrent, htest, hroutine, hfirst, Nat.not_lt.mpr hstart]

/-- With no load in CALIBRATING and no move, the window's read sets are all that are due. -/
theorem patternReadSet_window {s t : State} (h : windowPatternSet s = t) (hload : t.loadState ≠ 3) (hmoves : t.load.moves = []) :
    patternReadSet s = t := by
  have hcalibrated : calibrateLoad t = t := by simp [calibrateLoad, hload]
  rw [patternReadSet, h, hcalibrated, calibrateMoves, hmoves]
  rfl

/-! ## The start and the end of a window (R420, R422) -/

theorem calibrationWindowStart_next {s : State} {w : CalWin} (hnext : s.nextWindow = some w) (htest : w.test = none) :
    calibrationWindowStart s = startWindow w s := by
  simp [calibrationWindowStart, hnext, htest]

/-- At its end a window that answers no CAL_DIE is counted and reported, and what a FULL one decided is ready. -/
theorem calibrationWindowEnd_due {s : State} {w : CalWin} (hcurrent : s.cal.current = some w) (htest : w.test = none)
    (hanswer : w.answer = none) (hdie : w.die < 8) (hdue : w.start + w.beats ≤ s.beat) : ∃ u, SameButObj s u ∧
      u.rd 0x2200 0x03 = 0xFF ∧ Counted s u 0x2200 0x05 1 ∧ u.rd 0x2201 (w.die + 1) = s.beat ∧ calibrationWindowEnd s =
        (if w.full then u.modDie w.die fun d => { d with trimsReady := true } else u).modCal fun c => { c with current := none } := by
  have hkey {i u : Nat} (hu : u < 256) (hi : i ≠ 0x2201) : objKey i u 0 ≠ objKey 0x2201 (w.die + 1) 0 :=
    objKey_ne_of_index hu (by omega) hi
  let l := s.late (w.start + w.beats)
  let e := (l.wr 0x2200 0x03 0xFF).bump 0x2200 0x05 1
  have hout : e.rd 0x2200 0x03 = 0xFF := (rd_bump_other _ _ _ _ (by decide)).trans (rd_wr_same l ..)
  have hcount : Counted s e 0x2200 0x05 1 := by
    rw [Counted, rd_bump_same, rd_wr_other l _ _ _ (by decide), rd_late (by decide)]
  refine ⟨e.wr 0x2201 (w.die + 1) s.beat, ((((SameButObj.late ..).wr ..).bump ..).wr ..), ?_, ?_, rd_wr_same .., ?_⟩
  · exact (rd_wr_other e _ _ _ (hkey (by decide) (by decide))).trans hout
  · exact (rd_wr_other e _ _ _ (hkey (by decide) (by decide))).trans hcount
  · rw [calibrationWindowEnd, hcurrent]
    dsimp only
    rw [if_neg (by simp [htest, Nat.not_lt.mpr hdue]), answerWindow, hanswer, late_beat]

/-- Settles O39: a window starts by `startWindow` and ends in its counters; a FULL one keeps its fits, sums, γ and decision in the
calibration record, and the read sets of a routine one stay within `PatternsRead`. -/
theorem calibrationWindowsMeasureAndTrim : Obligations.CalibrationWindowsMeasureAndTrim := by
  refine ⟨?start, ?adc, ?offset, ?vectors, ?trim, ?patterns, ?ending⟩
  case start =>
    intro s w hnext htest
    rw [exec_calibrationWindowStart, calibrationWindowStart_next hnext htest]
    refine ⟨_, doneQuiet_eq rfl rfl rfl rfl rfl, rfl, rd_wr_same s .., fun hmem => ?_, rfl, rfl, rfl⟩
    have hne := (List.mem_filter.mp hmem).2
    simp at hne
  case adc =>
    intro s w a adc range offset gain hw hfull hdie hadc hrange htrimmed
    rw [exec_adcTrim, adcTrim_kept hfull htrimmed hw hdie hadc hrange]
    refine ⟨_, doneQuiet_eq rfl rfl rfl rfl rfl, List.mem_append_right _ List.mem_cons_self, fun y hy hkey => ?_, rfl, rfl⟩
    rcases List.mem_append.mp hy with hold | hnew
    · exact absurd hkey (by simpa using (List.mem_filter.mp hold).2)
    · rw [List.mem_singleton.mp hnew]
  case offset =>
    intro s w a sums hw hfull hdie htrimmed
    rw [exec_columnOffsetMeasure, columnOffsetMeasure_kept hfull htrimmed hw hdie]
    exact ⟨_, doneQuiet_eq rfl rfl rfl rfl rfl, fun p hp =>
      List.mem_append_right _ (List.mem_map.mpr ⟨p, List.mem_range.mpr hp, rfl⟩), rfl, rfl⟩
  case vectors =>
    intro s w a pl hw hfull htrimmed hplace hfirst
    obtain ⟨d, gains, heq, hgains⟩ := calibrationVectorReads_formed hfull htrimmed hw hplace hfirst
    rw [exec_calibrationVectorReads, heq]
    refine ⟨_, doneQuiet_eq rfl rfl rfl rfl rfl, fun p l hp hl hn => ?_, rfl, rfl⟩
    obtain ⟨g, hg⟩ := hgains p l hp hl hn
    exact ⟨g, List.mem_append_right _ hg⟩
  case trim =>
    intro s w hw hfull htrimmed hdie
    have hsame (f : Die → Die) : (s.modDie w.die f).die w.die = f (s.die w.die) := die_modDie_same hdie f
    rw [exec_trimDecision, trimDecision_decided hfull htrimmed hw]
    exact ⟨_, doneQuiet_eq rfl rfl rfl rfl rfl, rfl, congrArg Die.pendingTrims (hsame _), congrArg Die.pendingFail (hsame _),
      (congrArg Die.trims (hsame _)).trans rfl, rfl⟩
  case patterns =>
    intro s w hcurrent htest hroutine hstart hfirst hload hmoves
    obtain ⟨t, ht, hread⟩ := windowPatternSet_routine hcurrent htest hroutine hstart hfirst
    obtain ⟨d, l, hsame⟩ := ht.same
    have hset := patternReadSet_window hread (by rw [hsame]; exact hload) (by rw [hsame]; exact hmoves)
    rw [exec_patternReadSet, hset]
    refine ⟨_, doneQuiet_eq ?_ ?_ ?_ ?_ ?_, rfl, ?_, fun a => ⟨(ht.seen a).sxx3, (ht.seen a).cells, (ht.seen a).gd, ht.others a⟩⟩
    all_goals
      rw [hsame]
      rfl
  case ending =>
    intro s w hcurrent htest hanswer hdie hdue hlen
    obtain ⟨u, hsame, hout, hcount, hbeat, heq⟩ := calibrationWindowEnd_due hcurrent htest hanswer hdie hdue
    have hdies : u.dies = s.dies := by rw [hsame]
    have hrest : ∃ l, (if w.full then u.modDie w.die fun d => { d with trimsReady := true } else u) =
        { s with obj := u.obj, dies := l } := by
      rw [hsame]
      split_ifs
      · exact ⟨_, rfl⟩
      · exact ⟨s.dies, rfl⟩
    have hready : w.full = true →
        ((if w.full then u.modDie w.die fun d => { d with trimsReady := true } else u).die w.die).trimsReady = true := by
      intro hfull
      rw [if_pos hfull, die_modDie_same (by rw [hdies, hlen]; exact hdie)]
    obtain ⟨l, hl⟩ := hrest
    rw [exec_calibrationWindowEnd, heq]
    rw [hl] at hready ⊢
    exact ⟨_, doneQuiet_eq rfl rfl rfl rfl rfl, rfl, hout, hcount, hbeat, hready, rfl, rfl⟩

end Sys2Proof.Machine
end

section
/-! Masthead: its watchdog and restarts, the domains that a wake event powers, and the words of its mailboxes (R393, R396 to R402, R446,
R466). -/

namespace Sys2Proof.Machine
open Sys2Proof

/-! ## The meanings of the commands -/

section Meanings
variable (s : State)

theorem exec_watchdogDeadline : exec .watchdogDeadline s = done s (watchdogDeadline s) := rfl
theorem exec_mastheadRestartComplete : exec .mastheadRestartComplete s = doneQuiet s (mastheadRestartComplete s) := rfl
theorem exec_watchdogRenew : exec .watchdogRenew s = doneQuiet s (watchdogRenew s) := rfl
theorem exec_domainWake (d : Nat) : exec (.domainWake d) s = doneQuiet s (domainWake d s) := rfl
theorem exec_pennant (r : DictReq) (m : Nat) (w : Word) : exec (.pennant r m w) s = doneQuiet s (pennant r m w s) := rfl
theorem exec_mailboxTake (m : Nat) : exec (.mailboxTake m) s = doneQuiet s (mailboxTake m s) := rfl
theorem exec_echo (m : Nat) :
    exec (.echo m) s = doneQuiet s (actOn m 1 (fun w s => answerWord m 1 (wordArg w) s) s) := rfl
theorem exec_status (m : Nat) : exec (.status m) s =
    doneQuiet s (actOn m 2 (fun _ s => answerWord m 2 (s.rd 0x1000 0x08 * 0x100 + s.rd 0x4000 0x11) s) s) := rfl
theorem exec_logFlush (m : Nat) : exec (.logFlush m) s =
    doneQuiet s (actOn m 3 (fun _ s => if s.recsHeld.isEmpty then answerWord m 3 s.flash.log.length s else s) s) := rfl
theorem exec_calDie (m : Nat) : exec (.calDie m) s = doneQuiet s (calDie m s) := rfl
theorem exec_notice : exec .notice s = doneQuiet s (notice s) := rfl

end Meanings

/-! ## Restarts (R466) -/

section Restart
variable (detector : Nat) (s : State)

/-- Of the records in Masthead's SRAM the restart keeps none, and it adds its own. -/
theorem restartMasthead_recsHeld :
    ∃ r, (restartMasthead detector s).recsHeld = [r] ∧ r.kind = 7 ∧ r.detector = detector := by
  refine ⟨{ newRec (s.bump 0x7000 0x02 s.recsHeld.length) 7 detector with action := 6, unitClass := 10 }, ?_, rfl, rfl⟩
  have hkept : (s.masthead.jobs.filter fun j => match j with | .record _ => false | _ => true).filterMap
      (fun j => match j with | .record r => some r | _ => none) = [] := by
    refine List.filterMap_eq_nil_iff.mpr fun j hj => ?_
    cases j with
    | record r => exact absurd (List.mem_filter.mp hj).2 Bool.false_ne_true
    | _ => rfl
  refine List.filterMap_append.trans ?_
  exact congrArg (· ++ _) hkept

/-- They are counted as lost (R474). -/
theorem restartMasthead_counted : Counted s (restartMasthead detector s) 0x7000 0x02 s.recsHeld.length := rd_bump_same s ..

variable {s}

/-- A restart long after the one before asks for no reset. -/
theorem restartMasthead_first (h : ∀ b, s.masthead.lastRestart = some b → b + 1048576 ≤ s.beat) :
    (restartMasthead detector s).power = s.power := by
  cases hlast : s.masthead.lastRestart with
  | none =>
    simp only [restartMasthead, hlast]
    rfl
  | some b =>
    simp only [restartMasthead, hlast, Nat.not_lt.mpr (h b hlast)]
    rfl

/-- A second restart within 1,048,576 beats asks for the reset. -/
theorem restartMasthead_again {b : Nat} (hlast : s.masthead.lastRestart = some b) (h : s.beat < b + 1048576) :
    (restartMasthead detector s).power.resetDue = some 3 := by
  simp [restartMasthead, hlast, h]

end Restart

theorem watchdogDeadline_missed {s : State} (hready : s.boot.ready = true) (hon : s.masthead.on = true)
    (hdue : s.rd 0x1203 0x02 ≤ s.beat) : ∃ u, SameButObj s u ∧ u.rd 0x7000 0x02 = s.rd 0x7000 0x02 ∧ watchdogDeadline s =
      if (restartMasthead 15 u).power.resetDue = some 3 then beginReset 2 false (restartMasthead 15 u) else restartMasthead 15 u := by
  refine ⟨s.late (s.rd 0x1203 0x02), .late .., rd_late (by decide) .., ?_⟩
  simp [watchdogDeadline, hready, hon, Nat.not_lt.mpr hdue]

/-- A restarted Masthead runs under a deadline that starts then. -/
theorem mastheadRestartComplete_due {s : State} {e : Nat} (h : s.masthead.restartEnd = some e) : mastheadRestartComplete s =
    armWatchdog ((s.late e).modMast fun m => { m with on := true, restartEnd := none }) := by
  rw [mastheadRestartComplete, h]

/-- The deadline written is the timeout after the present beat. -/
theorem rd_armWatchdog {s u : State} (hcount : u.count = s.count) (htimeout : u.rd 0x1203 0x01 = s.rd 0x1203 0x01) :
    (armWatchdog u).rd 0x1203 0x02 = s.beat + s.rd 0x1203 0x01 := by
  rw [armWatchdog, rd_wr_same, htimeout, beat_congr hcount]

/-! ## Domains that wake (R396, R446) -/

theorem domainWake_asleep {s : State} {d b : Nat} (hwake : s.masthead.wakeAt = some b) (hdozes : dozes d = true)
    (hasleep : s.power.awake.contains d = false) : ∃ u, SameButObj s u ∧ u.rd 0x1203 0x01 = s.rd 0x1203 0x01 ∧ domainWake d s =
      let v := u.modPower fun x => { x with awake := x.awake ++ [d] }
      if d = 92 then armWatchdog (v.modMast fun m => { m with on := true }) else v := by
  refine ⟨s.late (b + 64), .late .., rd_late (by decide) .., ?_⟩
  rw [domainWake, hwake]
  dsimp only
  rw [if_neg (by simp only [hdozes, hasleep]; decide)]
  rfl

/-! ## Pennants (R396, R398) -/

theorem beNat_beBytes (n v : Nat) : beNat (beBytes n v) = v % 256 ^ n := by
  have hreverse (l : Bytes) : beNat l.reverse = leNat l := by
    rw [beNat, List.foldl_reverse]
    induction l with
    | nil => rfl
    | cons b l ih =>
      rw [List.foldr_cons, ih, leNat]
      omega
  rw [beBytes, hreverse, leNat_leBytes]

theorem length_beBytes (n v : Nat) : (beBytes n v).length = n := by
  have hle (v : Nat) : (leBytes n v).length = n := by
    induction n generalizing v with
    | zero => rfl
    | succ n ih => rw [leBytes, List.length_cons, ih]
  rw [beBytes, List.length_reverse, hle]

/-- A word is the value of its four bytes. -/
theorem beNat_word (w : Word) : beNat (beBytes 4 w.toNat) = w.toNat := by
  rw [beNat_beBytes]
  exact Nat.mod_eq_of_lt w.isLt

/-- The row of the words of the host's mailboxes (R396). -/
def hostWordRow : ObjRow := ⟨0x1810, 0x1817, 0x01, 0x01, .uint, 4, .rw, 0, 0, 4294967295⟩

section Pennant
variable {r : DictReq} {m : Nat} {s : State} (hop : ByOperator r s) (hm : m < 8) (w : Word)
include hop hm

/-- The operator may write each mailbox (R381). -/
theorem judgeAccess_hostWord (v : Nat) : judgeAccess s.enqueueRequest r (0x1810 + m) 0x01 v true = .inr (.operator, hostWordRow) := by
  have hrows : ∀ m < 8, objRow (0x1810 + m) 0x01 = some hostWordRow := by decide +kernel
  have habove {k : Nat} (hk : k < 0x1810) : ¬0x1810 + m ≤ k := by omega
  have hne {k : Nat} (hk : k < 0x1810) : 0x1810 + m ≠ k := by omega
  have hmost : 0x1810 + m ≤ 0x18FF := by omega
  rw [judgeAccess_enqueueRequest]
  exact judgeAccess_operator hop (by decide) (hrows m hm) rfl fun _ _ => by simp [rights, habove, hne, hmost]

/-- A word is turned away while Masthead is off or the mailbox is full, and stored otherwise (R378, R398). -/
theorem judgeWrite_hostWord : judgeWrite r (0x1810 + m) 0x01 false (beBytes 4 w.toNat) (fun _ _ => true)
      (fun _ c s => storeWord m c.value s) (fun _ s => s) s.enqueueRequest =
    if s.masthead.on = false then (6, [], raiseWake s.enqueueRequest)
    else if blockBusy s r (0x1810 + m) 0x01 (instOf s r.session (0x1810 + m) 0x01) = true ∨ s.rd (0x1810 + m) 0x02 = 1 then
      (5, [], s.enqueueRequest)
    else (0, [], raiseWake (storeWord m w.toNat s.enqueueRequest)) := by
  have hmailbox : isHostMailbox (0x1810 + m) 0x01 = true := by
    simp [isHostMailbox]
    omega
  have hwake : needsWake (0x1810 + m) 0x01 = true := by simp [needsWake, hmailbox]
  have htype : typeBad hostWordRow false (beBytes 4 w.toNat).length = false := by
    rw [length_beBytes]
    rfl
  have hrange : rangeBad hostWordRow (beBytes 4 w.toNat) = false := by
    have hword := w.isLt
    simp only [rangeBad, hostWordRow, beNat_word]
    simp
    omega
  have hon : s.enqueueRequest.masthead.on = s.masthead.on := rfl
  have hbusy (i : Nat) : blockBusy s.enqueueRequest r (0x1810 + m) 0x01 i = blockBusy s r (0x1810 + m) 0x01 i := rfl
  have hinst : instOf s.enqueueRequest r.session (0x1810 + m) 0x01 = instOf s r.session (0x1810 + m) 0x01 := rfl
  have hfull : s.enqueueRequest.rd (0x1810 + m) 2 = s.rd (0x1810 + m) 2 := rfl
  simp [judgeWrite, judgeAccess_hostWord hop hm, htype, hrange, hmailbox, hwake, hon, hbusy, hinst, hfull, beNat_word]

/-- A pennant is answered with the status of its judgement, which is counted. -/
theorem pennant_answered {status : Nat} {u : State} (h : judgeWrite r (0x1810 + m) 0x01 false (beBytes 4 w.toNat) (fun _ _ => true)
      (fun _ c s => storeWord m c.value s) (fun _ s => s) s.enqueueRequest = (status, [], u)) :
    pennant r m w s = respond r status false [] (countPennant status u) := by
  have hbelow : ¬8 ≤ m := Nat.not_le.mpr hm
  simp [pennant, dictServe_of_served hop.1, hbelow, mailboxWrite, h]

end Pennant

/-- The answer to a pennant, whose judgement wrote objects and woke Masthead at most: its outcome is counted under a subindex of
0x1800, and its mailbox holds what the judgement left. -/
structure PennantOutcome (r : DictReq) (status sub : Nat) (s u t : State) : Prop where
  answers : Answers r status [] t
  counted : Counted u t 0x1800 sub 1
  mailbox : ∀ {i v : Nat}, 0x1810 ≤ i → i ≤ 0x1817 → v < 256 → t.rd i v = u.rd i v
  table : t.table = s.table
  mem : t.mem = s.mem

theorem pennant_outcome {r : DictReq} {status sub : Nat} {s u : State} (hsub : sub < 256)
    (hcount : countPennant status u = u.bump 0x1800 sub 1)
    (hu : ∃ o x, u = { s.enqueueRequest with obj := o, masthead := x }) :
    ∃ t, doneQuiet s (respond r status false [] (countPennant status u)) = .next t ∧ PennantOutcome r status sub s u t := by
  have hkey {i j v w : Nat} (hv : v < 256) (hw : w < 256) (h : i ≠ j) : objKey i v 0 ≠ objKey j w 0 :=
    objKey_ne_of_index hv hw h
  have hrespond {i v : Nat} (hv : v < 256) (h1105 : i ≠ 0x1105) (h7800 : i ≠ 0x7800) :
      (respond r status false [] (u.bump 0x1800 sub 1)).rd i v = (u.bump 0x1800 sub 1).rd i v :=
    rd_respond _ _ _ _ _ (hkey hv (by decide) h1105) (hkey hv (by decide) h1105) (hkey hv (by decide) h7800)
  have hcounted : Counted u (respond r status false [] (u.bump 0x1800 sub 1)) 0x1800 sub 1 :=
    (hrespond hsub (by decide) (by decide)).trans (rd_bump_same ..)
  have hmailbox {i v : Nat} (hleast : 0x1810 ≤ i) (hmost : i ≤ 0x1817) (hv : v < 256) :
      (respond r status false [] (u.bump 0x1800 sub 1)).rd i v = u.rd i v :=
    (hrespond hv (by omega) (by omega)).trans (rd_bump_other _ _ _ _ (hkey hv hsub (by omega)))
  obtain ⟨o', hbump⟩ : ∃ o', u.bump 0x1800 sub 1 = { u with obj := o' } := bump_eq ..
  obtain ⟨o, x, hsame⟩ := hu
  have hmoved : u.bump 0x1800 sub 1 = { s.enqueueRequest with obj := o', masthead := x } := by rw [hbump, hsame]
  rw [hcount]
  rw [hmoved] at hcounted hmailbox ⊢
  exact ⟨_, doneQuiet_respond _ _ _ _ _ rfl rfl rfl rfl rfl, answers_respond .., hcounted, hmailbox, respond_table .., respond_mem ..⟩

/-! ## Words taken and answered (R397, R399 to R401) -/

theorem wordTag_lt (w : Nat) : wordTag w < 0x100 := Nat.mod_lt _ (by decide)

theorem wordCode_lt (w : Nat) : wordCode w < 0x100 := Nat.mod_lt _ (by decide)

theorem wordArg_lt (w : Nat) : wordArg w < 0x10000 := Nat.mod_lt _ (by decide)

/-- A word from Masthead stands in its mailbox, with FULL set. -/
theorem rd_writeWord {m code tag value : Nat} (hcode : code < 0x100) (hvalue : value < 0x10000) (s : State) :
    (writeWord m code tag value s).rd (0x1818 + m) 0x01 = code * 0x1000000 + tag % 0x100 * 0x10000 + value ∧
      bitOf ((writeWord m code tag value s).rd (0x1818 + m) 0x02) 0 = true := by
  unfold writeWord
  constructor
  · rw [rd_flag_other _ _ _ _ (objKey_ne_of_sub (by decide) (by decide) (by decide)), rd_wr_same, Nat.mod_eq_of_lt hcode,
      Nat.mod_eq_of_lt hvalue]
  · rw [rd_flag_same, bitOf_setBit]
    simp

/-- The host's mailboxes are other objects than Masthead's. -/
theorem rd_writeWord_host {i u : Nat} (hu : u < 256) {m : Nat} (hi : i < 0x1818) (code tag value : Nat) (s : State) :
    (writeWord m code tag value s).rd i u = s.rd i u :=
  (rd_flag_other _ _ _ _ (objKey_ne_of_index hu (by decide) (by omega))).trans
    (rd_wr_other _ _ _ _ (objKey_ne_of_index hu (by decide) (by omega)))

/-- It is found in objects alone. -/
theorem writeWord_same (m code tag value : Nat) (s : State) : SameButObj s (writeWord m code tag value s) :=
  ((SameButObj.refl s).wr ..).wr ..

theorem rd_modMast (s : State) (f : Masthead → Masthead) (i u : Nat) : (s.modMast f).rd i u = s.rd i u := rfl

/-- The word that waited is answered, and waits no longer. -/
theorem answerWord_taken {m w : Nat} {s : State} (h : s.takenWord m = some w) (code value : Nat) : answerWord m code value s =
    (writeWord m code (wordTag w) value s).modMast fun x => { x with taken := x.taken.filter fun t => t.1 ≠ m } := by
  rw [answerWord, h]

theorem answeredWord_answerWord {m w : Nat} {s : State} (h : s.takenWord m = some w) {code value : Nat} (hcode : code < 0x100)
    (hvalue : value < 0x10000) : AnsweredWord m w code value (answerWord m code value s) := by
  obtain ⟨hword, hfull⟩ := rd_writeWord (m := m) (tag := wordTag w) hcode hvalue s
  obtain ⟨o, ho⟩ : ∃ o, writeWord m code (wordTag w) value s = { s with obj := o } := ⟨_, writeWord_same ..⟩
  rw [Nat.mod_eq_of_lt (wordTag_lt w)] at hword
  rw [answerWord_taken h]
  rw [ho] at hword hfull ⊢
  refine ⟨hword, hfull, ?_⟩
  have hnone : (s.masthead.taken.filter fun t => t.1 ≠ m).find? (fun t => t.1 = m) = none := by
    refine List.find?_eq_none.mpr fun t ht => ?_
    simpa using (List.mem_filter.mp ht).2
  exact congrArg (Option.map fun t => t.2.toNat) hnone

/-- An answer is found in objects and in Masthead's record. -/
theorem answerWord_eq (m code value : Nat) (s : State) : ∃ o x, answerWord m code value s = { s with obj := o, masthead := x } := by
  unfold answerWord
  split
  · exact ⟨s.obj, s.masthead, rfl⟩
  · rw [writeWord_same]
    exact ⟨_, _, rfl⟩

/-- Masthead acts on a word that it may carry out. -/
theorem actOn_taken {m w code : Nat} {s : State} (h : ActsOn s m w code) (act : Nat → State → State) :
    actOn m code act s = act w s := by
  obtain ⟨hon, htaken, hcode, hok⟩ := h
  simp [actOn, htaken, hon, hcode, hok]

/-- An answer to a word of a code is the whole effect of acting on it. -/
theorem answers_word {m w code value : Nat} {s : State} (h : ActsOn s m w code) (hvalue : value < 0x10000) :
    ∃ t, doneQuiet s (answerWord m code value s) = .next t ∧ AnsweredWord m w code value t ∧ t.table = s.table ∧ t.mem = s.mem := by
  obtain ⟨-, htaken, hcode, -⟩ := h
  have hanswered := answeredWord_answerWord htaken (hcode ▸ wordCode_lt w) hvalue
  obtain ⟨o, x, heq⟩ := answerWord_eq m code value s
  rw [heq] at hanswered ⊢
  exact ⟨_, doneQuiet_eq rfl rfl rfl rfl rfl, hanswered, rfl, rfl⟩

/-- The mailbox with its word taken and FULL clear. -/
def wordTaken (m : Nat) (s : State) : State :=
  (s.wr (0x1810 + m) 0x02 0).modMast fun x => { x with taken := x.taken ++ [(m, BitVec.ofNat 32 (s.rd (0x1810 + m) 0x01))] }

theorem takenWord_wordTaken {m : Nat} {s : State} (hnone : s.takenWord m = none) (hword : s.rd (0x1810 + m) 0x01 < 2 ^ 32) :
    (wordTaken m s).takenWord m = some (s.rd (0x1810 + m) 0x01) := by
  have hfind : s.masthead.taken.find? (fun t => t.1 = m) = none := Option.map_eq_none_iff.mp hnone
  have hlt : s.rd (0x1810 + m) 0x01 < 4294967296 := by omega
  simp [State.takenWord, wordTaken, State.modMast, hfind, hlt]

theorem mailboxTake_due {m : Nat} {s : State} (hm : m < 8) (hon : s.masthead.on = true) (hfull : s.rd (0x1810 + m) 0x02 = 1)
    (hnone : s.takenWord m = none) (hread : bitOf (s.rd (0x1818 + m) 0x02) 0 = false) : mailboxTake m s =
      if wordOk (s.rd (0x1810 + m) 0x01) = false then answerWord m 0x7F (wordCode (s.rd (0x1810 + m) 0x01)) (wordTaken m s)
      else wordTaken m s := by
  have hgo : ¬(8 ≤ m || !s.masthead.on || s.rd (0x1810 + m) 0x02 = 0 || (s.takenWord m).isSome ||
      bitOf (s.rd (0x1818 + m) 0x02) 0) = true := by
    simp [Nat.not_le.mpr hm, hon, hfull, hnone, hread]
  rw [mailboxTake, if_neg hgo]
  simp only [Bool.not_eq_true']
  rfl

/-- A window of a die for which none waits joins those that wait (R422). -/
theorem addWindow_apart {w : CalWin} {l : List CalWin} (h : ∀ x ∈ l, x.die ≠ w.die) : addWindow w l = l ++ [w] := by
  refine if_neg fun hany => ?_
  obtain ⟨x, hx, hmerges⟩ := List.any_eq_true.mp hany
  simp [h x hx] at hmerges

theorem calDie_requested {m w : Nat} {s : State} (h : ActsOn s m w 4) (hfirst : s.windowFor m = false)
    (halive : (s.die (wordArg w)).lost = false) (hnone : ∀ x ∈ s.cal.waiting, x.die ≠ wordArg w) : calDie m s =
      s.modCal fun c => { c with
        waiting := s.cal.waiting ++ [⟨wordArg w, true, s.nextBoundary s.beat, false, some m, none, 0⟩] } := by
  rw [calDie, actOn_taken h]
  obtain ⟨-, -, hcode, -⟩ := h
  simp only [hfirst, requestWindow, hcode, halive, Bool.false_eq_true, ne_eq, not_true_eq_false, decide_false, Bool.or_self, if_false]
  rw [State.modCal, addWindow_apart hnone]
  rfl

theorem notice_given {s : State} {code value count : Nat} {rest : List (Nat × Nat × Nat)}
    (hnotices : s.masthead.notices = (code, value, count) :: rest) (hon : s.masthead.on = true)
    (hread : bitOf (s.rd 0x181F 0x02) 0 = false) (hempty : s.rd 0x1817 0x02 ≠ 1) (hnone : s.takenWord 7 = none) :
    notice s = writeWord 7 code count value (s.modMast fun m => { m with notices := rest }) := by
  simp [notice, hnotices, hon, hread, hempty, hnone]

/-- Settles O53: a missed deadline is `restartMasthead`, twice lately `beginReset`; a pennant is judged by R378, and an answer is
`answerWord` or a notice. -/
theorem mastheadIsWatchedAndAnswers : Obligations.MastheadIsWatchedAndAnswers := by
  refine ⟨?first, ?again, ?complete, ?renew, ?wake, ?stored, ?full, ?off, ?take, ?echo, ?status, ?logFlush, ?calDie, ?notice⟩
  case first =>
    intro s hready hon hdue hnone hlast
    obtain ⟨u, hsame, hcounter, heq⟩ := watchdogDeadline_missed hready hon hdue
    have hpower : (restartMasthead 15 u).power = s.power := by
      rw [restartMasthead_first 15 (by rw [hsame]; exact hlast), hsame]
    obtain ⟨r, hrecs, hkind, hdetector⟩ := restartMasthead_recsHeld 15 u
    have hcounted := restartMasthead_counted 15 u
    have hheld : u.recsHeld = s.recsHeld := by rw [hsame]; rfl
    rw [Counted, hcounter, hheld] at hcounted
    rw [exec_watchdogDeadline, heq, if_neg (by rw [hpower]; exact hnone)]
    refine ⟨_, r, done_eq hsame.pending, rfl, ?_, rfl, rfl, hrecs, hkind, hdetector, hcounted, hsame.table, hsame.mem⟩
    exact congrArg (fun n => some (n + 156250)) (beat_congr hsame.count)
  case again =>
    intro s b hready hon hdue hlast hlate
    obtain ⟨u, hsame, -, heq⟩ := watchdogDeadline_missed hready hon hdue
    have hreset : (restartMasthead 15 u).power.resetDue = some 3 :=
      restartMasthead_again 15 (b := b) (by rw [hsame]; exact hlast) (by rw [beat_congr hsame.count]; exact hlate)
    have hfrom := beginReset_from 2 (restartMasthead 15 u)
    have hflash : (restartMasthead 15 u).flash.resets = s.flash.resets := by rw [hsame]; rfl
    rw [exec_watchdogDeadline, heq, if_pos hreset]
    exact ⟨_, done_eq hsame.pending, hfrom.cause, congrArg Boot.ready hfrom.boot, hfrom.resets.trans (congrArg (· + 1) hflash),
      hsame.count, hsame.pending⟩
  case complete =>
    intro s e hend
    have hsame := SameButObj.late s e
    have hdeadline := rd_armWatchdog (s := s) (u := (s.late e).modMast fun m => { m with on := true, restartEnd := none }) hsame.count
      (rd_late (by decide) s e)
    obtain ⟨o, hlate⟩ := late_eq_obj s e
    rw [exec_mastheadRestartComplete, mastheadRestartComplete_due hend]
    rw [hlate] at hdeadline ⊢
    exact ⟨_, doneQuiet_eq rfl rfl rfl rfl rfl, rfl, rfl, hdeadline, rfl, rfl, rfl⟩
  case renew =>
    intro s hready hon
    have hrenew : watchdogRenew s = s.wr 0x1203 0x02 (s.beat + s.rd 0x1203 0x01) := by simp [watchdogRenew, hready, hon, armWatchdog]
    rw [exec_watchdogRenew, hrenew]
    exact doneQuiet_eq rfl rfl rfl rfl rfl
  case wake =>
    intro s d b hwake hdozes hasleep
    obtain ⟨u, hsame, htimeout, heq⟩ := domainWake_asleep hwake hdozes hasleep
    have hdeadline := rd_armWatchdog (s := s)
      (u := (u.modPower fun x => { x with awake := x.awake ++ [d] }).modMast fun m => { m with on := true }) hsame.count htimeout
    obtain ⟨o, rfl⟩ : ∃ o, u = { s with obj := o } := ⟨_, hsame⟩
    rw [exec_domainWake, heq]
    by_cases hmast : d = 92
    · simp only [if_pos hmast]
      exact ⟨_, doneQuiet_eq rfl rfl rfl rfl rfl, rfl, fun _ => ⟨rfl, hdeadline⟩, rfl, rfl⟩
    · simp only [if_neg hmast]
      exact ⟨_, doneQuiet_eq rfl rfl rfl rfl rfl, rfl, fun h => absurd h hmast, rfl, rfl⟩
  case stored =>
    intro r m w s hop hfree hm hon hempty
    have hjudged := judgeWrite_hostWord hop hm w
    rw [if_neg (by simp [hon]), if_neg (by rw [hfree, hempty]; decide)] at hjudged
    obtain ⟨x, hx⟩ := raiseWake_eq (storeWord m w.toNat s.enqueueRequest)
    obtain ⟨t, hnext, ht⟩ := pennant_outcome (r := r) (s := s) (status := 0) (sub := 0x02)
      (u := raiseWake (storeWord m w.toNat s.enqueueRequest)) (by decide) rfl (by rw [hx]; exact ⟨_, _, rfl⟩)
    have hwake (i v : Nat) : (raiseWake (storeWord m w.toNat s.enqueueRequest)).rd i v =
        (storeWord m w.toNat s.enqueueRequest).rd i v := rd_congr (by rw [hx]) i v
    have hsub : objKey (0x1810 + m) 0x01 0 ≠ objKey (0x1810 + m) 0x02 0 := objKey_ne_of_sub (by decide) (by decide) (by decide)
    have hcounter {v : Nat} (hv : v < 256) : objKey 0x1800 0x02 0 ≠ objKey (0x1810 + m) v 0 :=
      objKey_ne_of_index (by decide) hv (by omega)
    have hcounted := ht.counted
    rw [Counted, hwake, storeWord, rd_wr_other _ _ _ _ (hcounter (by decide)), rd_wr_other _ _ _ _ (hcounter (by decide))] at hcounted
    rw [exec_pennant, pennant_answered hop hm w hjudged]
    refine ⟨t, hnext, ht.answers, ?_, ?_, hcounted, ht.table, ht.mem⟩
    · rw [ht.mailbox (by omega) (by omega) (by decide), hwake, storeWord, rd_wr_other _ _ _ _ hsub, rd_wr_same]
    · rw [ht.mailbox (by omega) (by omega) (by decide), hwake, storeWord, rd_wr_same]
  case full =>
    intro r m w s hop hm hon hfull
    have hjudged := judgeWrite_hostWord hop hm w
    rw [if_neg (by simp [hon]), if_pos (.inr hfull)] at hjudged
    obtain ⟨t, hnext, ht⟩ := pennant_outcome (r := r) (s := s) (status := 5) (sub := 0x03) (u := s.enqueueRequest) (by decide) rfl
      ⟨_, _, rfl⟩
    rw [exec_pennant, pennant_answered hop hm w hjudged]
    exact ⟨t, hnext, ht.answers, ht.mailbox (by omega) (by omega) (by decide), ht.counted, ht.table, ht.mem⟩
  case off =>
    intro r m w s hop hm hoff
    have hjudged := judgeWrite_hostWord hop hm w
    rw [if_pos hoff] at hjudged
    obtain ⟨x, hx⟩ := raiseWake_eq s.enqueueRequest
    obtain ⟨t, hnext, ht⟩ := pennant_outcome (r := r) (s := s) (status := 6) (sub := 0x04) (u := raiseWake s.enqueueRequest) (by decide)
      rfl (by rw [hx]; exact ⟨_, _, rfl⟩)
    have hwake (i v : Nat) : (raiseWake s.enqueueRequest).rd i v = s.rd i v := rd_congr (by rw [hx]; rfl) i v
    have hcounted := ht.counted
    rw [Counted, hwake] at hcounted
    rw [exec_pennant, pennant_answered hop hm w hjudged]
    exact ⟨t, hnext, ht.answers, (ht.mailbox (by omega) (by omega) (by decide)).trans (hwake ..), hcounted, ht.table, ht.mem⟩
  case take =>
    intro s m hm hon hfull hword hnone hread
    have htaken := takenWord_wordTaken hnone hword
    have hclear : (wordTaken m s).rd (0x1810 + m) 0x02 = 0 := rd_wr_same s ..
    rw [exec_mailboxTake, mailboxTake_due hm hon hfull hnone hread]
    cases hok : wordOk (s.rd (0x1810 + m) 0x01) with
    | true =>
      rw [if_neg (by decide)]
      exact ⟨_, doneQuiet_eq rfl rfl rfl rfl rfl, hclear, fun _ => htaken, fun h => absurd h (by decide), rfl, rfl⟩
    | false =>
      have hanswered := answeredWord_answerWord htaken (code := 0x7F) (by decide)
        ((wordCode_lt (s.rd (0x1810 + m) 0x01)).trans (by decide))
      have hempty : (answerWord m 0x7F (wordCode (s.rd (0x1810 + m) 0x01)) (wordTaken m s)).rd (0x1810 + m) 0x02 = 0 := by
        rw [answerWord_taken htaken]
        exact (rd_modMast ..).trans ((rd_writeWord_host (m := m) (by decide) (by omega) ..).trans hclear)
      obtain ⟨o, x, heq⟩ := answerWord_eq m 0x7F (wordCode (s.rd (0x1810 + m) 0x01)) (wordTaken m s)
      rw [if_pos rfl]
      rw [heq] at hanswered hempty ⊢
      exact ⟨_, doneQuiet_eq rfl rfl rfl rfl rfl, hempty, fun h => absurd h (by decide), fun _ => hanswered, rfl, rfl⟩
  case echo =>
    intro s m w h
    rw [exec_echo, actOn_taken h]
    exact answers_word h (wordArg_lt w)
  case status =>
    intro s m w h hmode hload
    rw [exec_status, actOn_taken h]
    have hstate : s.rd 0x4000 0x11 ≤ 255 := hload
    exact answers_word h (by omega)
  case logFlush =>
    intro s m w h hheld hlog
    rw [exec_logFlush, actOn_taken h, hheld]
    exact answers_word h (by omega)
  case calDie =>
    intro s m w h hfirst halive hnone
    rw [exec_calDie, calDie_requested h hfirst halive hnone]
    exact ⟨_, doneQuiet_eq rfl rfl rfl rfl rfl, rfl, rfl, rfl, rfl⟩
  case notice =>
    intro s code value count rest hnotices hon hread hempty hnone hcode hvalue
    obtain ⟨hword, hfull⟩ := rd_writeWord (m := 7) (tag := count) hcode hvalue (s.modMast fun m => { m with notices := rest })
    obtain ⟨o, ho⟩ : ∃ o, writeWord 7 code count value (s.modMast fun m => { m with notices := rest }) =
        { s.modMast fun m => { m with notices := rest } with obj := o } := ⟨_, writeWord_same ..⟩
    rw [exec_notice, notice_given hnotices hon hread hempty hnone]
    rw [ho] at hword hfull ⊢
    exact ⟨_, doneQuiet_eq rfl rfl rfl rfl rfl, rfl, hword, hfull, rfl, rfl⟩

end Sys2Proof.Machine
end

section
/-! SPDM: requests taken up by the responder, sessions from their exchange to their end, and signed measurements (R488 to R492). -/

namespace Sys2Proof.Machine
open Sys2Proof

/-! ## The meanings of the commands -/

section Meanings
variable (s : State) (xid : Nat)

theorem exec_getCertificate (offset length : Nat) :
    exec (.getCertificate xid offset length) s = doneQuiet s (getCertificate xid offset length s) := rfl
theorem exec_negotiateAlgorithms (asym hash dhe aead sched : Nat) : exec (.negotiateAlgorithms xid asym hash dhe aead sched) s =
    doneQuiet s (negotiateAlgorithms xid [asym, hash, dhe, aead, sched] s) := rfl
theorem exec_keyExchange : exec (.keyExchange xid) s = doneQuiet s (keyExchange xid s) := rfl
theorem exec_finish (session : Nat) (name : Bytes) (rootKey : Nat) (chainOk : Bool) :
    exec (.finish session xid name rootKey chainOk) s = doneQuiet s (finish session xid name rootKey chainOk s) := rfl
theorem exec_endSession (session : Nat) : exec (.endSession session xid) s = doneQuiet s (endSession session xid s) := rfl
theorem exec_getMeasurements (session : Option Nat) (nonce : Bytes) :
    exec (.getMeasurements session xid nonce) s = doneQuiet s (getMeasurements session xid nonce s) := rfl
theorem exec_responseSigned : exec .responseSigned s = doneQuiet s (responseSigned s) := rfl
theorem exec_sessionTimeout (session : Nat) : exec (.sessionTimeout session) s = doneQuiet s (sessionTimeout session s) := rfl
theorem exec_sessionClose (r : DictReq) (data : Bytes) : exec (.sessionClose r data) s =
    doneQuiet s (dictWrite r 0x7800 0x08 data (fun _ _ => true) (fun _ c s => endSessionNow c.value s) s) := rfl

end Meanings

/-! ## A request taken up (R364, R505) -/

/-- The state in which a request is served: counted in the responder's queue, with the engine woken. -/
def spdmTaken (s : State) : State := raiseWake ((s.enqueueRequest).bump 0x1105 0x01 1)

theorem spdmServe_served {s : State} (h : SpdmServed s) (xid : Nat) (session : Option Nat) (body : State → State) :
    spdmServe xid session body s = body (spdmTaken s) := by
  obtain ⟨hup, hroom, hready⟩ := h
  have hserves : ¬(!(spdmTaken s).boot.ready && !(spdmTaken s).boot.recovery) = true := by
    obtain ⟨m, hm⟩ := raiseWake_eq ((s.enqueueRequest).bump 0x1105 0x01 1)
    have hboot : (spdmTaken s).boot = s.boot := by
      rw [spdmTaken, hm]
      rfl
    rw [hboot]
    rcases hready with h | h <;> simp [h]
  simp only [spdmServe, hup, Nat.not_le.mpr hroom]
  exact if_neg hserves

/-- The request leaves objects, the responder's queue and Masthead's wake behind, and no more. -/
theorem spdmTaken_eq (s : State) : ∃ o e m, spdmTaken s = { s with obj := o, eth := e, masthead := m } := by
  obtain ⟨m, hm⟩ := raiseWake_eq ((s.enqueueRequest).bump 0x1105 0x01 1)
  exact ⟨_, _, m, hm⟩

theorem rd_spdmTaken {i u : Nat} (h : objKey i u 0 ≠ objKey 0x1105 0x01 0) (s : State) : (spdmTaken s).rd i u = s.rd i u := by
  obtain ⟨m, hm⟩ := raiseWake_eq ((s.enqueueRequest).bump 0x1105 0x01 1)
  have hobj : (spdmTaken s).obj = ((s.enqueueRequest).bump 0x1105 0x01 1).obj := by rw [spdmTaken, hm]
  exact (rd_congr hobj i u).trans (rd_bump_other s.enqueueRequest _ _ _ h)

theorem getLast?_send (s : State) (o : Out) : (s.send o).out.getLast? = some o := by simp

/-! ## Sessions -/

theorem session?_congr {s t : State} (h : t.sec.sessions = s.sec.sessions) (i : Nat) : t.session? i = s.session? i := by
  rw [State.session?, State.session?, h]

/-- A change of a session that keeps its number leaves the others. -/
theorem session?_modSession_other {i j : Nat} {f : Session → Session} (hf : ∀ x, (f x).id = x.id) (h : j ≠ i) (s : State) :
    (s.modSession i f).session? j = s.session? j := by
  unfold State.session? State.modSession
  dsimp only
  induction s.sec.sessions with
  | nil => rfl
  | cons x xs ih =>
    rw [List.map_cons, List.find?_cons, List.find?_cons, ih]
    by_cases hx : x.id = i
    · simp [hx, hf, h.symm]
    · simp [hx]

/-- A session that ends is gone, and the others stay (R491). -/
theorem session?_endSessionNow_same (i : Nat) (s : State) : (endSessionNow i s).session? i = none := by
  refine List.find?_eq_none.mpr fun x hx => ?_
  simpa using (List.mem_filter.mp hx).2

theorem session?_endSessionNow_other {i j : Nat} (h : j ≠ i) (s : State) : (endSessionNow i s).session? j = s.session? j := by
  refine (List.find?_filter ..).trans (congrArg (fun p => s.sec.sessions.find? p) ?_)
  funext x
  by_cases hx : x.id = j
  · simp [hx, h]
  · simp [hx]

/-- A response opens no session. -/
theorem session?_respond_none {s : State} {i : Nat} (h : s.session? i = none) (r : DictReq) (status : Nat) (last : Bool) (value : Bytes) :
    (respond r status last value s).session? i = none := by
  unfold respond
  extract_lets s1 s2 s3 s4
  have h3 : s3.session? i = none := by
    unfold s3
    split_ifs <;> exact h
  have h4 : s4.session? i = none := by
    unfold s4
    split_ifs <;> exact h3
  cases r.session with
  | none => exact h4
  | some k =>
    have hkeeps (x : Session) : (if x.opened then
        { x with lastXid := some r.xid, lastResp := (status, last, value), lastBeat := s4.beat } else x).id = x.id := by
      split_ifs <;> rfl
    by_cases hk : i = k
    · subst hk
      exact (session?_modSession hkeeps s4).trans (by rw [h4]; rfl)
    · exact (session?_modSession_other hkeeps hk s4).trans h4

/-- The number that KEY_EXCHANGE gives out is no session's. -/
theorem session?_of_freeSession {s : State} {i : Nat} (h : s.freeSession = some i) : s.session? i = none := by
  have hfree := List.find?_some h
  refine List.find?_eq_none.mpr fun x hx hid => ?_
  simp only [Bool.not_eq_true', List.any_eq_false] at hfree
  exact hfree x hx hid

/-! ## Certificates and algorithms (R488, R489) -/

theorem getCertificate_served {s : State} (h : SpdmServed s) (xid : Nat) {offset : Nat}
    (hoffset : offset ≤ Config.certificateChain.length) (length : Nat) : getCertificate xid offset length s =
      (spdmTaken s).send (.spdm xid none "CERTIFICATE" [(Config.certificateChain.drop offset).take length,
        leBytes 2 (((Config.certificateChain.drop offset).drop length).length)]) := by
  rw [getCertificate, spdmServe_served h]
  exact if_neg (Nat.not_lt.mpr hoffset)

/-- An offer of all of the device's own algorithms selects them. -/
theorem negotiateAlgorithms_served {s : State} (h : SpdmServed s) (xid : Nat) {asym hash dhe aead sched : Nat}
    (hasym : bitOf asym 5 = true) (hhash : bitOf hash 2 = true) (hdhe : bitOf dhe 2 = true) (haead : bitOf aead 1 = true)
    (hsched : bitOf sched 0 = true) : negotiateAlgorithms xid [asym, hash, dhe, aead, sched] s =
      ((spdmTaken s).modSec fun x => { x with algOk := true }).send
        (.spdm xid none "ALGORITHMS" [leBytes 4 32, leBytes 4 4, leBytes 4 4, leBytes 4 2, leBytes 4 1]) := by
  rw [negotiateAlgorithms, spdmServe_served h]
  simp [algorithmBits, hasym, hhash, hdhe, haead, hsched]

/-! ## The exchange and the end of a session (R489 to R491) -/

/-- The session that KEY_EXCHANGE sets up. -/
def newSession (i beat : Nat) : Session := ⟨i, false, 2, 0, none, (0, false, []), beat, 0, 0, 0, 0, 0xFFFF⟩

theorem keyExchange_served {s : State} (h : SpdmServed s) (xid : Nat) {i : Nat} (hoffers : s.offersSessions = true)
    (halg : s.sec.algOk = true) (hfree : s.freeSession = some i) (hroom : s.sec.sigQueue.length < 64) : keyExchange xid s =
      (spdmTaken s).modSec fun x => { x with
        sessions := x.sessions ++ [newSession i s.beat], sigQueue := x.sigQueue ++ [⟨1, xid, some i, [], []⟩] } := by
  obtain ⟨o, e, m, htaken⟩ := spdmTaken_eq s
  rw [keyExchange, spdmServe_served h, htaken]
  have hoffers' : ({ s with obj := o, eth := e, masthead := m } : State).offersSessions = true := hoffers
  have hfree' : ({ s with obj := o, eth := e, masthead := m } : State).freeSession = some i := hfree
  simp only [hoffers', halg, hfree', Nat.not_le.mpr hroom]
  rfl

/-- The session set up is found under its number, and the others stay. -/
theorem session?_keyExchange {s t : State} {i : Nat} {x : Session} (hid : x.id = i) (hfree : s.session? i = none)
    (h : t.sec.sessions = s.sec.sessions ++ [x]) : t.session? i = some x ∧ ∀ j, j ≠ i → t.session? j = s.session? j := by
  have hfind (j : Nat) : t.session? j = (s.session? j).or ([x].find? fun y => y.id = j) := by
    rw [State.session?, h, List.find?_append]
    rfl
  refine ⟨?_, fun j hj => ?_⟩
  · rw [hfind, hfree]
    simp [hid]
  · rw [hfind]
    simp [hid, hj.symm]

section Finish
variable {s : State} {session : Nat} {x : Session} (hfound : s.session? session = some x) (hopened : x.opened = false)
include hfound hopened

/-- The session awaits its FINISH. -/
theorem sessionAwaits : ((spdmTaken s).sec.sessions.any fun x => x.id = session && !x.opened) = true := by
  obtain ⟨o, e, m, htaken⟩ := spdmTaken_eq s
  rw [htaken]
  refine List.any_eq_true.mpr ⟨x, List.mem_of_find?_eq_some hfound, ?_⟩
  have hid : x.id = session := by simpa using List.find?_some hfound
  simp [hid, hopened]

variable (h : SpdmServed s) (xid rootKey : Nat) {name : Bytes}
include h

theorem finish_accepted {role b : Nat} (hrecovery : s.boot.recovery = false) (hname : roleOfName name = some (role, b))
    (hroot : rootOk rootKey s = true) : finish session xid name rootKey true s =
      (((spdmTaken s).modSession session fun x => { x with opened := true, role := role, burgee := b, lastBeat := (spdmTaken s).beat }).bump
        0x7800 0x05 1).send (.spdm xid (some session) "FINISH_RSP" []) := by
  have hawaits := sessionAwaits hfound hopened
  have hroot' : rootOk rootKey (spdmTaken s) = true := by
    obtain ⟨o, e, m, htaken⟩ := spdmTaken_eq s
    rw [htaken]
    exact hroot
  have hrecovery' : (spdmTaken s).boot.recovery = false := by
    obtain ⟨o, e, m, htaken⟩ := spdmTaken_eq s
    rw [htaken]
    exact hrecovery
  rw [finish, spdmServe_served h]
  simp [hawaits, hname, hroot', hrecovery']

/-- A leaf of no role ends the handshake. -/
theorem finish_refused (hname : roleOfName name = none) : finish session xid name rootKey true s =
    ((endSessionNow session (spdmTaken s)).bump 0x7800 0x06 1).send (.spdm xid (some session) "ERROR" []) := by
  have hawaits := sessionAwaits hfound hopened
  rw [finish, spdmServe_served h]
  simp [hawaits, hname]

end Finish

theorem endSession_served {s : State} (h : SpdmServed s) {session : Nat} (xid : Nat) (hopen : s.sessionOpen session = true) :
    endSession session xid s = (endSessionNow session (spdmTaken s)).send (.spdm xid (some session) "END_SESSION_ACK" []) := by
  have hopen' : (spdmTaken s).sessionOpen session = true := by
    obtain ⟨o, e, m, htaken⟩ := spdmTaken_eq s
    rw [htaken]
    exact hopen
  rw [endSession, spdmServe_served h]
  exact if_pos hopen'

/-- After 60 s without a secured message a session ends. -/
theorem sessionTimeout_due {s : State} {session : Nat} {x : Session} (hfound : s.session? session = some x)
    (hdue : x.lastBeat + 58593750 ≤ s.beat) : ∃ u, SameButObj s u ∧ sessionTimeout session s = endSessionNow session u := by
  refine ⟨s.late (x.lastBeat + sessionBeats), .late .., ?_⟩
  rw [sessionTimeout, hfound]
  simp [sessionBeats, Nat.not_lt.mpr hdue]

/-! ## Measurements (R492) -/

/-- Taking a request up changes nothing that is measured. -/
theorem measurements_spdmTaken (s : State) : (spdmTaken s).measurements = s.measurements := by
  have hstate : (spdmTaken s).loadState = s.loadState := rd_spdmTaken (by decide) s
  have hprofile : (spdmTaken s).rd 0x1400 0x01 = s.rd 0x1400 0x01 := rd_spdmTaken (by decide) s
  obtain ⟨o, e, m, htaken⟩ := spdmTaken_eq s
  have hoct (i u n : Nat) (d : Bytes) : (spdmTaken s).oct? i u n d = s.oct? i u n d := by
    rw [htaken]
    rfl
  have hsec : (spdmTaken s).sec = s.sec := by rw [htaken]
  simp only [State.measurements, State.profileInEffect, hstate, hprofile, hoct, hsec]

/-- The blocks as they stand wait for their signature. -/
theorem getMeasurements_served {s : State} (h : SpdmServed s) (xid : Nat) (nonce : Bytes) (hoffers : s.offersSessions = true)
    (hroom : s.sec.sigQueue.length < 64) : getMeasurements none xid nonce s =
      (spdmTaken s).modSec fun x => { x with sigQueue := x.sigQueue ++ [⟨0, xid, none, nonce, s.measurements⟩] } := by
  have hmeasured := measurements_spdmTaken s
  obtain ⟨o, e, m, htaken⟩ := spdmTaken_eq s
  have hoffers' : (spdmTaken s).offersSessions = true := by
    rw [htaken]
    exact hoffers
  have hroom' : ¬64 ≤ (spdmTaken s).sec.sigQueue.length := by
    rw [htaken]
    exact Nat.not_le.mpr hroom
  rw [getMeasurements, spdmServe_served h]
  simp [hoffers', hroom', hmeasured]

theorem responseSigned_next {s : State} {q : SigReq} {rest : List SigReq} (hqueue : s.sec.sigQueue = q :: rest) (hkind : q.kind = 0)
    (hoffers : s.offersSessions = true) (hengine : s.domainOn 97 = true) : responseSigned s =
      (s.modSec fun x => { x with sigQueue := rest }).send
        (.spdm q.xid q.session "MEASUREMENTS" (q.blocks ++ [Config.sign (q.blocks.flatten ++ q.nonce)])) := by
  simp [responseSigned, hqueue, hoffers, hengine, hkind]

/-- The row of the command that closes a session (R491). -/
def sessionCloseRow : ObjRow := ⟨0x7800, 0x7800, 0x08, 0x08, .uint, 1, .wo, 0, 0, 63⟩

theorem writable_sessionClose {b : Byte} (hmost : b.toNat ≤ 63) : Writable 0x7800 0x08 sessionCloseRow [b] :=
  writable_commandByte (by decide) (by decide +kernel) rfl rfl rfl (Nat.zero_le _) hmost (fun _ _ _ => by simp [rights]) rfl

/-- Settles O52: each request is served on `spdmTaken`, and sessions are found again through `modSession` and `endSessionNow`. -/
theorem sessionsOpenMeasureAndEnd : Obligations.SessionsOpenMeasureAndEnd := by
  refine ⟨?certificate, ?algorithms, ?exchange, ?finish, ?refused, ?ended, ?measured, ?signed, ?timeout, ?closed⟩
  case certificate =>
    intro s xid offset length h hoffset
    obtain ⟨o, e, m, htaken⟩ := spdmTaken_eq s
    rw [exec_getCertificate, getCertificate_served h xid hoffset, htaken]
    exact ⟨_, doneQuiet_eq rfl rfl rfl rfl rfl, getLast?_send .., rfl, rfl⟩
  case algorithms =>
    intro s xid asym hash dhe aead sched h hasym hhash hdhe haead hsched
    obtain ⟨o, e, m, htaken⟩ := spdmTaken_eq s
    rw [exec_negotiateAlgorithms, negotiateAlgorithms_served h xid hasym hhash hdhe haead hsched, htaken]
    exact ⟨_, doneQuiet_eq rfl rfl rfl rfl rfl, rfl, getLast?_send .., rfl, rfl⟩
  case exchange =>
    intro s xid i h hoffers halg hfree hroom
    obtain ⟨o, e, m, htaken⟩ := spdmTaken_eq s
    rw [exec_keyExchange, keyExchange_served h xid hoffers halg hfree hroom, htaken]
    obtain ⟨hsession, hothers⟩ := session?_keyExchange (s := s) (x := newSession i s.beat)
      (t := ({ s with obj := o, eth := e, masthead := m } : State).modSec fun x => { x with
        sessions := x.sessions ++ [newSession i s.beat], sigQueue := x.sigQueue ++ [⟨1, xid, some i, [], []⟩] })
      rfl (session?_of_freeSession hfree) rfl
    exact ⟨_, _, doneQuiet_eq rfl rfl rfl rfl rfl, hsession, rfl, rfl, hothers, rfl⟩
  case finish =>
    intro s session xid rootKey role b name x h hrecovery hfound hopened hname hroot
    have hcounted : Counted s ((spdmTaken s).bump 0x7800 0x05 1) 0x7800 0x05 1 := by
      rw [Counted, rd_bump_same, rd_spdmTaken (by decide)]
    obtain ⟨o, e, m, htaken⟩ := spdmTaken_eq s
    have hkeeps (y : Session) : ({ y with opened := true, role := role, burgee := b, lastBeat := s.beat } : Session).id = y.id := rfl
    have hsame := session?_modSession hkeeps (i := session) { s with obj := o, eth := e, masthead := m }
    rw [exec_finish, finish_accepted hfound hopened h xid rootKey hrecovery hname hroot]
    rw [htaken] at hcounted ⊢
    exact ⟨_, _, doneQuiet_eq rfl rfl rfl rfl rfl, hsame.trans (congrArg (Option.map _) hfound), rfl, rfl, rfl, hcounted,
      getLast?_send .., fun j hj => session?_modSession_other hkeeps hj { s with obj := o, eth := e, masthead := m }, rfl⟩
  case refused =>
    intro s session xid rootKey name x h hfound hopened hname
    have hcounted : Counted s ((spdmTaken s).bump 0x7800 0x06 1) 0x7800 0x06 1 := by
      rw [Counted, rd_bump_same, rd_spdmTaken (by decide)]
    have hgone := session?_endSessionNow_same session (spdmTaken s)
    obtain ⟨o, e, m, htaken⟩ := spdmTaken_eq s
    rw [exec_finish, finish_refused hfound hopened h xid rootKey hname]
    rw [htaken] at hcounted hgone ⊢
    exact ⟨_, doneQuiet_eq rfl rfl rfl rfl rfl, hgone, hcounted, rfl⟩
  case ended =>
    intro s session xid h hopen
    have hgone := session?_endSessionNow_same session (spdmTaken s)
    have hothers (j : Nat) (hj : j ≠ session) := session?_endSessionNow_other hj (spdmTaken s)
    obtain ⟨o, e, m, htaken⟩ := spdmTaken_eq s
    rw [exec_endSession, endSession_served h xid hopen]
    rw [htaken] at hgone hothers ⊢
    exact ⟨_, doneQuiet_eq rfl rfl rfl rfl rfl, hgone, getLast?_send .., hothers, rfl⟩
  case measured =>
    intro s xid nonce h hoffers hroom
    obtain ⟨o, e, m, htaken⟩ := spdmTaken_eq s
    rw [exec_getMeasurements, getMeasurements_served h xid nonce hoffers hroom, htaken]
    exact ⟨_, doneQuiet_eq rfl rfl rfl rfl rfl, rfl, rfl, rfl⟩
  case signed =>
    intro s q rest hqueue hkind hoffers hengine
    rw [exec_responseSigned, responseSigned_next hqueue hkind hoffers hengine]
    exact ⟨_, doneQuiet_eq rfl rfl rfl rfl rfl, rfl, rfl, rfl, rfl⟩
  case timeout =>
    intro s session x hfound hdue
    obtain ⟨u, hsame, heq⟩ := sessionTimeout_due hfound hdue
    obtain ⟨o, rfl⟩ : ∃ o, u = { s with obj := o } := ⟨_, hsame⟩
    have hothers (j : Nat) (hj : j ≠ session) := session?_endSessionNow_other hj { s with obj := o }
    rw [exec_sessionTimeout, heq]
    exact ⟨_, doneQuiet_eq rfl rfl rfl rfl rfl, session?_endSessionNow_same .., hothers, rfl, rfl⟩
  case closed =>
    intro r b s hop hfree hmost
    have hvalue : (operatorCtx r s 0x7800 0x08 [b]).value = b.toNat := beNat_singleton b
    rw [exec_sessionClose, dictWrite, dictWriteElse_accepted hop hfree (writable_sessionClose hmost) rfl, if_neg (by decide), hvalue]
    exact ⟨_, doneQuiet_respond _ _ _ _ _ rfl rfl rfl rfl rfl, answers_respond ..,
      session?_respond_none (session?_endSessionNow_same ..) .., respond_table .., respond_mem ..⟩

end Sys2Proof.Machine
end
